-- ==== Sys2Proof/Word.lean ====
section
/-! DEFINITION. The words of the model: 32-bit and 64-bit words, and times in grains with their epoch. -/
namespace Sys2Proof

/-- A 32-bit word, the unit in which the SPS and Furlong carry values (R46). -/
abbrev Word := BitVec 32

/-- A byte of a DOMAIN image or of a frame. -/
abbrev Byte := BitVec 8

/-- A time on the device's time base: the 16-bit epoch (R82) above the 52-bit grain count (R5). -/
abbrev Time := BitVec 68

end Sys2Proof
end

