-- ==== Sys2Proof/Syntax.lean ====
section
/-! DEFINITION. The commands and events of the OPX-5164, one constructor for each row of opcode_table.json, with the
operands that come from outside the machine. -/
namespace Sys2Proof

/-- A dictionary interface as an owner (R39): for Furlong, with the source hop of the packet. -/
inductive Iface where
  | can | sps | furlong (hop : BitVec 16) | csv
  deriving DecidableEq, Repr

/-- How an SPS frame ends (R354): whole, by CS_N inside a word or a fixed phase, or with a CMD byte that Table 16.2 does not
list in place of its own. -/
inductive FrameEnd where
  | whole | cut | unknownCommand
  deriving DecidableEq, Repr

/-- The host trailer of an SPS frame (R354); of no meaning in plain mode. -/
structure FrameTrailer where
  alive : BitVec 4
  crc   : BitVec 12
  deriving DecidableEq, Repr

/-- What start-up finds in the RNVM areas (R451, Table 22.4): READABLE, the validity of each area, the overlay slots 1–16 that
read back valid, reads that ECC corrected, and the addresses of words that it could not correct (R450). -/
structure AreaCheck where
  readable  : Bool
  base      : Bool
  safe      : Bool
  trims     : Bool
  events    : Bool
  overlays  : BitVec 16
  corrected : BitVec 16
  bad       : List (BitVec 32)
  deriving DecidableEq, Repr

/-- What an in-service test runs on (R454, R455): a site, or the spare DSP of a region. -/
inductive TestPlace where
  | site (i : Fin 64)
  | spare (q : Fin 4)
  deriving DecidableEq, Repr

/-- What the output stage of a bridge unit reports when a condition of Table 7.3 has persisted: the condition, with the force
current in µA where the unit's own state decides beside it. -/
inductive OutputReport where
  | compliance (out : BitVec 16) | openLoad (out : BitVec 16) | senseOpen
  deriving DecidableEq, Repr

/-- A command or event of the block: one constructor for each row of opcode_table.json. -/
inductive Instr where
  /-- STATE_REQ_POWER_UP (R29): A committed STATE_REQ = POWER_UP starts powering an OFF site towards PARKED, or is refused with STATE. -/
  | stateReqPowerUp (iface : Iface) (site : Fin 64)
  /-- STATE_REQ_POWER_DOWN (R29): A committed STATE_REQ = POWER_DOWN starts taking a PARKED, SAFE or FENCED site to OFF. -/
  | stateReqPowerDown (iface : Iface) (site : Fin 64)
  /-- STATE_REQ_UNPARK (R29): A committed STATE_REQ = UNPARK starts closing the isolation switches of a PARKED site, with the main PLL in FULL and locked. -/
  | stateReqUnpark (iface : Iface) (site : Fin 64)
  /-- STATE_REQ_PARK (R29): A committed STATE_REQ = PARK halts the PSQ, abandons the MSE routine and starts moving the outputs to their safe values before isolation. -/
  | stateReqPark (iface : Iface) (site : Fin 64)
  /-- STATE_REQ_FENCE (R29): A committed STATE_REQ = FENCE starts isolating a PARKED, READY or SAFE site and stops its DSP. -/
  | stateReqFence (iface : Iface) (site : Fin 64)
  /-- STATE_REQ_UNFENCE (R29): A committed STATE_REQ = UNFENCE starts returning a FENCED site to PARKED and ends any in-service test in progress. -/
  | stateReqUnfence (iface : Iface) (site : Fin 64)
  /-- POWER_UP_COMPLETE (R29): The POWER_UP transition completes: site memories read 0, site objects are reloaded and the site reads PARKED. -/
  | powerUpComplete (site : Fin 64)
  /-- POWER_DOWN_COMPLETE (R29): The POWER_DOWN transition completes and the site reads OFF with its domains gated. -/
  | powerDownComplete (site : Fin 64)
  /-- UNPARK_COMPLETE (R29): The isolation switches report closed, the site reads READY and the excitation starts slewing to its setpoint. -/
  | unparkComplete (site : Fin 64)
  /-- PARK_COMPLETE (R29): The bridge outputs have reached their safe values and the isolation has opened, so the site reads PARKED. -/
  | parkComplete (site : Fin 64)
  /-- FENCE_COMPLETE (R29): The outputs are isolated and the site reads FENCED. -/
  | fenceComplete (site : Fin 64)
  /-- UNFENCE_COMPLETE (R29): The UNFENCE transition completes and the site reads PARKED. -/
  | unfenceComplete (site : Fin 64)
  /-- STREAM_WORD_GRANT (R22): The site stream writer grants one word, or the three words of a mark, to the chosen requester while the FIFO has room. -/
  | streamWordGrant (site : Fin 64)
  /-- ECHO (R36): The CSV raw service ECHO returns its argument words in order. -/
  | echo
  /-- VERSION (R36): The CSV raw service VERSION returns CSV_VERSION and QC_VERSION. -/
  | version
  /-- DICT_READ (R36): The CSV raw service DICT_READ reads a run of subindices and returns their values. -/
  | dictRead
  /-- DICT_WRITE (R36): The CSV raw service DICT_WRITE checks and applies, or stages, a run of subindices as the CSV interface. -/
  | dictWrite
  /-- RAW_UNKNOWN_SERVICE (R36): A raw request with an unlisted SERVICE is answered with GENERAL and no reply words, and its arguments are removed. -/
  | rawUnknownService
  /-- CSV_REPLY_ROOM (R36): Room appears in the CSV-to-SPS mailbox, so the CSV places the waiting reply and takes the next request. -/
  | csvReplyRoom
  /-- QC_HEARTBEAT_MISS (R35): A QC misses 4 consecutive 1 ms heartbeats and the CSV stops servicing the watchdog. -/
  | qcHeartbeatMiss (region : Fin 4)
  /-- WATCHDOG_EXPIRY (R35): The 100 ms CSV watchdog expires and causes a WATCHDOG reset. -/
  | watchdogExpiry
  /-- REGISTER_WRITE (R40): A write to a subindex with no row of its own is checked and then staged or applied by the Commit Unit, or written at once when it carries no T. -/
  | registerWrite (iface : Iface) (index : BitVec 16) (sub : BitVec 8) (words : List (BitVec 32))
  /-- MODE_CHANGE (R73): A committed MODE change moves the main PLL to ACQUIRE, gates the fast clocks and holds the CKOs low until the PLL relocks. -/
  | modeChange (iface : Iface) (mode : BitVec 8)
  /-- LOCK_CRITERION_MET (R62): N consecutive REFCLK periods within ±W end, and the PLL enters LOCKED or SLEW and restores the clocks. -/
  | lockCriterionMet
  /-- LOCK_LOST (R62): The 4th consecutive period beyond ±4W ends, the PLL enters UNLOCKED and presents PLL_LOCK_LOST. -/
  | lockLost
  /-- REF_LOST (R65): No REFCLK edge arrives for 4 expected periods, so the PLL enters HOLDOVER, marks HOLDOVER_START and presents REF_LOST. -/
  | refLost
  /-- HOLDOVER_LONG (R65): The holdover outlasts HOLDOVER_MAX and kind HOLDOVER_LONG is presented. -/
  | holdoverLong
  /-- REFCLK_QUALIFIED (R66): REFCLK qualifies after a loss, so the PLL enters RETURN and measures J; before core release it also ends the reset hold. -/
  | refclkQualified (phase : BitVec 16)
  /-- RESYNC_TIMEOUT (R69): No usable SYNC_IN edge arrives within RESYNC_TIMEOUT, so SYNC_MISSING is presented and the PLL keeps waiting or takes J from the phase. -/
  | resyncTimeout
  /-- SLEW_END (R68): The slew correction reaches zero, the PLL returns to LOCKED and a SLEW_END mark is placed. -/
  | slewEnd
  /-- EPOCH_WRAP (R82): The grain count wraps, EPOCH_COUNT increments, and EPOCH marks and an EPOCH packet are sent. -/
  | epochWrap
  /-- SYNC_EDGE (R78): An accepted SYNC_IN edge is stamped and corrected, and its armed actions, grid check, J measurement or RESYNC step are applied. -/
  | syncEdge (coarse : BitVec 42) (fine : Fin 1280)
  /-- CKO_WRITE (R75): A committed change to a running CKO output takes effect at its terminal count or next low phase without a short pulse. -/
  | ckoWrite (iface : Iface) (output : Fin 4) (sub : Fin 4) (value : BitVec 32)
  /-- LEVEL_MOVE_DONE (R86): A slewed level DAC reaches its target code and LEVEL_BUSY returns to 0. -/
  | levelMoveDone (site : Fin 64) (cell : Fin 8) (which : Fin 4)
  /-- CMP_EDGE (R90): A comparator output changes, which sets its sticky flag, captures a stamp and reaches the matcher and the pattern compare. -/
  | cmpEdge (site : Fin 64) (cell : Fin 8) (hi : Bool) (coarse : BitVec 42) (fine : Fin 1280)
  /-- PC_FLAG_CLR (R92): A write of 1 to PC_FLAG_CLR clears the matching pin-cell sticky flags unless their cause recurs in that cycle. -/
  | pcFlagClr (iface : Iface) (site : Fin 64) (cell : Fin 8) (bits : BitVec 32)
  /-- DRV_OVERLOAD (R88): A driver reaches its output current limit, is held there, sets DRV_OVERLOAD and presents PIN_OVERLOAD. -/
  | drvOverload (site : Fin 64) (cell : Fin 8)
  /-- OWNER_CHANGE (R96): A committed OWNER change hands the ball between the driver and the PPMU with a 10 ns undriven gap. -/
  | ownerChange (iface : Iface) (site : Fin 64) (cell : Fin 8) (mode : BitVec 32)
  /-- PPMU_IRANGE_CHANGE (R97): A committed IRANGE change starts a make-before-break range switch at the held value. -/
  | ppmuIrangeChange (iface : Iface) (site : Fin 64) (cell : Fin 8) (value : BitVec 32)
  /-- PPMU_RANGE_DONE (R97): The PPMU range switch completes and RANGE_BUSY returns to 0. -/
  | ppmuRangeDone (site : Fin 64) (cell : Fin 8)
  /-- PPMU_START (R100): A committed START begins a PPMU measurement with its settle time, is ignored while busy, or is refused when OWNER is not PPMU. -/
  | ppmuStart (iface : Iface) (site : Fin 64) (cell : Fin 8) (value : BitVec 32)
  /-- PPMU_SETTLE_DONE (R99): The settle time ends and the PPMU requests conversions, or ends with NO_CONVERTER. -/
  | ppmuSettleDone (site : Fin 64) (cell : Fin 8)
  /-- PPMU_CONVERSION_DONE (R99): A granted conversion completes; after the last one the mean is written to PC_MEAS and MEAS_DONE is set. -/
  | ppmuConversionDone (site : Fin 64) (cell : Fin 8) (value : BitVec 32) (saturated : Bool)
  /-- TIMING_FLAG_CLR (R114): A write of 1 to TIMING_FLAG_CLR clears EDGE_COLLISION and COUNT of a cell. -/
  | timingFlagClr (iface : Iface) (site : Fin 64) (cell : Fin 8) (bits : BitVec 32)
  /-- ADV (R126): The vector executes its pin codes, edges, compares and markers and then advances sequentially, clearing the fail flags when CLRF = 1. -/
  | adv (site : Fin 64) (below : BitVec 8) (inside : BitVec 8) (above : BitVec 8)
  /-- JMP (R126): The vector executes and the next vector is its target. -/
  | jmp (site : Fin 64) (below : BitVec 8) (inside : BitVec 8) (above : BitVec 8)
  /-- JMP_IF (R127): The vector executes, and the PSQ branches to its target when COND holds at its end. -/
  | jmpIf (site : Fin 64) (below : BitVec 8) (inside : BitVec 8) (above : BitVec 8)
  /-- PSQ_CALL (R130): The vector executes, the next address is pushed and the PSQ branches to the target. -/
  | psqCall (site : Fin 64) (below : BitVec 8) (inside : BitVec 8) (above : BitVec 8)
  /-- PSQ_RET (R130): The vector executes, the stack is popped and the PSQ continues at the popped address. -/
  | psqRet (site : Fin 64) (below : BitVec 8) (inside : BitVec 8) (above : BitVec 8)
  /-- LOOP_BEGIN (R129): The vector executes, checks its LOOP_END and arms counter k for the body. -/
  | loopBegin (site : Fin 64) (below : BitVec 8) (inside : BitVec 8) (above : BitVec 8)
  /-- LOOP_END (R129): The vector executes and decrements its armed counter, repeating the body while the counter is not 0. -/
  | loopEnd (site : Fin 64) (below : BitVec 8) (inside : BitVec 8) (above : BitVec 8)
  /-- WAIT_EVENT (R132): The vector executes, and when COND is false at its end the PSQ enters WAIT. -/
  | waitEvent (site : Fin 64) (below : BitVec 8) (inside : BitVec 8) (above : BitVec 8)
  /-- MATCH (R131): The vector repeats until a pass becomes known or M repetitions have run. -/
  | matchVec (site : Fin 64) (below : BitVec 8) (inside : BitVec 8) (above : BitVec 8)
  /-- SYNC_WAIT (R132): The vector executes and the PSQ waits for the next accepted SYNC edge. -/
  | syncWait (site : Fin 64) (below : BitVec 8) (inside : BitVec 8) (above : BitVec 8)
  /-- PSQ_TRIG (R126): The vector executes and pulses its site trigger line for one CK_PAT cycle. -/
  | psqTrig (site : Fin 64) (below : BitVec 8) (inside : BitVec 8) (above : BitVec 8)
  /-- CAL_PERMIT (R133): The vector executes, and with calibration pending the site enters CAL while the PSQ enters CAL_HOLD. -/
  | calPermit (site : Fin 64) (below : BitVec 8) (inside : BitVec 8) (above : BitVec 8)
  /-- PSQ_HALT (R126): The vector executes and the PSQ stops with STOP_CAUSE = HALT. -/
  | psqHalt (site : Fin 64) (below : BitVec 8) (inside : BitVec 8) (above : BitVec 8)
  /-- PSQ_START (R146): A committed CMD = START starts the PSQ at START_ADDR, with its first time zero under R118. -/
  | psqStart (iface : Iface) (site : Fin 64)
  /-- PSQ_STOP (R146): A committed CMD = STOP stops the PSQ at the first boundary at least 8 CK_PAT cycles later. -/
  | psqStop (iface : Iface) (site : Fin 64)
  /-- PSQ_GOTO (R145): A committed PSQ_GOTO replaces the next vector at a boundary, ends a wait or changes the CAL resume address. -/
  | psqGoto (iface : Iface) (site : Fin 64) (target : BitVec 16)
  /-- PSQ_FLAG_CLR (R128): A write to PSQ_FLAG_CLR clears the matching PSQ_STATUS flags. -/
  | psqFlagClr (iface : Iface) (site : Fin 64) (bits : BitVec 32)
  /-- PSQ_FILL_REGION (R142): A committed PSQ_FILL with SRC = REGION starts filling a segment from region pattern memory, broadcast with equal fills of other sites. -/
  | psqFillRegion (iface : Iface) (site : Fin 64) (seg : Fin 8) (count : BitVec 12) (start : BitVec 28)
  /-- PSQ_FILL_XIP (R141): A committed PSQ_FILL with SRC = XIP queues a segment fill from the execute-in-place window. -/
  | psqFillXip (iface : Iface) (site : Fin 64) (seg : Fin 8) (count : BitVec 12) (start : BitVec 28)
  /-- SEG_DATA_WRITE (R139): A DOMAIN write to PSQ_SEG_DATA fills an INACTIVE segment, or is refused with SEG_BUSY. -/
  | segDataWrite (iface : Iface) (site : Fin 64) (seg : Fin 8) (bytes : List (BitVec 8))
  /-- SEG_FILL_DONE (R140): A segment fill completes, setting FILLED or leaving FILL_ERR, and the segment may become ARMED. -/
  | segFillDone (site : Fin 64) (seg : Fin 8)
  /-- PSQ_SEG_CHAIN_WRITE (R147): A committed chain entry changes a segment's successor or policies, or is refused for an ACTIVE segment. -/
  | psqSegChainWrite (iface : Iface) (site : Fin 64) (seg : Fin 8) (value : BitVec 16)
  /-- RG_PAT_MEM_WRITE (R143): A DOMAIN write to region pattern memory lands from RG_PAT_WIN.BASE, or is refused while a fill reads its range. -/
  | rgPatMemWrite (iface : Iface) (region : Fin 4) (bytes : List (BitVec 8))
  /-- WAIT_RESUME (R132): The WAIT_EVENT condition is sampled true and the next vector starts on the grid at least 8 CK_PAT cycles later. -/
  | waitResume (site : Fin 64)
  /-- WAIT_TIMEOUT (R132): The WAIT_EVENT or SYNC_WAIT timeout elapses and the PSQ stops with TIMEOUT and WAIT_TO. -/
  | waitTimeout (site : Fin 64)
  /-- UNDERRUN_RESUME (R144): The successor becomes ARMED during an underrun and its first vector starts on the grid at least 8 CK_PAT cycles later. -/
  | underrunResume (site : Fin 64)
  /-- UNDERRUN_TIMEOUT (R144): UNDERRUN_TMO elapses during an underrun and the PSQ stops with STOP_CAUSE = UNDERRUN. -/
  | underrunTimeout (site : Fin 64)
  /-- BU_OUTPUT_ON (R155): OUTPUT 0 → 1 in READY or RUNNING closes the isolation switches at the preset code. -/
  | buOutputOn (iface : Iface) (site : Fin 64) (unit : Fin 2) (ctrl : BitVec 32)
  /-- BU_OUTPUT_OFF (R155): OUTPUT 1 → 0 slews the working code to 0, after which the switches open. -/
  | buOutputOff (iface : Iface) (site : Fin 64) (unit : Fin 2) (ctrl : BitVec 32)
  /-- SWITCHES_CLOSED (R155): The isolation switches report closed and the slew to the setpoint begins. -/
  | switchesClosed (site : Fin 64) (unit : Fin 2)
  /-- SLEW_MOVE_DONE (R156): A slewed bridge quantity reaches its target; SLEW_BUSY clears, or the switches open after a move to 0 or to a safe value. -/
  | slewMoveDone (site : Fin 64) (unit : Fin 2) (ampl : Bool)
  /-- BU_WAVE_CHANGE (R161): A committed WAVE change starts the DC–sine transition, zeroing the accumulator or switching the table. -/
  | buWaveChange (iface : Iface) (site : Fin 64) (unit : Fin 2) (ctrl : BitVec 32)
  /-- BU_SINE_WRITE (R160): A committed FTW or PHASE change applies to a running sine from the first CK_PAT edge of the commit cycle. -/
  | buSineWrite (iface : Iface) (site : Fin 64) (unit : Fin 2) (value : BitVec 64)
  /-- BU_GAIN_CHANGE (R171): A committed GAIN change starts a make-before-break switch through the hold value. -/
  | buGainChange (iface : Iface) (site : Fin 64) (unit : Fin 2) (value : BitVec 32)
  /-- RANGE_SWITCH_DONE (R171): The bridge range switch completes, RANGE_BUSY clears and the code slews to SETPOINT in the new range. -/
  | rangeSwitchDone (site : Fin 64) (unit : Fin 2)
  /-- BU_USER_TABLE_WRITE (R163): A DOMAIN write loads user sine-table entries from entry 0, or is refused. -/
  | buUserTableWrite (iface : Iface) (site : Fin 64) (unit : Fin 2) (bytes : List (BitVec 8))
  /-- BU_SAFE_VALUE_WRITE (R169): A committed safe value takes effect and its RNVM copy is written under the two-phase rule. -/
  | buSafeValueWrite (iface : Iface) (site : Fin 64) (unit : Fin 2) (value : BitVec 32)
  /-- BU_FLAG_CLR (R168): A write of 1 to BU_FLAG_CLR clears the matching bridge-unit flags unless their cause recurs. -/
  | buFlagClr (iface : Iface) (site : Fin 64) (unit : Fin 2) (bits : BitVec 32)
  /-- SUPERVISION_QUALIFY (R166): A compliance, open-load or sense-open condition persists for its qualify time, sets its flag and presents its kind. -/
  | supervisionQualify (site : Fin 64) (unit : Fin 2) (which : OutputReport)
  /-- LOCAL_SENSE_END (R167): The sense-open condition has been absent for 10 µs and the unit leaves local sense. -/
  | localSenseEnd (site : Fin 64) (unit : Fin 2)
  /-- LIMIT_ONSET (R164): The load would draw more than I_eff, so the output is limited and LIMITED is set. -/
  | limitOnset (site : Fin 64) (unit : Fin 2) (sensed : BitVec 16)
  /-- LIMIT_RELEASE (R165): The current limit stops acting and the working code slews back to its target. -/
  | limitRelease (site : Fin 64) (unit : Fin 2)
  /-- ACQ_CONTINUOUS (R180): ACQ committed to CONTINUOUS starts the modulators at the next CK_MOD edge, with a new T_START. -/
  | acqContinuous (iface : Iface) (site : Fin 64) (unit : Fin 2) (cfg : BitVec 32)
  /-- ACQ_OFF (R180): ACQ committed to OFF stops the modulators of the unit. -/
  | acqOff (iface : Iface) (site : Fin 64) (unit : Fin 2) (cfg : BitVec 32)
  /-- ACQ_MSE_MODE (R180): ACQ committed to MSE hands the start and the stop of acquisition to the MSE micro-ops. -/
  | acqMseMode (iface : Iface) (site : Fin 64) (unit : Fin 2) (cfg : BitVec 32)
  /-- ADC_CFG_RESTART (R187): A committed RATE or DEMOD change restarts acquisition with a new T_START and SEQ from 1. -/
  | adcCfgRestart (iface : Iface) (site : Fin 64) (unit : Fin 2) (cfg : BitVec 32)
  /-- ADC_CFG_CHANGE (R187): A committed range, source or guard change takes effect at the next sinc⁴ boundary and tags DISTURBED. -/
  | adcCfgChange (iface : Iface) (site : Fin 64) (unit : Fin 2) (cfg : BitVec 32)
  /-- SINC4_OUTPUT (R175): A sinc⁴ SIG and REF pair completes every 5 µs and enters the DSP input FIFO with its phase and tags. -/
  | sinc4Output (site : Fin 64) (unit : Fin 2) (sig : BitVec 32) (ref : BitVec 32) (ovl : BitVec 3)
  /-- MSE_NOP (R195): The MSE microword NOP does nothing for one cycle. -/
  | mseNop (site : Fin 64)
  /-- MSE_LDI (R195): LDI loads a zero-extended immediate into a register. -/
  | mseLdi (site : Fin 64)
  /-- LDH (R195): LDH loads the upper 16 bits of a register. -/
  | ldh (site : Fin 64)
  /-- MSE_ADDI (R195): ADDI adds a sign-extended immediate and sets the flags. -/
  | mseAddi (site : Fin 64)
  /-- MSE_ALU (R195): ALU applies the function fn to two registers and sets the flags. -/
  | mseAlu (site : Fin 64)
  /-- CMPI (R195): CMPI sets the flags of a register minus an immediate. -/
  | cmpi (site : Fin 64)
  /-- MSE_CMP (R195): CMP sets the flags of ra minus rb. -/
  | mseCmp (site : Fin 64)
  /-- MSE_BR (R195): BR branches when its condition holds. -/
  | mseBr (site : Fin 64)
  /-- MSE_CALL (R195): CALL pushes the next address and branches when its condition holds. -/
  | mseCall (site : Fin 64)
  /-- MSE_RET (R195): RET pops the return stack and continues at the popped address. -/
  | mseRet (site : Fin 64)
  /-- DJNZ (R195): DJNZ decrements a register and branches while it is not 0. -/
  | djnz (site : Fin 64)
  /-- WAITC (R195): WAITC starts a wait of an immediate number of cycles. -/
  | waitc (site : Fin 64)
  /-- WAITE (R196): WAITE starts waiting for an event, with a register timeout. -/
  | waite (site : Fin 64)
  /-- WAITR (R195): WAITR starts a wait of a register number of cycles. -/
  | waitr (site : Fin 64)
  /-- MSE_WAIT_END (R196): An MSE wait ends when its event holds or its cycle count or timeout elapses, setting or clearing TO. -/
  | mseWaitEnd (site : Fin 64)
  /-- SETDAC (R197): SETDAC changes a bridge or pin-cell setpoint or level as a commit would, or sets RJ. -/
  | setdac (site : Fin 64)
  /-- SETRNG (R197): SETRNG changes a range, OUTPUT, PPMU mode or owner as a commit would, or sets RJ. -/
  | setrng (site : Fin 64)
  /-- MSE_ACQ_START (R198): ACQ with sel 0 starts the acquisition of a unit whose ACQ is MSE, or sets RJ. -/
  | mseAcqStart (site : Fin 64)
  /-- MSE_ACQ_STOP (R180): ACQ with sel 1 stops acquisition after the result in progress is published. -/
  | mseAcqStop (site : Fin 64)
  /-- RDRES (R198): RDRES reads a result field, with sel 7 latching the whole last result. -/
  | rdres (site : Fin 64)
  /-- PMEAS (R198): PMEAS starts a PPMU measurement on a cell, or sets RJ. -/
  | pmeas (site : Fin 64)
  /-- RDPM (R195): RDPM reads PC_MEAS.RESULT of a cell and sets RJ when ERR is not 0. -/
  | rdpm (site : Fin 64)
  /-- RDST (R198): RDST reads a selected status word. -/
  | rdst (site : Fin 64)
  /-- POST (R199): POST writes a tagged entry to the MSE-to-DSP mailbox, stalling while the mailbox is full. -/
  | post (site : Fin 64)
  /-- POST_STALL_END (R199): Room appears in the mailbox and a stalled POST completes. -/
  | postStallEnd (site : Fin 64)
  /-- MFLAG (R195): MFLAG sets the MSE flag seen by the PSQ. -/
  | mflag (site : Fin 64)
  /-- STG (R201): STG appends a write to the staging buffer, or presents MSE_STAGE. -/
  | stg (site : Fin 64)
  /-- COMMIT (R201): COMMIT submits the staging buffer as one single-write transaction and opens the committed window when it takes effect. -/
  | commit (site : Fin 64)
  /-- MSE_END (R200): END completes the routine, copies G0 to RET and makes the MSE IDLE. -/
  | mseEnd (site : Fin 64)
  /-- MSE_FAULT (R206): FAULT presents MSE_USER with an immediate detail and continues. -/
  | mseFault (site : Fin 64)
  /-- RDMB (R195): RDMB reads the next DSP-to-MSE mailbox word, or 0 with Z set when the mailbox is empty. -/
  | rdmb (site : Fin 64)
  /-- RDT (R195): RDT reads the grain time, low word first with the high bits latched. -/
  | rdt (site : Fin 64)
  /-- MSE_LD (R195): LD reads a scratch word. -/
  | mseLd (site : Fin 64)
  /-- MSE_ST (R195): ST writes a scratch word. -/
  | mseSt (site : Fin 64)
  /-- WIN (R195): WIN sets IN when a register lies within a signed window. -/
  | win (site : Fin 64)
  /-- MSE_START (R200): A committed MSE CMD = START loads the parameters and begins the routine at the slot entry. -/
  | mseStart (iface : Iface) (site : Fin 64)
  /-- MSE_STOP (R204): A committed MSE CMD = STOP abandons the routine, or is deferred inside its committed window. -/
  | mseStop (iface : Iface) (site : Fin 64)
  /-- MSE_RESTART (R205): The restart condition holds, so the MSE applies its own START with the captured parameters, or reports RESTART_LIMIT. -/
  | mseRestart (site : Fin 64)
  /-- MSE_TIMEOUT (R204): The invocation exceeds TIMEOUT, the routine is abandoned and MSE_TIMEOUT is presented. -/
  | mseTimeout (site : Fin 64)
  /-- DEFER_EXPIRY (R208): 256 cycles pass after a deferred abort cause inside the window, and the routine is abandoned. -/
  | deferExpiry (site : Fin 64)
  /-- TRIM_COMPLETION (R212): The PSQ started by a trim COMMIT reaches IDLE and the MSE applies DONE or FAILED to each PENDING record. -/
  | trimCompletion (site : Fin 64)
  /-- MSE_STORE_WRITE (R214): A DOMAIN write loads microwords into the idle control store, or is refused. -/
  | mseStoreWrite (iface : Iface) (site : Fin 64) (bytes : List (BitVec 8))
  /-- MSE_LOAD_XIP (R214): A committed MSE_LOAD queues an XIP load of the control store. -/
  | mseLoadXip (iface : Iface) (site : Fin 64) (load : BitVec 64)
  /-- MSE_LOAD_DONE (R214): A control-store load completes and its CRC-32 is applied to MSE_CODE.CRC with an Assize entry. -/
  | mseLoadDone (site : Fin 64)
  /-- DSP_NOP (R223): NOP in any slot does nothing. -/
  | dspNop (site : Fin 64) (slot : Fin 3)
  /-- DSP_MAC (R223): MAC accumulates a signed 32 × 32 product. -/
  | dspMac (site : Fin 64) (slot : Fin 2)
  /-- DSP_MSU (R223): MSU subtracts a product from an accumulator. -/
  | dspMsu (site : Fin 64) (slot : Fin 2)
  /-- DSP_MPY (R223): MPY sets an accumulator to a product. -/
  | dspMpy (site : Fin 64) (slot : Fin 2)
  /-- DSP_MAC2 (R223): MAC2 accumulates two 16 × 16 products. -/
  | dspMac2 (site : Fin 64) (slot : Fin 2)
  /-- DSP_MSU2 (R223): MSU2 subtracts two 16 × 16 products. -/
  | dspMsu2 (site : Fin 64) (slot : Fin 2)
  /-- DSP_MACX (R223): MACX accumulates the cross 16 × 16 products. -/
  | dspMacx (site : Fin 64) (slot : Fin 2)
  /-- DSP_ACLR (R223): ACLR clears an accumulator. -/
  | dspAclr (site : Fin 64) (slot : Fin 2)
  /-- DSP_AMOV (R223): AMOV copies one accumulator to another. -/
  | dspAmov (site : Fin 64) (slot : Fin 2)
  /-- DSP_AADD (R223): AADD adds one accumulator to another. -/
  | dspAadd (site : Fin 64) (slot : Fin 2)
  /-- DSP_EXT (R223): EXT extracts a shifted, saturated 32-bit value from an accumulator. -/
  | dspExt (site : Fin 64) (slot : Fin 2)
  /-- DSP_AGET (R223): AGET reads one word of an accumulator. -/
  | dspAget (site : Fin 64) (slot : Fin 2)
  /-- DSP_APUT (R223): APUT writes one word of an accumulator. -/
  | dspAput (site : Fin 64) (slot : Fin 2)
  /-- DSP_ADD (R223): ADD adds with wrap. -/
  | dspAdd (site : Fin 64) (slot : Fin 2)
  /-- DSP_SUB (R223): SUB subtracts with wrap. -/
  | dspSub (site : Fin 64) (slot : Fin 2)
  /-- DSP_ADDS (R223): ADDS adds with saturation. -/
  | dspAdds (site : Fin 64) (slot : Fin 2)
  /-- DSP_SUBS (R223): SUBS subtracts with saturation. -/
  | dspSubs (site : Fin 64) (slot : Fin 2)
  /-- DSP_AND (R223): AND forms the bitwise AND. -/
  | dspAnd (site : Fin 64) (slot : Fin 2)
  /-- DSP_OR (R223): OR forms the bitwise OR. -/
  | dspOr (site : Fin 64) (slot : Fin 2)
  /-- DSP_XOR (R223): XOR forms the bitwise XOR. -/
  | dspXor (site : Fin 64) (slot : Fin 2)
  /-- DSP_MOV (R223): MOV copies a register. -/
  | dspMov (site : Fin 64) (slot : Fin 2)
  /-- DSP_NEG (R223): NEG negates with saturation. -/
  | dspNeg (site : Fin 64) (slot : Fin 2)
  /-- DSP_ABS (R223): ABS takes the absolute value with saturation. -/
  | dspAbs (site : Fin 64) (slot : Fin 2)
  /-- DSP_MIN (R223): MIN takes the signed minimum. -/
  | dspMin (site : Fin 64) (slot : Fin 2)
  /-- DSP_MAX (R223): MAX takes the signed maximum. -/
  | dspMax (site : Fin 64) (slot : Fin 2)
  /-- DSP_SHL (R223): SHL shifts left by a register amount. -/
  | dspShl (site : Fin 64) (slot : Fin 2)
  /-- DSP_SHRA (R223): SHRA shifts right arithmetically. -/
  | dspShra (site : Fin 64) (slot : Fin 2)
  /-- DSP_SHRL (R223): SHRL shifts right logically. -/
  | dspShrl (site : Fin 64) (slot : Fin 2)
  /-- DSP_MUL (R223): MUL takes the low word of a signed product. -/
  | dspMul (site : Fin 64) (slot : Fin 2)
  /-- DSP_MULH (R223): MULH takes the high word of a signed product. -/
  | dspMulh (site : Fin 64) (slot : Fin 2)
  /-- DSP_ADDI (R223): ADDI adds a 9-bit immediate. -/
  | dspAddi (site : Fin 64) (slot : Fin 2)
  /-- DSP_SHI (R223): SHI shifts by an immediate amount. -/
  | dspShi (site : Fin 64) (slot : Fin 2)
  /-- DSP_LD (R225): LD loads a data word through an AG, with optional post-modify. -/
  | dspLd (site : Fin 64)
  /-- DSP_ST (R225): ST stores a data word through an AG, with optional post-modify. -/
  | dspSt (site : Fin 64)
  /-- DSP_LD2 (R225): LD2 loads a register pair through two AGs. -/
  | dspLd2 (site : Fin 64)
  /-- DSP_ST2 (R225): ST2 stores a register pair through two AGs. -/
  | dspSt2 (site : Fin 64)
  /-- DSP_AGSET (R229): AGSET sets an AG field, making a length pending while the pointer is inside its window. -/
  | dspAgset (site : Fin 64)
  /-- DSP_AGGET (R225): AGGET reads an AG field. -/
  | dspAgget (site : Fin 64)
  /-- DSP_LDI (R225): LDI loads a sign-extended immediate, long when LIMM = 1. -/
  | dspLdi (site : Fin 64)
  /-- DSP_BR (R225): BR branches after two delay bundles. -/
  | dspBr (site : Fin 64)
  /-- DSP_CALL (R225): CALL writes the link to X15 and branches. -/
  | dspCall (site : Fin 64)
  /-- DSP_RET (R225): RET branches to X15. -/
  | dspRet (site : Fin 64)
  /-- DSP_RTI (R239): RTI returns from a handler, swapping the banks back and resuming at EPC. -/
  | dspRti (site : Fin 64)
  /-- DSP_BRZ (R225): BRZ branches when a register is 0. -/
  | dspBrz (site : Fin 64)
  /-- DSP_BRNZ (R225): BRNZ branches when a register is not 0. -/
  | dspBrnz (site : Fin 64)
  /-- DSP_BRLT (R225): BRLT branches when a register is negative. -/
  | dspBrlt (site : Fin 64)
  /-- DSP_BRGE (R225): BRGE branches when a register is not negative. -/
  | dspBrge (site : Fin 64)
  /-- DSP_LOOP (R227): LOOP starts a hardware loop with a counter and a ring rotation step. -/
  | dspLoop (site : Fin 64)
  /-- DSP_IN (R231): IN takes the oldest input-FIFO entry into four registers. -/
  | dspIn (site : Fin 64)
  /-- DSP_MBR (R225): MBR reads the next MSE-to-DSP mailbox entry. -/
  | dspMbr (site : Fin 64)
  /-- DSP_MBW (R233): MBW writes a word to the DSP-to-MSE mailbox, or drops it when the mailbox is full. -/
  | dspMbw (site : Fin 64)
  /-- DSP_SOUT (R235): SOUT queues a stream word, holding or dropping when the queue is full. -/
  | dspSout (site : Fin 64)
  /-- SOUT_HOLD_END (R235): A word leaves the full output queue and the frozen pipeline resumes. -/
  | soutHoldEnd (site : Fin 64)
  /-- DSP_RPUT (R234): RPUT writes a word of a unit's result staging set. -/
  | dspRput (site : Fin 64)
  /-- DSP_RPUB (R234): RPUB snapshots the staging set and publishes it to the unit's result objects. -/
  | dspRpub (site : Fin 64)
  /-- DSP_DFLAG (R233): DFLAG sets the DSP flag. -/
  | dspDflag (site : Fin 64)
  /-- DSP_SRD (R236): SRD reads a special register. -/
  | dspSrd (site : Fin 64)
  /-- DSP_SWR (R236): SWR writes a special register. -/
  | dspSwr (site : Fin 64)
  /-- DSP_SINCOS (R225): SINCOS writes the sine and cosine of a phase. -/
  | dspSincos (site : Fin 64)
  /-- DSP_WAIT (R242): WAIT freezes the DSP until a source in its mask is pending. -/
  | dspWait (site : Fin 64)
  /-- DSP_WAIT_END (R242): A source in the WAIT mask becomes pending and the DSP resumes or enters that source's handler. -/
  | dspWaitEnd (site : Fin 64)
  /-- DSP_RCLR (R225): RCLR clears the ring registers. -/
  | dspRclr (site : Fin 64)
  /-- DSP_TRAP (R225): TRAP presents DSP_USER and continues. -/
  | dspTrap (site : Fin 64)
  /-- DSP_HALT (R241): HALT stops the DSP with STOP_CAUSE = HALT. -/
  | dspHalt (site : Fin 64)
  /-- DSP_INTERRUPT_ENTRY (R238): An enabled pending source is recognised, in-flight operations retire and the banks swap to the handler. -/
  | dspInterruptEntry (site : Fin 64)
  /-- DSP_TIMER (R237): The TPER period elapses and the TIMER interrupt source is latched. -/
  | dspTimer (site : Fin 64)
  /-- DSP_START (R242): A committed DSP CMD = START clears the pipeline state and issues from ENTRY. -/
  | dspStart (iface : Iface) (site : Fin 64)
  /-- DSP_STOP (R242): A committed DSP CMD = STOP stops issue at the next bundle boundary. -/
  | dspStop (iface : Iface) (site : Fin 64)
  /-- H2D_WRITE (R237): An applied write to DSP_MAILBOX.H2D latches the HOST interrupt source. -/
  | h2dWrite (iface : Iface) (site : Fin 64) (word : BitVec 32)
  /-- DSP_PMEM_WRITE (R243): A DOMAIN write loads program memory of a stopped DSP and recomputes its CRC. -/
  | dspPmemWrite (iface : Iface) (site : Fin 64) (bytes : List (BitVec 8))
  /-- DSP_DMEM_WRITE (R243): A DOMAIN write loads data memory, with the table region written only while the DSP is stopped. -/
  | dspDmemWrite (iface : Iface) (site : Fin 64) (bytes : List (BitVec 8))
  /-- DSP_LOAD_XIP (R243): A committed DSP_LOAD.XIP queues an XIP load of program or data memory. -/
  | dspLoadXip (iface : Iface) (site : Fin 64) (load : BitVec 64)
  /-- DSP_LOAD_DONE (R243): A DSP load completes and its CRC is applied to DSP_CODE with an Assize entry. -/
  | dspLoadDone (site : Fin 64)
  /-- DSP_FLAG_CLR (R236): A write to DSP_FLAG_CLR clears DSP sticky flags and the matching AFLAGS. -/
  | dspFlagClr (iface : Iface) (site : Fin 64) (bits : BitVec 8)
  /-- STAMP_RESOLVE (R248): An offered stamp is resolved: the interval and frequency channels see it, the queue stores or drops it, and the register re-arms. -/
  | stampResolve (site : Fin 64) (source : Fin 13)
  /-- LOSS_WORD_STORE (R249): Two queue entries become free and the pending loss count is stored as a LOSS word. -/
  | lossWordStore (site : Fin 64) (cell : Fin 8)
  /-- INTERVAL_TIMEOUT (R257): TIMEOUT passes after a start edge with no stop, and the interval channel closes a record with TIMEOUT. -/
  | intervalTimeout (site : Fin 64) (k : Fin 4)
  /-- FREQ_GATE_TIMEOUT (R259): A frequency gate sees no opening or closing edge in time and closes a record with NOSIG. -/
  | freqGateTimeout (site : Fin 64) (f : Fin 2)
  /-- TDC_RUN (R260): A committed TDC_CAL CMD = RUN makes a code-density run pending for the site. -/
  | tdcRun (iface : Iface) (site : Fin 64)
  /-- TDC_RUN_DONE (R261): A code-density run ends, passing cells take their new tables with logged CRCs, and the site leaves CAL. -/
  | tdcRunDone (site : Fin 64) (hits : List (List Nat × List Nat))
  /-- TDC_APPLY (R262): CMD = APPLY copies the staged bin images into the active tables of the converters in MASK. -/
  | tdcApply (iface : Iface) (site : Fin 64)
  /-- TDC_NOMINAL (R262): CMD = NOMINAL restores the nominal bin tables. -/
  | tdcNominal (iface : Iface) (site : Fin 64)
  /-- TDC_SPECIAL (R263): CMD = SPECIAL starts the code-density run of the special-source converters. -/
  | tdcSpecial (iface : Iface) (site : Fin 64)
  /-- TDC_SPECIAL_DONE (R263): The special-source run ends and its tables and CRCs are applied and logged once. -/
  | tdcSpecialDone (hits : List (List Nat × List Nat))
  /-- TDC_BINS_WRITE (R262): A DOMAIN write loads a staging bin image, or is refused during a run. -/
  | tdcBinsWrite (iface : Iface) (site : Fin 64) (source : Fin 13) (bytes : List (BitVec 8))
  /-- TDC_FLAG_CLR (R249): A write to TDC_FLAG_CLR clears DROPS and MISSES of a cell. -/
  | tdcFlagClr (iface : Iface) (site : Fin 64) (cell : Fin 8) (bits : BitVec 8)
  /-- TRIGGER_FIRE (R268): A match unit's match rises outside holdoff and the unit fires its RTRIG, Bushel, mark, bus and chain actions. -/
  | triggerFire (region : Fin 4) (u : Fin 4) (cycle : BitVec 41) (second : Bool) (placed : List (Fin 5))
  /-- HOLDOFF_END (R269): Holdoff ends, and a SUPPRESSED mark is queued when rises were counted during it. -/
  | holdoffEnd (region : Fin 4) (u : Fin 4)
  /-- TRIG_PACKET_RX (R273): A TRIG packet arrives and the chip schedules the action at T_A, or counts LATE and presents TRIG_LATE. -/
  | trigPacketRx
  /-- CHAIN_TRIG_ACTION (R273): The time base reaches T_A, the channel slot is asserted and the routed TRIG_OUT balls pulse. -/
  | chainTrigAction
  /-- TRIG_SITE_CLR (R270): A write to TRIG_SITE:02 clears the RTRIG latch or OVERRUN. -/
  | trigSiteClr (iface : Iface) (site : Fin 64) (bits : BitVec 8)
  /-- BUSHEL_ARM (R276): A committed ARM change moves the Bushel between DISARMED and ARMED. -/
  | bushelArm (iface : Iface) (site : Fin 64) (cfg : BitVec 32)
  /-- BUSHEL_TRIGGER (R275): CMD = TRIGGER triggers a Bushel capture at the commit cycle's entry. -/
  | bushelTrigger (iface : Iface) (site : Fin 64)
  /-- BUSHEL_REARM (R276): CMD = REARM leaves HELD for ARMED or DISARMED. -/
  | bushelRearm (iface : Iface) (site : Fin 64)
  /-- BUSHEL_CAPTURE_DONE (R276): POST entries have been recorded and the Bushel enters DUMPING or HELD. -/
  | bushelCaptureDone (site : Fin 64)
  /-- BUSHEL_DUMP_DONE (R276): The last dump word is granted and the Bushel returns to ARMED or DISARMED. -/
  | bushelDumpDone (site : Fin 64)
  /-- PACKET_FLUSH (R280): The oldest word of an open stream packet has waited FLUSH µs and the packet closes. -/
  | packetFlush (site : Fin 64)
  /-- LOST_MARK_QUEUE (R282): The mark queue has room for two marks and a LOST mark carrying the loss count is queued. -/
  | lostMarkQueue (site : Fin 64)
  /-- TXN_OPEN (R287): TXN_CTRL CMD = OPEN makes an available group OPEN for the interface, or is refused. -/
  | txnOpen (iface : Iface) (group : Fin 15)
  /-- TXN_PREPARE (R290): CMD = PREPARE starts the checks of an OPEN group, and a coordinator also broadcasts PREPARE. -/
  | txnPrepare (iface : Iface) (group : Fin 15)
  /-- PREPARE_DONE (R290): The group checks end and the group becomes PREPARED or FAILED. -/
  | prepareDone (group : Fin 15)
  /-- TXN_COMMIT (R293): CMD = COMMIT schedules a PREPARED group at T or ASAP, or refuses a late T. -/
  | txnCommit (iface : Iface) (group : Fin 15) (asap : Bool) (applyLate : Bool)
  /-- TXN_ABORT (R297): CMD = ABORT abandons a held group, or only sets ABORT_LATE after its apply cycle. -/
  | txnAbort (iface : Iface) (group : Fin 15)
  /-- TXN_APPLY (R295): The time base reaches T or steps past it, the state checks repeat and every write of the group takes effect in one cycle. -/
  | txnApply
  /-- TXN_TIMEOUT (R298): An OPEN or PREPARED group is idle for TIMEOUT ms and becomes ABORTED. -/
  | txnTimeout (group : Fin 15)
  /-- XCHIP_PREPARE (R299): A participant receives PREPARE, runs the checks and sends its VOTE. -/
  | xchipPrepare
  /-- XCHIP_VOTE (R300): A coordinator receives a vote, counts it, and on NO broadcasts ABORT. -/
  | xchipVote
  /-- XCHIP_COMMIT (R299): A participant receives COMMIT and schedules the group, or fails it LATE. -/
  | xchipCommit
  /-- XCHIP_ABORT (R299): A participant receives the coordinator's ABORT and abandons the group. -/
  | xchipAbort
  /-- XCHIP_OUTCOME (R300): A coordinator receives an OUTCOME and sets SPLIT when it differs from its own. -/
  | xchipOutcome
  /-- TXN_DEADLINE (R299): D passes with a participant group still PREPARED and the group aborts with DEADLINE. -/
  | txnDeadline (group : Fin 15)
  /-- VOTE_DEADLINE (R300): D − FL_LATENCY_BUDGET passes without N_PART YES votes and the coordinator fails and broadcasts ABORT. -/
  | voteDeadline (group : Fin 15)
  /-- OVERLAY_STORE_WRITE (R303): A DOMAIN write checks and stores an overlay image in a slot. -/
  | overlayStoreWrite (iface : Iface) (slot : Fin 17) (bytes : List (BitVec 8))
  /-- OVERLAY_APPLY (R304): A write of a slot to OVERLAY_ACTIVE stages or applies its entries as a run, advancing the generation with an OVERLAY entry. -/
  | overlayApply (iface : Iface) (slot : BitVec 8)
  /-- BASE_SAVE (R307): BASE_CFG CMD = SAVE copies the applied values in one cycle and starts writing them to the base area. -/
  | baseSave (iface : Iface)
  /-- BASE_SAVE_DONE (R307): The base image write ends and a BASE_SAVE Assize entry records its CRC and outcome. -/
  | baseSaveDone (ok : Bool)
  /-- BASE_ERASE (R307): BASE_CFG CMD = ERASE invalidates the user base image. -/
  | baseErase (iface : Iface)
  /-- PORT_TRAINED (R310): Block lock, deskew, width selection and latency measurement complete within 50 µs and the port becomes ACTIVE. -/
  | portTrained (port : Fin 2)
  /-- TRAINING_RETRY (R310): Training fails to complete, the port is DOWN and it retries every 1 ms. -/
  | trainingRetry (port : Fin 2)
  /-- IDLE_BLOCK (R311): An IDLE block is received or inserted and deleted for clock compensation. -/
  | idleBlock (port : Fin 2)
  /-- ACK_BLOCK (R313): An ACK block releases the replay buffer up to its LSEQ. -/
  | ackBlock (port : Fin 2) (lseq : BitVec 16)
  /-- NAK_BLOCK (R314): A NAK block makes the sender retransmit from its LSEQ. -/
  | nakBlock (port : Fin 2) (lseq : BitVec 16)
  /-- CREDIT_BLOCK (R315): A CREDIT block returns credits for a virtual channel. -/
  | creditBlock (port : Fin 2) (vc : Fin 3) (words : BitVec 14)
  /-- ENUM_BLOCK (R323): An accepted ENUM token assigns the hop address and host port and is passed on with NEXT + 1. -/
  | enumBlock (port : Fin 2) (next : BitVec 16) (accLat : BitVec 32)
  /-- ENUM_END_BLOCK (R323): ENUM_END passes and sets CHAIN_LEN. -/
  | enumEndBlock (port : Fin 2) (last : BitVec 16)
  /-- BREAK_BLOCK (R330): A BREAK notice is forwarded, narrows REACH and reverses the host port where the break is on the host side. -/
  | breakBlock (port : Fin 2) (edge : BitVec 16) (dir : Bool)
  /-- PING_BLOCK (R310): A PING is answered with a PONG carrying the residence time. -/
  | pingBlock (port : Fin 2) (time : BitVec 52)
  /-- PONG_BLOCK (R310): A PONG yields a latency sample for LINK_LAT. -/
  | pongBlock (port : Fin 2) (time : BitVec 52)
  /-- LANE_ALIGN_BLOCK (R310): A LANE_ALIGN block is used to remove lane skew during training. -/
  | laneAlignBlock (port : Fin 2) (lane : Fin 4)
  /-- CTL_BLOCK_UNKNOWN (R312): A control block of an unlisted type is discarded and counted in CTL_ERRS. -/
  | ctlBlockUnknown (port : Fin 2)
  /-- PACKET_RECEIVE (R324): A whole packet is received, CRC- and LSEQ-checked, and consumed, forwarded or dropped by address. -/
  | packetReceive (port : Fin 2) (lseq : BitVec 16) (h0 : BitVec 64) (payload : List (BitVec 64)) (trailer : BitVec 64)
  /-- ACK_TIMER (R313): A microsecond passes with packets unacknowledged and the receiver sends an ACK. -/
  | ackTimer (port : Fin 2)
  /-- PORT_DOWN (R316): No valid block for 2 µs, no ACK for 20 µs or 8 replays takes a port DOWN, presents FL_LINK_DOWN and starts retraining. -/
  | portDown (port : Fin 2)
  /-- DICT_PKT_READ (R319): A DICT READ packet is served and answered with a REPLY, or the stored reply is resent for a repeated TAG. -/
  | dictPktRead
  /-- DICT_PKT_WRITE (R319): A DICT WRITE packet or DOMAIN fragment is applied under R52 and answered with a REPLY. -/
  | dictPktWrite
  /-- DICT_PKT_RESET (R322): A DICT RESET addressed to the chip, or broadcast with its UNIQUE_ID, resets the chip. -/
  | dictPktReset
  /-- DICT_FRAGMENT_TIMEOUT (R321): No DOMAIN fragment arrives for 10 ms and the transfer ends ABORTED. -/
  | dictFragmentTimeout (hop : BitVec 16)
  /-- SYNC_PACKET_RX (R328): A SYNC packet has its CORR updated and is forwarded, and with SOURCE = 1 it is accepted as a SYNC edge. -/
  | syncPacketRx
  /-- FL_RESTORE (R332): FL_TOPOLOGY CMD = RESTORE returns the routing to the enumeration ports. -/
  | flRestore (iface : Iface)
  /-- FL_RETRAIN_UP (R310): CMD = RETRAIN_UP retrains the UP port. -/
  | flRetrainUp (iface : Iface)
  /-- FL_RETRAIN_DN (R310): CMD = RETRAIN_DN retrains the DN port. -/
  | flRetrainDn (iface : Iface)
  /-- FL_BYPASS_ENTER (R333): FL_BYPASS CMD = ENTER powers the chip down to a forwarding-only bypass, or is refused. -/
  | flBypassEnter (iface : Iface)
  /-- NMT_START (R339): The NMT command start enters OPERATIONAL. -/
  | nmtStart (node : BitVec 7)
  /-- NMT_STOP (R339): The NMT command stop enters STOPPED. -/
  | nmtStop (node : BitVec 7)
  /-- NMT_ENTER_PREOP (R339): The NMT command enter pre-operational enters PRE-OPERATIONAL. -/
  | nmtEnterPreop (node : BitVec 7)
  /-- NMT_RESET_APP (R339): The NMT command reset application causes a chip reset. -/
  | nmtResetApp (node : BitVec 7)
  /-- NMT_RESET_COMM (R339): The NMT command reset communication resets the CAN controller and communication objects and resamples the straps. -/
  | nmtResetComm (node : BitVec 7) (straps : BitVec 7)
  /-- USDO_UPLOAD (R341): A USDO upload request reads one subindex for the client, or is aborted. -/
  | usdoUpload (client : BitVec 7) (first : Bool) (index : BitVec 16) (sub : BitVec 8) (room : BitVec 16)
  /-- USDO_DOWNLOAD (R341): A USDO download writes one subindex, or is aborted with its SDO code. -/
  | usdoDownload (client : BitVec 7) (first : Bool) (last : Bool) (index : BitVec 16) (sub : BitVec 8) (bytes : List (BitVec 8))
  /-- USDO_TIMEOUT (R341): A USDO session idle for 100 ms ends with TIMEOUT. -/
  | usdoTimeout
  /-- RPDO_RX (R342): A received RPDO is checked and applied whole, its command field served last, or it is refused. -/
  | rpdoRx (cob : BitVec 11) (data : List (BitVec 8))
  /-- TPDO_CHANGE_CHECK (R342): The 100 µs check finds a changed mapped value and sends the TPDO. -/
  | tpdoChangeCheck (tpdo : Fin 4)
  /-- TPDO_EVENT_TIMER (R342): The TPDO event timer expires and the TPDO is sent. -/
  | tpdoEventTimer (tpdo : Fin 4)
  /-- HEARTBEAT_TIMER (R336): The heartbeat producer period expires and a heartbeat is sent. -/
  | heartbeatTimer
  /-- EMCY_TRANSMIT (R344): A queued EMCY frame is sent when the bus and the inhibit time allow. -/
  | emcyTransmit
  /-- ERROR_HISTORY_CLEAR (R344): A write of 0 to 0x1003 sub 0 clears the error history. -/
  | errorHistoryClear (iface : Iface)
  /-- CAN_ERR_PASSIVE (R345): TEC or REC reaches 128 and the node becomes error passive. -/
  | canErrPassive (tec : BitVec 8) (recv : BitVec 8)
  /-- CAN_BUS_OFF (R345): TEC exceeds 255 and the node goes bus-off. -/
  | canBusOff
  /-- BUS_OFF_RECOVERY (R345): 128 occurrences of 11 recessive bits complete the bus-off recovery. -/
  | busOffRecovery
  /-- CAN_DUP_NODE (R345): A foreign frame with this node's heartbeat COB-ID stops transmission. -/
  | canDupNode
  /-- FOREIGN_FRAME (R345): A frame for another node, or a classical frame, is acknowledged and ignored. -/
  | foreignFrame
  /-- SPS_WRITE (R350): An SPS WRITE frame is served at CS_N release with auto-increment. -/
  | spsWrite (addr : BitVec 24) (words : List (BitVec 32)) (ending : FrameEnd) (trailer : FrameTrailer)
  /-- SPS_READ (R351): An SPS READ frame reads with auto-increment and captures the S latch. -/
  | spsRead (addr : BitVec 24) (count : BitVec 20) (ending : FrameEnd) (trailer : FrameTrailer)
  /-- CONT_READ (R353): CONT_READ returns the remaining words of the snapshot latch. -/
  | contRead (addr : BitVec 24) (count : BitVec 20) (ending : FrameEnd) (trailer : FrameTrailer)
  /-- SPS_STATUS (R349): An SPS STATUS frame returns the status byte. -/
  | spsStatus (ending : FrameEnd) (trailer : FrameTrailer)
  /-- RAW_WRITE (R355): RAW_WRITE appends its words whole to the SPS-to-CSV mailbox, or is refused. -/
  | rawWrite (words : List (BitVec 32)) (ending : FrameEnd) (trailer : FrameTrailer)
  /-- RAW_READ (R355): RAW_READ returns the oldest CSV-to-SPS mailbox words. -/
  | rawRead (count : BitVec 20) (ending : FrameEnd) (trailer : FrameTrailer)
  /-- XIP_TRANSFER_START (R359): The SPM takes the next queued XIP transfer and starts its flash read. -/
  | xipTransferStart
  /-- XIP_TRANSFER_DONE (R360): A flash read completes and the target is written, or the transfer fails with SOURCE_ERR. -/
  | xipTransferDone (bytes : List (BitVec 8))
  /-- DQS_TIMEOUT (R358): No DQS edge arrives within 64 SPM clocks and the read fails. -/
  | dqsTimeout
  /-- SENSOR_READING (R368): A temperature reading is checked, used, and judged against the zones, shutdown thresholds and calibration delta. -/
  | sensorReading (site : Fin 64) (sensor : Fin 6) (code : BitVec 12)
  /-- HOT_CLASS_ENTRY (R364): A unit's P_EST exceeds LEVEL and the site enters the hot class. -/
  | hotClassEntry (site : Fin 64) (unit : Fin 2) (out : BitVec 16) (force : BitVec 16)
  /-- HOT_CLASS_EXIT (R364): Every unit has stayed at or below EXIT_LEVEL for 16.384 ms and the site returns to the round. -/
  | hotClassExit (site : Fin 64) (out0 : BitVec 16) (force0 : BitVec 16) (out1 : BitVec 16) (force1 : BitVec 16)
  /-- THERMAL_STEP_DOWN (R370): A 1.024 ms interval elapses with the reading still at or above THR_SET and the thermal step moves down. -/
  | thermalStepDown (site : Fin 64)
  /-- THERMAL_STEP_UP (R370): The 16.384 ms up timer expires and the thermal step moves up. -/
  | thermalStepUp (site : Fin 64)
  /-- TH_ACK (R372): A write to TH_STEP ACK acknowledges a site's shutdown and releases it once the site is cool. -/
  | thAck (iface : Iface) (sites : BitVec 64)
  /-- TH_SENSOR_CLR (R365): A write to TH_SENSOR_HEALTH CLR clears the suspect and failed flags whose condition has gone. -/
  | thSensorClr (iface : Iface) (sites : BitVec 64)
  /-- BUDGET_UPDATE (R380): Every 1.024 ms P_CHIP is recomputed and over-share sites step their budget down. -/
  | budgetUpdate (iOut : List (BitVec 16)) (force : List (BitVec 16)) (ppmu : List (BitVec 32))
  /-- BUDGET_STEP_UP (R380): Every 16.384 ms with P_CHIP at or below 0.9 × BUDGET, the budget steps move up. -/
  | budgetStepUp
  /-- CONDITION_GONE (R396): A condition kind's cause goes away, GONE is set and an acknowledged record clears. -/
  | conditionGone (kind : BitVec 12) (site : Fin 64) (cell : Fin 8)
  /-- GT_ACK (R395): A write of slot and RSEQ to GT_ACK sets ACKED in one record. -/
  | gtAck (iface : Iface) (slot : BitVec 7) (rseq : BitVec 16)
  /-- GT_ACK_ALL (R395): A write of 1 to GT_ACK:02 acknowledges every valid record. -/
  | gtAckAll (iface : Iface)
  /-- QUIET_PERIOD_EXPIRY (R397): GT_QUIET_PERIOD passes without a presentation in scope and the scope is released by RECOVERY. -/
  | quietPeriodExpiry (scope : Fin 69)
  /-- CAL_REQUEST (R404): CAL_CTRL CMD = REQUEST makes the named procedures pending in the named sites. -/
  | calRequest (iface : Iface)
  /-- CAL_CANCEL (R404): CMD = CANCEL clears the pending procedures that are not running. -/
  | calCancel (iface : Iface)
  /-- CAL_SWEEP (R413): CMD = SWEEP puts the named READY sites into CAL for a chip-wide sweep. -/
  | calSweep (iface : Iface)
  /-- CAL_FACTORY (R416): CMD = FACTORY applies the factory trims as one logged transaction. -/
  | calFactory (iface : Iface)
  /-- CAL_ENTRY (R406): A pending site reaches an idle moment and enters CAL for its next procedure. -/
  | calEntry (site : Fin 64)
  /-- CAL_STEP_DONE (R411): A calibration step completes and is checked; after the last step the trims are applied and the site leaves CAL. -/
  | calStepDone (site : Fin 64) (codes : List Int)
  /-- CAL_STEP_TIMEOUT (R411): A step exceeds 4 times its nominal time and the procedure fails with TIMEOUT. -/
  | calStepTimeout (site : Fin 64)
  /-- CAL_MAX_DEFER_EXPIRY (R408): A procedure stays pending for CAL_MAX_DEFER, CAL_STALE rises and results are tagged. -/
  | calMaxDeferExpiry (site : Fin 64)
  /-- SWEEP_PHASE_DONE (R413): A sweep phase ends and the next phase starts, or the sweep closes with its log entry. -/
  | sweepPhaseDone
  /-- MITTEN_TICK (R421): A Mitten tick samples the sources, updates the filters and evaluates the rules. -/
  | mittenTick (analogue : List (BitVec 16)) (outputs : List (BitVec 2))
  /-- WAKE_OVERLAY_STAGE (R426): The PLL reads LOCKED in FULL during a wake and Mitten applies the wake overlay slot. -/
  | wakeOverlayStage
  /-- WAKE_LOCK_TIMEOUT (R426): FULL and LOCKED do not both hold within 1 ms and the wake ends with STATE. -/
  | wakeLockTimeout
  /-- CLR_WAKE (R425): MIT_CTRL CMD = CLR_WAKE drives WAKE_OUT low and clears WOKE. -/
  | clrWake (iface : Iface)
  /-- CLR_COUNTS (R425): MIT_CTRL CMD = CLR_COUNTS clears LOST and FIRES. -/
  | clrCounts (iface : Iface)
  /-- ASSIZE_QUEUE_WRITE (R432): A queued Assize entry is written to RNVM under the two-phase rule. -/
  | assizeQueueWrite (ok : Bool)
  /-- CHECKPOINT_SIGNED (R434): Signing of a checkpoint completes and CKPT_R and CKPT_S are made. -/
  | checkpointSigned
  /-- ASZ_EXPORTED_WRITE (R435): A write to ASZ_EXPORTED declares the exported entries and lowers U. -/
  | aszExportedWrite (iface : Iface) (value : BitVec 64)
  /-- RNVM_RECORD_WRITE (R449): A two-phase RNVM record write completes its verified shadow write and marker, or fails with NVM_WRITE_FAIL. -/
  | rnvmRecordWrite (ok : Bool)
  /-- POWER_ON (R442): VAON rises through its threshold and causes a full chip reset. -/
  | powerOn
  /-- PWR_OK (R445): PWR_OK held low for at least 1 µs resets the chip and flushes the Assize queue. -/
  | pwrOk (level : Bool)
  /-- RESET_N (R442): RESET_N held low for at least 1 µs resets the chip. -/
  | resetN (level : Bool)
  /-- CORE_RELEASE (R443): The last reset condition ends, the core leaves reset, the time base is zeroed and the PLL enters ACQUIRE. -/
  | coreRelease (straps : BitVec 7)
  /-- BASE_CONFIG_LOAD (R447): The base image is read and applied, and the sites are brought to START_STATE. -/
  | baseConfigLoad (areas : AreaCheck)
  /-- DICTIONARY_AVAILABLE (R446): Assize start-up completes and the dictionary becomes available in PRE-OPERATIONAL with a boot-up message. -/
  | dictionaryAvailable (assize : Bool)
  /-- SELFTEST_DONE (R452): The offline self-test completes, sets SELFTEST_RESULT and clears RUN_NEXT. -/
  | selftestDone (failed : BitVec 4)
  /-- SUPPLY_FAULT (R445): A supply stays out of range for 10 µs and SUPPLY_FAULT is presented. -/
  | supplyFault (supply : Fin 7) (mv : BitVec 16)
  /-- RG_TEST_MEM (R454): RG_TEST RUN bit MEM starts the memory test of a FENCED site. -/
  | rgTestMem (iface : Iface) (site : Fin 64)
  /-- RG_TEST_LOOP (R454): RG_TEST RUN bit LOOP starts the loopback test of a FENCED site. -/
  | rgTestLoop (iface : Iface) (site : Fin 64)
  /-- RG_TEST_BRIDGE (R454): RG_TEST RUN bit BRIDGE starts the bridge-unit test of a FENCED site. -/
  | rgTestBridge (iface : Iface) (site : Fin 64)
  /-- TEST_DONE (R454): An in-service test completes and reports its result; after MEM the CRCs are recomputed and logged. -/
  | testDone (place : TestPlace) (fails : BitVec 8)
  /-- SPARE_ASSIGN (R455): A committed RG_SPARE.ASSIGN moves a site's DSP service to or from the region spare. -/
  | spareAssign (iface : Iface) (region : Fin 4) (local_ : BitVec 8)
  /-- SPARE_TEST (R455): RG_SPARE CMD = TEST runs the MEM test on the unassigned spare. -/
  | spareTest (iface : Iface) (region : Fin 4)
  /-- EXTEST (R456): The TAP instruction EXTEST drives and captures the boundary register under compliance. -/
  | extest (captured : List Bool) (shift : List Bool)
  /-- IDCODE (R456): The TAP instruction IDCODE selects the identification register. -/
  | idcode
  /-- SAMPLE_PRELOAD (R456): The TAP instruction SAMPLE/PRELOAD samples and preloads the boundary register. -/
  | samplePreload (captured : List Bool) (shift : List Bool)
  /-- CLAMP (R456): The TAP instruction CLAMP holds the boundary outputs with BYPASS selected. -/
  | clamp
  /-- HIGHZ (R456): The TAP instruction HIGHZ places the outputs in high impedance. -/
  | highz
  /-- EXTEST_PULSE (R456): The TAP instruction EXTEST_PULSE drives IEEE 1149.6 AC pulses on the lanes. -/
  | extestPulse (captured : List Bool) (shift : List Bool)
  /-- EXTEST_TRAIN (R456): The TAP instruction EXTEST_TRAIN drives IEEE 1149.6 AC trains on the lanes. -/
  | extestTrain (captured : List Bool) (shift : List Bool)
  /-- BYPASS (R456): The TAP instruction BYPASS, and every reserved code, selects the bypass register. -/
  | bypass
  /-- PPMU_CLAMP (R95): The DUT drives a forcing PPMU into its voltage clamp (FI) or current clamp (FV), so the PPMU holds the clamped quantity and sets the sticky PPMU_CLAMP flag. -/
  | ppmuClamp (site : Fin 64) (cell : Fin 8)
  /-- TRIG_IN_EDGE (R248): An edge on a TRIG_IN ball is captured by its special-source converter for stamping and reaches the matcher and the line samplers. -/
  | trigInEdge (line : Fin 4) (coarse : BitVec 42) (fine : Fin 1280)
  /-- RING_SLOT_GRANT (R28): A Furlong egress port finishes a packet and grants the next ring slot by class priority and the THROUGH share, sending the packet and draining the stream FIFOs. -/
  | ringSlotGrant (port : Fin 2)
  /-- LINK_PLL_LOCKED (R310): The link PLL locks to REFCLK, which lets the Furlong ports begin training and clocks the CAN controller. -/
  | linkPllLocked
  /-- BLOCK_LOCK_LOST (R310): A Furlong lane sees 16 invalid sync headers within 64 and loses block lock. -/
  | blockLockLost (port : Fin 2) (lane : Fin 4)
  /-- VAON_LOSS (R432): VAON leaves its range, so Mitten state, the Assize write queue and every powered state are lost until POWER_ON. -/
  | vaonLoss
  /-- VPOS_VNEG_ABSENT (R461): VPOS or VNEG goes absent or returns; while either is absent every DP ball is Z and every bridge isolation switch is open. -/
  | vposVnegAbsent (absent : Bool)
  /-- TAP_RESET (R456): A TAP reset by TAP_RST_N resets the TAP controller and selects IDCODE. -/
  | tapReset
  deriving DecidableEq, Repr

end Sys2Proof
end

