-- ==== Sys2Proof/Decode.lean ====
section
/-! DEFINITION. The commands that a word spells. The rows of opcode_table.json give no bits, so no word spells one. -/
namespace Sys2Proof

/-- The command that `nbits` bits of value `w` spell under opcode_table.json: none, since its rows give no bits. -/
def decodeTableWord (_nbits _w : Nat) : Option Instr := none

end Sys2Proof
end

