-- ==== Sys2Proof/Config.lean ====
section
/-! DEFINITION. What one die fixes and what the specification leaves open: free values. A constant here has no body, so
nothing can be proved of its value; a statement that uses one holds for every value of it. -/
namespace Sys2Proof

/-- The die serial that the fuses hold (Table 2.8). -/
opaque Config.dieSerial : BitVec 64

/-- The public key of the die (Table 21.4, ASZ_KEY), byte 0 lowest. -/
opaque Config.publicKey : BitVec 512

/-- The signature of a message under the device key (R434): r lowest, then s, each with its byte 0 lowest. -/
opaque Config.sign : List Byte → BitVec 512

/-- The factory trim of the subindex at an address (R403). -/
opaque Config.factoryTrim : Nat → BitVec 64

/-- The factory-trimmed internal delay of the cell at a global pin number, in grains (R245). -/
opaque Config.cellDelay : Nat → BitVec 12

/-- The CRC of a base image (Table 13.4) over the values that it records beside the factory ones: the specification gives the
image no order of entries. -/
opaque Config.baseCrc : List (Nat × Nat) → BitVec 32

/-- The microwords of the region ROM beyond its five routines (R213), by address from 0x2000: Table 9.11 gives none. -/
opaque Config.mseRom : Nat → BitVec 24

/-- The built-in quarter-wave table of the bridge units (R159): entry q of sin as q ÷ (2^17 − 1). -/
opaque Config.quarterWave : BitVec 10 → BitVec 17

/-- SINCOS (Table 10.5): what the interpolation of its table adds to the sine and to the cosine of 2π × a ÷ 2^32 in Q31, which
R225 bounds. -/
opaque Config.dspSinError : BitVec 32 → Fin 1287
opaque Config.dspCosError : BitVec 32 → Fin 1287

/-- Where a TRIG_OUT ball places the pulse of a chain action that starts at a time: 0–4 for −2 to +2 grains (R272). -/
opaque Config.trigPlace : (ball : Nat) → (start : BitVec 68) → Fin 5

/-- A fresh free value of `w` bits; its number is drawn from the counter `freeCount` of the state. -/
opaque Config.freeValue : (w : Nat) → Nat → BitVec w

end Sys2Proof
end

