-- ==== Sys2Proof/Machine/Bits.lean ====
section
/-! DEFINITION. Bit fields, sparse stores, byte order, cyclic redundancy checks, SHA-256, times. -/
namespace Sys2Proof.Machine

/-! ## Fields of numbers -/

/-- Bits [hi:lo] of `v`. -/
def field (v hi lo : Nat) : Nat := (v >>> lo) % 2 ^ (hi - lo + 1)

/-- Bit `n` of `v`. -/
def bitOf (v n : Nat) : Bool := v.testBit n

/-- 1 for true, 0 for false. -/
def b2n (b : Bool) : Nat := if b then 1 else 0

/-- `v` read as a two's-complement number of `w` bits. -/
def toInt (v w : Nat) : Int :=
  if v % 2 ^ w < 2 ^ (w - 1) then ((v % 2 ^ w : Nat) : Int) else ((v % 2 ^ w : Nat) : Int) - ((2 ^ w : Nat) : Int)

/-- The two's complement of `i` in `w` bits. -/
def ofInt (i : Int) (w : Nat) : Nat := (i % ((2 ^ w : Nat) : Int)).toNat

/-- `n + 1`, held at `max`. -/
def satInc (max n : Nat) : Nat := if n < max then n + 1 else max

/-- `i` held between `lo` and `hi`. -/
def clampInt (lo hi i : Int) : Int := if i < lo then lo else if hi < i then hi else i

/-- `v` shifted to its place in a word; the words of a status are sums of these. -/
def at_ (v lo : Nat) : Nat := v <<< lo

/-! ## Sparse stores: lists of (key, value), keys rising, no value equal to the default of its key -/

/-- The value under `k`: the listed one, or the default `d`. -/
def sparseGet {α : Type} (m : List (Nat × α)) (k : Nat) (d : α) : α :=
  match m with
  | [] => d
  | (k', v) :: m => if k' = k then v else if k < k' then d else sparseGet m k d

/-- The store with `v` under `k`; a value equal to the default `d` is not listed. -/
def sparseSet {α : Type} [DecidableEq α] (m : List (Nat × α)) (k : Nat) (v d : α) : List (Nat × α) :=
  match m with
  | [] => if v = d then [] else [(k, v)]
  | (k', v') :: m =>
    if k' < k then (k', v') :: sparseSet m k v d
    else if k' = k then (if v = d then m else (k, v) :: m)
    else if v = d then (k', v') :: m else (k, v) :: (k', v') :: m

/-- Stores consecutive values from `k` on. -/
def sparseSetRun {α : Type} [DecidableEq α] (m : List (Nat × α)) (k : Nat) (vs : List α) (d : α) : List (Nat × α) :=
  match vs with
  | [] => m
  | v :: vs => sparseSetRun (sparseSet m k v d) (k + 1) vs d

/-- `n` consecutive values from `k` on. -/
def sparseRun {α : Type} (m : List (Nat × α)) (k n : Nat) (d : α) : List α :=
  (List.range n).map fun i => sparseGet m (k + i) d

/-- The keys rise and no value is the default of its key. -/
def sparseWf {α : Type} [DecidableEq α] (dflt : Nat → α) : List (Nat × α) → Bool
  | [] => true
  | [(k, v)] => decide (v ≠ dflt k)
  | (k, v) :: (k', v') :: m => decide (k < k') && decide (v ≠ dflt k) && sparseWf dflt ((k', v') :: m)

/-! ## Bytes and words -/

/-- The `n` bytes of `v`, least significant first. -/
def bytesLE (v n : Nat) : List Byte :=
  match n with
  | 0 => []
  | n + 1 => BitVec.ofNat 8 v :: bytesLE (v / 256) n

/-- The number that bytes spell, least significant first. -/
def natLE (bs : List Byte) : Nat :=
  match bs with
  | [] => 0
  | b :: bs => b.toNat + 256 * natLE bs

/-- The number that bytes spell, most significant first. -/
def natBE (bs : List Byte) : Nat := natLE bs.reverse

/-- The `n` 32-bit words of `v`, low word first (R46). -/
def words32 (v n : Nat) : List Word :=
  match n with
  | 0 => []
  | n + 1 => BitVec.ofNat 32 v :: words32 (v / 2 ^ 32) n

/-- The number that 32-bit words spell, low word first. -/
def natWords (ws : List Word) : Nat :=
  match ws with
  | [] => 0
  | w :: ws => w.toNat + 2 ^ 32 * natWords ws

/-- `bs` cut into groups of `n` bytes, each spelt least significant first; a short last group is padded with 0. -/
def groupsLE (n : Nat) : Nat → List Byte → List Nat
  | 0, _ => []
  | _ + 1, [] => []
  | fuel + 1, b :: bs => natLE ((b :: bs).take n) :: groupsLE n fuel ((b :: bs).drop n)

/-- The groups of `n` bytes of a whole list. -/
def byteGroups (n : Nat) (bs : List Byte) : List Nat := groupsLE n bs.length bs

/-! ## Cyclic redundancy checks -/

/-- One bit of the reflected CRC-32 of IEEE 802.3. -/
def crc32Bit (c : BitVec 32) : BitVec 32 := if c.getLsbD 0 then (c >>> 1) ^^^ 0xEDB88320#32 else c >>> 1

/-- One byte of CRC-32. -/
def crc32Byte (c : BitVec 32) (b : Byte) : BitVec 32 :=
  crc32Bit (crc32Bit (crc32Bit (crc32Bit (crc32Bit (crc32Bit (crc32Bit (crc32Bit (c ^^^ b.zeroExtend 32))))))))

/-- CRC-32 (IEEE 802.3): initial value all ones, result complemented. -/
def crc32 (bs : List Byte) : BitVec 32 := ~~~ (bs.foldl crc32Byte 0xFFFFFFFF#32)

/-- One bit of CRC-16 with polynomial 0x1021 (R354). -/
def crc16Bit (c : BitVec 16) : BitVec 16 := if c.getLsbD 15 then (c <<< 1) ^^^ 0x1021#16 else c <<< 1

/-- One byte of CRC-16. -/
def crc16Byte (c : BitVec 16) (b : Byte) : BitVec 16 :=
  crc16Bit (crc16Bit (crc16Bit (crc16Bit (crc16Bit (crc16Bit (crc16Bit (crc16Bit (c ^^^ (b.zeroExtend 16 <<< 8)))))))))

/-- CRC-16, initial value 0xFFFF, no reflection, no inversion (R354). -/
def crc16 (bs : List Byte) : BitVec 16 := bs.foldl crc16Byte 0xFFFF#16

/-! ## SHA-256 (FIPS 180-4), which R431 names -/

/-- The largest `r + x`, `x` below 2^`bits`, whose `k`-th power is at most `n`. -/
def rootFrom (k n : Nat) : Nat → Nat → Nat
  | 0, r => r
  | bit + 1, r => rootFrom k n bit (if (r + 2 ^ bit) ^ k ≤ n then r + 2 ^ bit else r)

/-- The first 32 bits after the binary point of the `k`-th root of `p`: FIPS 180-4 takes its constants so. -/
def rootWord (k p : Nat) : BitVec 32 := BitVec.ofNat 32 (rootFrom k (p * 2 ^ (32 * k)) 40 0)

/-- The first 64 primes. -/
def shaPrimes : List Nat := (List.range' 2 310).filter fun p => (List.range' 2 16).all fun d => p == d || p % d != 0

/-- The round constants: the cube roots of the first 64 primes. -/
def shaK : List (BitVec 32) := shaPrimes.map (rootWord 3)

/-- The initial hash value: the square roots of the first eight. -/
def shaH0 : List (BitVec 32) := (shaPrimes.take 8).map (rootWord 2)

/-- Rotation right. -/
def ror32 (x : BitVec 32) (n : Nat) : BitVec 32 := x.rotateRight n

/-- `n` further words of the message schedule; `ws` holds the words so far, newest first. -/
def shaExtend : Nat → List (BitVec 32) → List (BitVec 32)
  | 0, ws => ws
  | n + 1, ws =>
    let w2 := ws.getD 1 0
    let w7 := ws.getD 6 0
    let w15 := ws.getD 14 0
    let w16 := ws.getD 15 0
    let s0 := ror32 w15 7 ^^^ ror32 w15 18 ^^^ (w15 >>> 3)
    let s1 := ror32 w2 17 ^^^ ror32 w2 19 ^^^ (w2 >>> 10)
    shaExtend n ((w16 + s0 + w7 + s1) :: ws)

/-- One round over the eight working variables. -/
def shaRound (h : List (BitVec 32)) (kw : BitVec 32 × BitVec 32) : List (BitVec 32) :=
  match h with
  | [a, b, c, d, e, f, g, x] =>
    let s1 := ror32 e 6 ^^^ ror32 e 11 ^^^ ror32 e 25
    let ch := (e &&& f) ^^^ (~~~e &&& g)
    let t1 := x + s1 + ch + kw.1 + kw.2
    let s0 := ror32 a 2 ^^^ ror32 a 13 ^^^ ror32 a 22
    let maj := (a &&& b) ^^^ (a &&& c) ^^^ (b &&& c)
    [t1 + (s0 + maj), a, b, c, d + t1, e, f, g]
  | h => h

/-- One 64-byte block. -/
def shaBlock (h : List (BitVec 32)) (block : List Byte) : List (BitVec 32) :=
  let ws := ((List.range 16).map fun i => BitVec.ofNat 32 (natBE ((block.drop (4 * i)).take 4))).reverse
  let sched := (shaExtend 48 ws).reverse
  List.zipWith (· + ·) h ((shaK.zip sched).foldl shaRound h)

/-- The padded message cut into blocks. -/
def shaBlocks : Nat → List Byte → List (List Byte)
  | 0, _ => []
  | n + 1, bs => bs.take 64 :: shaBlocks n (bs.drop 64)

/-- SHA-256 of a message, as 32 bytes. -/
def sha256 (msg : List Byte) : List Byte :=
  let zeros := (119 - msg.length % 64) % 64
  let padded := msg ++ [0x80#8] ++ List.replicate zeros 0#8 ++ (bytesLE (msg.length * 8) 8).reverse
  let h := (shaBlocks (padded.length / 64) padded).foldl shaBlock shaH0
  h.flatMap fun w => (bytesLE w.toNat 4).reverse

/-! ## Times -/

/-- The grain count of a time (R5). -/
def grains (t : Time) : Nat := t.toNat % 2 ^ 52

/-- The epoch of a time (R82). -/
def epochOf (t : Time) : Nat := t.toNat / 2 ^ 52

/-- The 64-bit form of a time: grains in [51:0], the epoch's low 12 bits in [63:52]. -/
def time64 (t : Time) : BitVec 64 := BitVec.ofNat 64 t.toNat

/-- `t` moved by `d` grains. -/
def addGrains (t : Time) (d : Int) : Time := BitVec.ofInt 68 (t.toNat + d)

/-- `a` lies before `b`, in serial-number order over epoch and grains. -/
def before (a b : Time) : Bool := (b - a).toNat < 2 ^ 67 && a != b

/-- The later of two times. -/
def laterOf (a b : Time) : Time := if before a b then b else a

/-- Grains from `a` to `b`, signed. -/
def span (a b : Time) : Int := (b - a).toInt

/-- A 52-bit grain time `g` resolved to an epoch against `now` under R83: ahead by less than 2^51 grains, or behind. -/
def resolve52 (now : Time) (g : Nat) : Time :=
  let delta := (g + 2 ^ 52 - grains now) % 2 ^ 52
  if delta < 2 ^ 51 then addGrains now (Int.ofNat delta) else addGrains now (Int.ofNat delta - Int.ofNat (2 ^ 52))

end Sys2Proof.Machine
end

