-- ==== Sys2Proof/Machine/State.lean ====
section
/-! DEFINITION. The state of the OPX-5164: everything the specification gives the machine, as plain data, and its value
right after reset. -/
namespace Sys2Proof.Machine

/-! ## Sites, arbitration, the CSV and the dictionary interfaces (chapters 01, 02) -/

/-- The seven site states of Table 1.8. -/
inductive SiteState where
  | off | parked | ready | running | cal | safe | fenced
  deriving DecidableEq, Repr

/-- SITE_STATE.CAUSE, Table 1.12. -/
inductive SiteCause where
  | reset | request | engineStart | engineIdle | calBegin | calEnd | fault | thermal | recovery | ack | region | chip
  deriving DecidableEq, Repr

/-- SITE_STATE.REQ_RESULT, Table 1.12. -/
inductive ReqResult where
  | none | applied | refusedPrepare | groupFailed | overriddenSafe | inProgress
  deriving DecidableEq, Repr

/-- A requested transition that takes time and is in progress (R29). -/
inductive Transition where
  | powerUp | powerDown | unpark | park | fence | unfence
  deriving DecidableEq, Repr

/-- What a forcing level forces (R385). -/
inductive Scope where
  | site (s : Fin 64) | region (q : Fin 4) | chip
  deriving DecidableEq, Repr

/-- The state machine of one site: SITE_STATE (Table 1.12) and what R29, R470 and Table 1.9 need beside it. -/
structure SiteCtl where
  state     : SiteState
  prev      : SiteState
  cause     : SiteCause
  reqResult : ReqResult
  tLast     : BitVec 64            -- [51:0] grains, [63:52] epoch low 12 bits
  trans     : Option Transition    -- the transition in progress
  safeFrom  : SiteState            -- the state SAFE was entered from
  calFrom   : SiteState            -- the state held before CAL
  forces    : List Scope           -- scopes whose force has reached the site and holds it, or waits for POWER_UP or UNFENCE (R470)
  hist      : List (Time × SiteState)  -- states left in the last 10 µs, newest first, and when (R186)
  deriving DecidableEq, Repr

/-- A requester of the site stream writer, Table 1.5, with its starvation counters (R22). -/
structure Starve where
  counts : Vector Nat 11
  deriving DecidableEq, Repr

/-- Weighted round robin of one region resource (R25): the site of the round and the grants it has taken. -/
structure Wrr where
  pos  : Nat
  used : Nat
  deriving DecidableEq, Repr

/-- The CSV and the QC supervision (R35, R36). -/
structure Csv where
  servicing  : Bool               -- the CSV services its watchdog
  qcStopped  : Vector Bool 4      -- QCs that have missed 4 heartbeats
  waiting    : Option (List (BitVec 32))  -- a whole reply waiting for mailbox room
  rawServed  : BitVec 32          -- ENGINE_FW.RAW_COUNTS [31:0]
  rawGeneral : Nat                -- ENGINE_FW.RAW_COUNTS [47:32]
  deriving DecidableEq, Repr

/-- Who made a write or an event: SRC of Table 21.2. -/
inductive Source where
  | iface (i : Iface) | cal | mse | mitten | device
  deriving DecidableEq, Repr

/-- The answer of the latest dictionary access (R45, R54): who asked, the DSTAT code, the words of the reply. -/
structure Answer where
  iface : Iface
  dstat : Nat
  words : List (BitVec 32)
  deriving DecidableEq, Repr

/-- The dictionary access unit (R50): the CK_SEQ cycle of the latest access, and the subindices that the access applied as a
single-write transaction. -/
structure AccessUnit where
  cycle : Option Time
  wrote : List Nat
  deriving DecidableEq, Repr

/-! ## Clocks and the time base (chapter 03) -/

/-- PLL_STATUS.STATE, Table 3.4. -/
inductive PllState where
  | bypass | acquire | locked | holdover | ret | slew | resyncWait | unlocked
  deriving DecidableEq, Repr

/-- The main PLL: PLL_STATUS (Table 3.4) and what R59–R70 need beside it. -/
structure Pll where
  state       : PllState
  economy     : Bool            -- FLAGS.MODE_ACTIVE
  linkLocked  : Bool
  refPresent  : Bool
  jUnknown    : Bool
  phaseErr    : BitVec 16
  absorbFrom  : Option Time     -- the loop absorbs `phaseErr` from then on (R67)
  jLast       : BitVec 32
  slewRemain  : Int             -- the correction as it stood at `slewFrom`
  slewFrom    : Time
  lastStep    : BitVec 64
  holdovers   : Nat
  lostInAcquire : Bool          -- REFCLK was lost during ACQUIRE, and the PLL has not locked since (R73)
  jLost       : Bool            -- so J is unknown at the next return (R66), until a RESYNC step
  phaseAtReturn : Option Int    -- phase error of the first qualified edge, while RETURN waits for a SYNC_IN edge
  slewBegun   : Bool            -- a SLEW_START whose SLEW_END has not been placed
  stepped     : Bool            -- the RESYNC step has been applied and the lock criterion is awaited
  skipEdge    : Bool            -- the first SYNC_IN edge after qualification neither measures J nor sets an anchor (R66)
  deriving DecidableEq, Repr

/-- The settings of a clock output: divider, delay in grains, and the time of one rising edge, which fixes the phase. -/
structure CkoSetting where
  div   : Nat
  delay : Nat
  rise  : Time
  deriving DecidableEq, Repr

/-- One clock output: CKOn.STATUS, the settings in force, and those that take over at the terminal count `next.1` (R75).
The output runs, or is held low, as `running` says from `from_` on, and the other way before it. -/
structure Cko where
  running    : Bool
  from_      : Time
  heldRelock : Bool
  econStopped : Bool
  cur        : CkoSetting
  next       : Option (Time × CkoSetting)
  deriving DecidableEq, Repr

/-- SYNC_CFG's status and the grid anchor (R80). -/
structure SyncCtl where
  last   : BitVec 64
  count  : BitVec 32
  anchor : Option Time
  deriving DecidableEq, Repr

/-! ## Pin cells and edge timing (chapters 04, 05) -/

/-- A slewed quantity on its way (R86, R156): it left `start` in the cycle at `t0` towards `target`, `step` codes at a time,
the first step one CK_SEQ cycle after `t0` and one every `rate` cycles from then on. `cyc` is the length of those cycles. -/
structure Slew where
  start  : Int
  target : Int
  step   : Nat
  rate   : Nat
  t0     : Time
  cyc    : Nat
  deriving DecidableEq, Repr

/-- A level DAC, or another slewed quantity: its code when it is not moving, or its move. -/
inductive Level where
  | still (code : Int)
  | moving (m : Slew)
  deriving DecidableEq, Repr

/-- The state of a cell's driver: PC_STATUS.DRV_STATE, Table 4.12. -/
inductive DrvState where
  | z | vil | vih | vtt | ppmu
  deriving DecidableEq, Repr

/-- A PPMU measurement in progress (R99): its settle time runs, or conversions are being taken. -/
structure PpmuMeas where
  converting : Bool
  route      : Bool              -- true: bridge-unit converter
  total      : Nat               -- 2^AVG
  pair       : Option (Fin 2)    -- the released pair that converts for the cell now (R190)
  done       : Nat
  sum        : Int
  limited    : Bool
  saturated  : Bool
  deriving DecidableEq, Repr

/-- A change of a driver at the pad: when, to which state, and whether a timing-set edge makes it (R112) or not (R113). -/
structure DrvChange where
  t    : Time
  st   : DrvState
  edge : Bool
  deriving DecidableEq, Repr

/-- The output a PPMU holds during a range switch (R97): a current in steps of 62.5 pA, or a level code. -/
structure PpmuHold where
  current : Bool
  value   : Int
  deriving DecidableEq, Repr

/-- One pin cell: driver, level DACs, comparators, PPMU, sticky flags and its edge generator. -/
structure PinCell where
  base      : DrvState                      -- the driver state before the transitions kept in `recent`
  recent    : List DrvChange                -- the last two transitions at the pad, newest first (R112)
  pattern   : DrvState                      -- the state the drive codes executed so far leave (R96)
  undriven  : Time                          -- end of the undriven gap of an OWNER change
  vih       : Level
  vil       : Level
  vtt       : Level
  force     : Level                         -- the PPMU force voltage
  connected : Bool                          -- the PPMU is connected
  held      : Option PpmuHold               -- the output held during a PPMU range switch
  cmpHi     : Bool
  cmpLo     : Bool
  capHi     : Bool                          -- CMP_HI, CMP_LO last captured in SAMPLED mode
  capLo     : Bool
  cmpLeft   : Option Time                   -- the commit cycle in which CMP_MODE left CONTINUOUS (Table 4.7)
  flags     : BitVec 10                     -- PC_STATUS.FLAGS
  caused    : Time × BitVec 10              -- the latest CK_SEQ cycle in which a flag was caused, and the flags caused in it (R92)
  limited   : Bool                          -- PPMU_LIMITED holds now
  meas      : Option PpmuMeas
  result    : BitVec 32                     -- PC_MEAS
  samples   : Nat
  err       : Nat
  qty       : Bool
  resLimited : Bool
  collision : Bool                          -- TIMING_STATUS
  collCount : Nat
  collAt    : Option Time                   -- the CK_SEQ cycle of the latest collision
  collClear : Option Time                   -- the CK_SEQ cycle of the latest clear of a set flag (R114)
  cmpHist   : List (Time × Bool × Bool)     -- changes of CMP_HI and CMP_LO in the last 10 µs: when, and both before
  stampWin  : List (Time × Time)            -- the latest stamp-enable windows (STMP), newest first
  deriving DecidableEq, Repr

/-- What a MARK ball follows from a time on, in the time of the marker lines, 40,960 grains before the ball's (R116): its
subindex of MARK_PIN_MAP, its marker line, and the end of a pulse (R117). -/
structure MarkSpan where
  from_    : Time
  cfg      : Nat
  line     : Bool
  pulseEnd : Option Time
  deriving DecidableEq, Repr

/-- A MARK ball: the spans that the ball has not yet passed, newest first. -/
structure MarkBall where
  spans : List MarkSpan
  deriving DecidableEq, Repr

/-! ## The pattern sequencer (chapter 06) -/

/-- PSQ_STATUS.STATE, Table 6.10. -/
inductive PsqState where
  | idle | run | wait | underrun | calHold
  deriving DecidableEq, Repr

/-- PSQ_STATUS.STOP_CAUSE, Table 6.10. -/
inductive StopCause where
  | none | halt | stop | theEnd | safe | park | timeout | underrun | fault
  deriving DecidableEq, Repr

/-- A loop counter: its value and, while armed, the segment, the first offset of the body and the offset of its end (R129). -/
structure LoopCounter where
  value : BitVec 24
  armed : Option (Nat × Nat × Nat)
  deriving DecidableEq, Repr

/-- A fill in progress (R141). `t0` is its commit cycle: equal fills of one cycle form one broadcast read (R142). `left` counts
the vectors that region memory has not granted yet; `ends` is the end of the last grant. -/
structure Fill where
  xip   : Bool
  addr  : Nat
  count : Nat
  t0    : Time
  left  : Nat
  ends  : Option Time
  deriving DecidableEq, Repr

/-- A segment: PSQ_SEG_STATE but STATE, which R135 derives, and its vectors by offset (0 where unlisted). -/
structure Segment where
  filled  : Bool
  filling : Bool
  fill    : Option Fill
  src     : Nat
  fillErr : Nat
  entries : BitVec 16
  mem     : List (Nat × BitVec 64)
  deriving DecidableEq, Repr

/-- What a waiting PSQ waits for (R132). -/
inductive PsqWait where
  | event (cond : Nat)
  | sync
  deriving DecidableEq, Repr

/-- The compares of one vector that no condition has seen yet (R128): cells that failed, whether one of them counts for FAIL,
and whether the vector clears the flags after its compares. -/
structure VecFails where
  cells : BitVec 8
  fail  : Bool
  clr   : Bool
  deriving DecidableEq, Repr

/-- The PSQ of a site: PSQ_STATUS (Table 6.10) and what R123–R149 need beside it. -/
structure Psq where
  state     : PsqState
  stopCause : StopCause
  pc        : BitVec 15                    -- the vector to execute next; the last one while waiting or stopped
  prev      : BitVec 15                    -- the last vector executed
  zero      : Time                         -- time zero of the vector to execute next, or of the grid while waiting
  stack     : List (BitVec 15)             -- return addresses, newest first
  ctrs      : Vector LoopCounter 4
  cellFail  : BitVec 8
  fail      : Bool
  matchTo   : Bool
  underrun  : Bool
  waitTo    : Bool
  pipe      : List VecFails                -- the last four vectors, newest first
  lastCode  : Vector (Option (BitVec 4)) 8 -- each cell's last code other than KEEP in the run, or since the underrun (R125)
  vectors   : BitVec 64
  reps      : Nat                          -- MATCH repetitions run
  passes    : List Bool                    -- results of the last four repetitions, newest first
  wait      : Option PsqWait
  waitFrom  : Time
  goto      : Option (BitVec 15 × Time)    -- a GOTO applied and not yet effective, with its applying cycle
  stopAt    : Option Time                  -- a STOP applied and not yet effective
  stopped   : Option Time                  -- the applying cycle of the latest STOP that stopped the PSQ (Table 6.8)
  resume    : Option (Option (BitVec 15))  -- the boundary at `zero` is still to come: at a run's start, or as a wait, an underrun
                                           -- or CAL_HOLD ends; the address that it goes to, or the sequential advance
  used      : List (Time × BitVec 8)       -- which segments were ACTIVE or ARMED until when, in the last 10 µs, newest first (R136)
  ext       : List (Nat × Time × Bool)     -- changes of MSE_FLAG and RTRIG in the last 10 µs: COND, when, the
                                           -- value before (R127)
  gotoResult : Nat
  lines     : BitVec 4                     -- marker lines
  lineHist  : List (Time × BitVec 4)       -- changes of the marker lines in the last 10 µs: when, and the lines before
  trigPulses : List (Nat × Time)           -- pulses of the site trigger lines in the last 10 µs, newest first
  segs      : Vector Segment 8
  tsetOld   : List (Nat × Nat × Time)      -- timing-set subindices changed: address, previous value, commit cycle (R107)
  deriving DecidableEq, Repr

/-! ## Bridge units: excitation and measurement (chapters 07, 08) -/

/-- A GAIN change in progress (R171): the working code slews to the hold value, or the stages are being switched.
`hold` is the hold value as a code of the old range, `newHold` the same value as a code of the new range. -/
structure RangeSwitch where
  switching : Bool
  newHold   : Int
  deriving DecidableEq, Repr

/-- BU_META.ACQ_STATE, Table 8.9. -/
inductive AcqState where
  | stopped | starting | running | suspended
  deriving DecidableEq, Repr

/-- The sine generator of a unit from a time on: whether a sine form runs, the phase accumulator at that time, its increment
per CK_PAT edge, which is 0 while CK_PAT is gated, and PHASE (R158). -/
structure WaveSpan where
  from_ : Time
  on    : Bool
  acc   : BitVec 32
  ftw   : Nat
  phase : Nat
  deriving DecidableEq, Repr

/-- What a sinc⁴ sample of a unit is tagged with (Table 8.6), as the unit alone shows it. -/
structure UnitTags where
  disturbed  : Bool
  limited    : Bool
  localSense : Bool
  deriving DecidableEq, Repr

/-- One bridge unit: excitation (BU_STATUS, Table 7.11) and acquisition (Tables 8.9, 8.10). -/
structure Bridge where
  connected  : Bool
  closing    : Bool                -- the switches are closing at the preset code
  opening    : Option Int          -- the switches open when the working code has reached this code
  offset     : Level               -- working code, or working offset in a sine form
  ampl       : Level               -- working amplitude
  wave       : Nat                 -- the form in force: 0 DC, 1 SINE, 2 SINE_USER
  waves      : List WaveSpan       -- the sine generator now and in the last 10 µs, newest first
  gain       : Bool                -- the stage in force: true ×2
  range      : Option RangeSwitch
  limit      : Bool                -- LIMIT_ACTIVE
  localSense : Bool
  flags      : BitVec 4            -- BU_STATUS.FLAGS
  caused     : Time × BitVec 4     -- the latest CK_SEQ cycle in which a flag was caused, and the flags caused in it (R168)
  cleared    : Time × BitVec 4     -- the latest CK_SEQ cycle in which a flag was cleared, and the flags cleared in it
  hist       : List (Time × UnitTags)   -- tags that ended in the last 10 µs, newest first, and when (R186)
  pEst       : Nat                 -- 0.1 mW
  iOut       : BitVec 16           -- 1 µA
  table      : List (Nat × BitVec 16)   -- user sine table by entry, 0 where unlisted
  acq        : AcqState
  tStart     : Time
  t0         : Time                -- BU_ACQ_T0, written when the first output is complete (Table 8.5)
  outputs    : Nat                 -- sinc⁴ outputs since the start, the three discarded ones included
  stopAfter  : Bool                -- the MSE stop micro-op ends acquisition after the result in progress
  stopCycle  : Option Time         -- the CK_SEQ cycle of the latest stop micro-op (Table 8.7)
  acqHeld    : Bool                -- acquisition ran when the site left READY, RUNNING and SAFE (R180)
  cfgChange  : Bool                -- a range, source or guard change waits for the next sinc⁴ boundary
  seq        : BitVec 32           -- index of the last result published
  pubs       : BitVec 32           -- results published since power-up: the model's own count, for WAITE event 1
  ratio      : BitVec 64           -- BU_RESULT, BU_SIG, BU_REF, BU_QUAD as they read
  sig        : BitVec 64
  ref        : BitVec 64
  quad       : BitVec 64
  meta_      : BitVec 64           -- BU_META [51:0]
  deriving DecidableEq, Repr

/-! ## The measurement sequencing engine (chapter 09) -/

/-- MSE_STATUS.STATE, Table 9.15. -/
inductive MseState where
  | idle | run | wait | committed | restartPending
  deriving DecidableEq, Repr

/-- MSE_STATUS.RESULT, Table 9.15. -/
inductive MseResult where
  | none | completed | abandoned | stopped | fault | timeout | restartLimit
  deriving DecidableEq, Repr

/-- What a waiting MSE waits for: an event with its index and its timeout in cycles (0 none; results published at the start, for event 1),
or a number of cycles. -/
inductive MseWait where
  | event (ev : Nat) (index : Nat) (timeout : Nat) (pubs0 : BitVec 32)
  | cycles (n : Nat)
  | post (entry : BitVec 64)
  deriving DecidableEq, Repr

/-- The last published result latched by RDRES sel 7 (R198). -/
structure ResLatch where
  ratio : BitVec 64
  sig   : BitVec 64
  ref   : BitVec 64
  meta_ : BitVec 64
  deriving DecidableEq, Repr

/-- MSE_TRIM of one unit, Table 9.16, with the counter of its PENDING entry. -/
structure TrimRecord where
  value   : BitVec 32
  cells   : BitVec 8
  status  : Nat
  counter : BitVec 64
  deriving DecidableEq, Repr

/-- The MSE of a site (R192, Table 9.15). The control store and the scratch memory read 0 where unlisted. -/
structure Mse where
  state     : MseState
  waiting   : Option MseWait
  window    : Bool                       -- the committed window of the invocation is open
  result    : MseResult
  g         : Vector (BitVec 32) 8
  z         : Bool
  n         : Bool
  c         : Bool
  v         : Bool
  rj        : Bool
  tmo       : Bool
  inw       : Bool
  stack     : List (BitVec 14)
  scratch   : List (Nat × BitVec 32)
  staging   : List (Nat × BitVec 64)     -- address (offset << 8 | sub) and value, in staging order
  flag      : Bool
  upc       : BitVec 14
  params    : Vector (BitVec 32) 4
  slot      : Nat
  runId     : BitVec 16
  restarts  : Nat
  abortLate : Bool
  ret       : BitVec 32
  faultUpc  : BitVec 14
  cause     : Nat                        -- ABANDON_CAUSE
  deferred  : Option Nat                 -- a cause deferred by the committed window
  deferFrom : Time                       -- its arrival
  dueAt     : Time                       -- the cycle in which the next microword executes, or the wait began
  began     : Time                       -- the start or restart of the invocation
  pendCause : Nat                        -- the cause of the restart that is pending
  acqUnits  : BitVec 2                   -- units whose acquisition this invocation started
  tLatch    : BitVec 20                  -- RDT's latch
  latch     : Option ResLatch            -- RDRES's latch
  store     : List (Nat × BitVec 24)
  crc       : BitVec 32
  landed    : Option Time                -- when the words of the latest load had landed, while its CRC is computed (R214)
  loadErr   : Nat
  trims     : Vector TrimRecord 2
  toDsp     : List (BitVec 64)           -- MSE-to-DSP mailbox, at most 16, oldest first
  fromDsp   : List (BitVec 32)           -- DSP-to-MSE mailbox, at most 16, oldest first
  deriving DecidableEq, Repr

/-! ## Triggers, Bushel and streams (chapter 12) -/

/-- A mark of Tables 12.6 and 12.7. -/
structure Mark where
  kind  : Nat
  seqB1 : BitVec 16
  seqB0 : BitVec 16
  vec   : BitVec 16
  time  : BitVec 64
  arg   : BitVec 64
  deriving DecidableEq, Repr

/-- The streams of Table 12.5. -/
inductive Stream where
  | samples | stamps | results | snap | marks
  deriving DecidableEq, Repr

/-- A word in a site stream FIFO, with its stream, its sub-stream and its epoch (R280). -/
structure StreamWord where
  stream : Stream
  sub    : Nat
  epoch  : BitVec 16
  word   : BitVec 64
  deriving DecidableEq, Repr

/-- Table 12.3. -/
inductive BushelState where
  | disarmed | armed | capturing | held | dumping
  deriving DecidableEq, Repr

/-- A Bushel. Its entries are the comparator words at every plane sample; `hist` holds them as the list of changes
(time of the first entry with the new word, the word), newest first, from which any entry can be read. -/
structure Bushel where
  state    : BushelState
  pre      : Nat                 -- PRE latched at the entry into ARMED
  out      : Bool                -- OUT latched: true HOLD
  armedAt  : Time                    -- the first entry recorded since entry into ARMED
  hist     : List (Time × BitVec 16)
  tTrig    : Time                -- on the time base in force
  stepBy   : Int                 -- time-base steps since T_TRIG, which T_TRIG as it reads leaves out
  src      : Nat                 -- H0 SRC of the capture
  step     : Bool                -- H0 STEP
  preValid : Nat
  missed   : Nat                 -- triggers missed since the last capture began
  missedH0 : Nat                 -- MISSED as this capture's header reports it
  captures : BitVec 32           -- captures begun; the capture's number is the count before it
  image    : List (BitVec 64)    -- the words of a HELD image, or those still to be dumped
  deriving DecidableEq, Repr

/-- A match unit (R267–R269). -/
structure MatchUnit where
  fires      : BitVec 32
  suppressed : Nat
  holdoff    : Option Time        -- T_D of the firing whose holdoff runs
  rises      : Nat                 -- matches that rose during the holdoff
  tLast      : BitVec 64
  matched    : Bool                -- the match at the plane sample `matchedAt`, judged under the settings then in force
  matchedAt  : Time
  deriving DecidableEq, Repr

/-- The streams of one site: FIFO, mark queue, RTRIG latch, Bushel, packet counters. -/
structure SiteStream where
  fifo        : List StreamWord      -- oldest first, at most 2,048
  flushed     : Nat                  -- words at the head whose packet has been closed by FLUSH or by a disable
  marks       : List Mark            -- oldest first, at most 32
  lossPending : Nat                  -- marks lost and not yet reported by a LOST mark
  markLost    : Nat
  resultsLost : Nat
  discards    : Vector Nat 7         -- words discarded since the previous packet, per sub-stream
  tseq        : Vector (BitVec 16) 7 -- per sub-stream: SAMPLES 0–2, STAMPS, RESULTS 0–1, SNAP
  starve      : Starve
  measStarve  : Vector Nat 8         -- starvation counters of C0–C7 for the site measurement resources (R24)
  rtrig       : Bool
  rtrigAt     : Option Time          -- the latest set of the latch (R270)
  overrun     : Nat
  bushel      : Bushel
  markBits    : BitVec 4             -- marker bits of the previous vector (R281)
  resBlock    : Nat                  -- vectors in the PSQ's RESULTS block so far (R284)
  resFails    : BitVec 8             -- CELL_FAIL bits set in the block
  resLoss     : Bool                 -- a PSQ word was discarded and not yet reported
  deriving DecidableEq, Repr

/-- Chip triggers: TRIG_OUT pulses, the scheduled chain actions, CHIP_TRIG.CHAIN_STATUS. -/
structure ChipTrig where
  outs   : Vector (List (Time × Time)) 4     -- start and end of the pulses of each TRIG_OUT ball
  bus    : List (Nat × Time)     -- pulses of the bus lines in the last 10 µs: line and start, newest first (R271)
  slots  : List (Nat × Time)     -- pulses of the chain channels' slots: channel and T_A, newest first (R273)
  chain  : List (Fin 8 × Time)   -- channel and T_A
  sent   : Nat
  acted  : Nat
  late   : Nat
  deriving DecidableEq, Repr

/-! ## The site DSP (chapter 10) -/

/-- DSP_STATUS.STATE, Table 10.14. -/
inductive DspState where
  | stopped | run | wait | halted | fault
  deriving DecidableEq, Repr

/-- DSP_STATUS.STOP_CAUSE, Table 10.14. -/
inductive DspStop where
  | none | halt | stop | fault | fence
  deriving DecidableEq, Repr

/-- An address generator (Table 10.1, R229). -/
structure Ag where
  p    : BitVec 15
  m    : BitVec 16
  b    : BitVec 15
  l    : BitVec 15
  pend : Option (BitVec 15)
  deriving DecidableEq, Repr

/-- A hardware loop counter with the addresses of its loop (R227). -/
structure LoopReg where
  count : BitVec 24
  first : BitVec 12
  last  : BitVec 12
  rot   : Nat
  on    : Bool
  deriving DecidableEq, Repr

/-- What the interrupt shadow bank duplicates (Table 10.1). -/
structure DspBank where
  x    : Vector (BitVec 32) 16
  ag   : Vector Ag 4
  ring : Nat
  lc   : Vector LoopReg 2
  deriving DecidableEq, Repr

/-- A register write in flight: the first bundle number that reads it, the physical register, the value (R220). -/
structure Flight where
  due : Nat
  reg : Nat
  val : BitVec 32
  deriving DecidableEq, Repr

/-- An input entry of Table 10.6. -/
structure InEntry where
  w0 : BitVec 32
  w1 : BitVec 32
  w2 : BitVec 32
  w3 : BitVec 32
  deriving DecidableEq, Repr

/-- A word in the output queue, with its stream and sub-stream. -/
structure OutWord where
  stream : Stream
  sub    : Nat
  word   : BitVec 64
  deriving DecidableEq, Repr

/-- A DSP: Table 10.1, its ports and DSP_STATUS (Table 10.14). Memories read 0 where unlisted. -/
structure Dsp where
  state     : DspState
  stopCause : DspStop
  bank      : DspBank                    -- the bank in use
  other     : DspBank                    -- the other bank
  inHandler : Bool
  ring      : Vector (BitVec 32) 48      -- ring slots
  acc       : Vector (BitVec 80) 4
  accHist   : List (Vector (BitVec 80) 4)   -- the accumulators after each of the last four bundles, newest first
  aflags    : BitVec 5
  pmem      : List (Nat × BitVec 64)
  dmem      : List (Nat × BitVec 32)
  stores    : List (Nat × Nat × BitVec 32)  -- stores not yet seen by loads: first bundle number that sees it, address, word
  flight    : List Flight                -- oldest first
  count     : Nat                        -- number of the bundle due
  due       : Time                       -- the CK_DSP edge at which the bundle due issues
  pc        : BitVec 12
  slots     : BitVec 3                   -- slots of the bundle at pc that have been executed
  branch    : Option (Nat × BitVec 12)   -- delay bundles still to issue, and the target
  flags     : List (Time × Bool)         -- the values of the DSP flag and from when on, newest first (R233)
  ien       : BitVec 4
  latched   : BitVec 4                   -- latched edge sources: TIMER, HOST
  oneFirst  : Bool                       -- one bundle must issue before the next entry (R239)
  tper      : BitVec 24
  thresh    : BitVec 8
  epc       : BitVec 12
  d2h       : BitVec 32
  timeHi    : BitVec 32
  waitMask  : Option (BitVec 4)
  inq       : List InEntry               -- input FIFO, at most 128, oldest first
  inLostU   : Vector Bool 2              -- entries of the unit discarded since the last stored one
  inLost    : Nat
  outq      : List OutWord               -- output queue, at most 32, oldest first
  outHeld   : List OutWord               -- words that wait for room with the pipeline frozen
  outDrops  : Nat
  sticky    : BitVec 6                   -- FLAGS [5:0]
  staging   : Vector (Vector (BitVec 32) 10) 2
  pubs      : Vector (Option (Time × Vector (BitVec 32) 10)) 2   -- per unit, what RPUB has taken and when it is written (R234)
  h2dUnread : Bool
  faultPc   : BitVec 12
  bundles   : BitVec 64
  crc       : BitVec 32
  tableCrc  : BitVec 32
  crcFrom   : Option Time                -- while CRC is computed: since when (R243)
  tableFrom : Option Time                -- while TABLE_CRC is computed: since when
  loadErr   : Nat
  stopAsked : Bool                       -- a STOP awaits the end of the bundle
  deriving DecidableEq, Repr

/-! ## Time-stamps, intervals and frequency (chapter 11) -/

/-- A captured edge: the CK_PAT edge that opens its period, its fine code, whether it falls, and the edge counters of the two
frequency channels at the edge (R258); for a special source `n` counts, at place 0, the edges missed since. -/
structure Capture where
  coarse : Time
  fine   : Fin 1280
  fall   : Bool
  n      : Vector (BitVec 32) 2
  steps  : Int                     -- time-base steps since the edge: their sum in grains, and how many (R254)
  stepN  : Nat
  deriving DecidableEq, Repr

/-- A converter: its bin table in 1/256 grain (none: nominal) and the staging image loaded since the last APPLY (R262). -/
structure Converter where
  table  : Option (List Int)
  staged : Option (List Int)
  deriving DecidableEq, Repr

/-- A stamp queue entry with the epoch of its time (R253). -/
structure QueueWord where
  word  : BitVec 64
  epoch : BitVec 16
  deriving DecidableEq, Repr

/-- The stamp side of one cell: its two capture registers, its queue and counters, its converter. -/
structure CellTdc where
  capHi    : Option Capture
  capLo    : Option Capture
  queue    : List QueueWord        -- at most 64, oldest first
  loss     : Nat                   -- losses not yet stored as a LOSS word
  ovfNext  : Bool                  -- the next stored word carries OVF
  drops    : Nat
  misses   : Nat
  conv     : Converter
  resolved : Option Time           -- the CK_SEQ cycle of the latest resolution: one in each cycle (R248)
  deriving DecidableEq, Repr

/-- A stamp as the channels see it: the source selector of Table 11.3, the time in 1/256 grain, whether its table is nominal,
and the time-base steps since the edge (R254): their sum in grains, and how many. -/
structure Seen where
  sel : Nat
  t   : BitVec 76
  est : Bool
  steps : Int
  stepN : Nat
  deriving DecidableEq, Repr

/-- An interval channel (R256, R257). -/
inductive IntervalState where
  | idle | armed | started (start : Seen)
  deriving DecidableEq, Repr

structure Interval where
  state   : IntervalState
  lastEnd : Option (BitVec 76)     -- end of the previous record
  after   : Option (BitVec 76)     -- only start edges after this instant count (R257)
  miss    : Option (BitVec 76)     -- the earliest missed edge of either source after the start edge (R257)
  record  : BitVec 64
  deriving DecidableEq, Repr

/-- A frequency channel (R258, R259). `count` is its free-running edge counter. -/
structure FreqChan where
  armed   : Bool
  gate    : Option (BitVec 76 × BitVec 32 × Bool)   -- opening time, counter at the opening, nominal table
  count   : BitVec 32
  armedAt : Time                                    -- when the channel was armed, for the opening edge of R259
  loss    : Bool                                    -- the opening edge was preceded by a miss (R258)
  lossEnd : Bool                                    -- an edge that would have closed the gate was missed
  steps   : Int                                     -- time-base steps since the opening edge: their sum, and how many
  stepN   : Nat
  seq     : BitVec 32
  tWord   : BitVec 64
  nWord   : BitVec 64
  deriving DecidableEq, Repr

/-- TDC_CAL.STATE, Table 11.9. -/
inductive TdcRun where
  | idle | pending | running | special
  deriving DecidableEq, Repr

/-- The time-stamp unit of a site. -/
structure Tdc where
  cells    : Vector CellTdc 8
  seen     : List Seen             -- recent stamps, newest first, for the look-back of R256
  missed   : List (Nat × BitVec 76)   -- recent missed edges: source selector and time (R257)
  ints     : Vector Interval 4
  freqs    : Vector FreqChan 2
  run      : TdcRun
  applied  : BitVec 13             -- TDC_CAL.APPLIED, FAILED, CAUSE, T_LAST
  failed   : BitVec 13
  cause    : Nat
  tLast    : BitVec 64
  reserved : Nat                   -- Assize entries reserved for the run
  deriving DecidableEq, Repr

/-- The five special-source converters: TRIG_IN0–3 and SYNC_IN, and the levels of the TRIG_IN balls. -/
structure SpecialTdc where
  convs   : Vector Converter 5
  caps    : Vector (Option Capture) 5
  start   : Option Time            -- a SPECIAL run: the CK_SEQ cycle in which it starts (R263)
  closed  : Bool                   -- the open records and gates of its sources have been closed
  reserved : Nat                   -- Assize entries reserved for the run
  site    : Nat                    -- the site whose TDC_CAL started it
  levels  : BitVec 4
  changes : List (Nat × Time × Bool)   -- changes of the levels in the last 10 µs: line, when, the level before (R127)
  deriving DecidableEq, Repr

/-! ## The Commit Unit, overlays and the base configuration (chapter 13) -/

/-- Table 13.1. -/
inductive GroupState where
  | free | opened | preparing | prepared | scheduled | committed | failed | aborted
  deriving DecidableEq, Repr

/-- TXN_GROUP_STATUS.FAIL_PHASE, Table 13.7. -/
inductive FailPhase where
  | none | prepare | changed | commitCycle | late | vote | deadline | timeout | coordAbort
  deriving DecidableEq, Repr

/-- One application of an overlay that a group or transaction carries (R305). -/
structure OverlayApp where
  slot : Nat
  id   : BitVec 16
  crc  : BitVec 32
  deriving DecidableEq, Repr

/-- When a scheduled group applies (R293): in the cycle that starts at `cycle`, the second after the command, or in the cycle
that contains T, held with its epoch. -/
inductive ApplyTime where
  | asap (cycle : Time)
  | at (t : Time)
  deriving DecidableEq, Repr

/-- One of the 15 groups (R286): TXN_GROUP_STATUS (Table 13.7), TXN_COMMIT_TIME (Table 13.8) and what it stages. -/
structure Group where
  state       : GroupState
  owner       : Option Iface
  entries     : List (Nat × Nat)      -- (index << 8 | sub, value), in staging order (R289)
  overlays    : List OverlayApp
  failDstat   : Nat
  failPhase   : FailPhase
  failAddr    : Nat
  abortLate   : Bool
  lateApplied : Bool
  stepped     : Bool
  overridden  : Bool
  outcomes    : BitVec 3              -- outcomes received from participants: bit 0 COMMITTED, 1 FAILED, 2 ABORTED (R300)
  votesYes    : Nat
  votesNo     : Nat
  t           : BitVec 52             -- TXN_COMMIT_TIME.T
  tEpoch      : BitVec 12             -- TXN_COMMIT_TIME.EPOCH as it reads
  due         : Option ApplyTime      -- held from COMMIT on
  appliedAt   : BitVec 64
  appliedWas  : BitVec 64             -- APPLIED_AT as it reads in the apply cycle itself (Table 13.2)
  applyCycle  : Option Time           -- the CK_SEQ cycle in which the group was applied, until it is opened again
  prepFrom    : Time                  -- the cycle in which PREPARING began (R290)
  heard       : Time                  -- the owner's last command or staging (R298)
  deps        : List Nat              -- dependency set of R291, addresses
  reserved    : Nat                   -- Assize entries reserved (R290)
  abortWaits  : Option FailPhase      -- an ABORT served while PREPARING (R297, R299)
  deadline    : Option Time   -- D with its epoch (R299, R300)
  remote      : Bool                  -- prepared by a coordinator's PREPARE, so an OUTCOME is owed
  deriving DecidableEq, Repr

/-- The Commit Unit: groups 1–15 at places 0–14, the overlay generation and LAST, the overlay slots 1–17 at places 0–16 as
the bytes of their images, and the base images. -/
structure CommitUnit where
  groups     : Vector Group 15
  generation : BitVec 16
  last       : BitVec 64              -- OVERLAY_ACTIVE.LAST
  store      : Vector (List (BitVec 8)) 17
  saving     : Option (Source × List (Nat × Nat))   -- who committed the BASE_CFG SAVE in progress, and its copy
  saveResult : Nat                    -- BASE_CFG.STATUS [2:1]
  userBase   : Option (List (Nat × Nat))   -- the stored user base image: (address, value) of what differs from factory
  userCrc    : BitVec 32
  baseInForce : List (Nat × Nat)      -- the base configuration loaded at this start-up
  deriving DecidableEq, Repr

/-! ## Gauntlet (chapter 18) -/

/-- Origin level of a fault message, Table 18.4. -/
inductive OriginLevel where
  | cell | site | region | chip | chain
  deriving DecidableEq, Repr

/-- Where a kind arises: origin level, the site (for a region origin the region's first site), the cell, unit or sensor. -/
structure Origin where
  level : OriginLevel
  site  : Nat
  cell  : Nat
  deriving DecidableEq, Repr

/-- A fault record, Table 18.5. FORCING reads 1 while `scopes` is not empty. -/
structure GtRecord where
  origin    : Origin
  kind      : Nat
  detail    : BitVec 32
  tFirst    : BitVec 64
  tLast     : BitVec 64
  since     : Time                -- presentation that made the record
  heard     : Time                -- latest presentation (R395)
  called    : Time                -- presentation since which it holds IRQ_N low while unacknowledged (R393)
  count     : Nat
  applied   : Nat
  gone      : Bool
  acked     : Bool
  escalated : Bool
  scopes    : List Scope          -- scopes it forces that have not been released
  reached   : List Scope          -- every scope it has forced; its ACK resets their counts (R398)
  rseq      : BitVec 16
  deriving DecidableEq, Repr

/-- GT_RECOVERY_COUNT of one scope (R398). -/
structure RecoveryCount where
  count   : Nat
  latched : Bool
  deriving DecidableEq, Repr

/-- Gauntlet: slots 1–63 at places 0–62, slot 64, the recovery counts (sites, then regions, then the chip). -/
structure Gauntlet where
  slots    : Vector (Option GtRecord) 63
  overflow : Option GtRecord
  rseq     : BitVec 16                 -- the next RSEQ
  recovery : Vector RecoveryCount 69
  loud     : Vector (Option Time) 69   -- per scope, its latest presentation at L1 or above (R397)
  cleared  : Option Time               -- when a record last cleared (R392)
  nvDrops  : Nat
  deriving DecidableEq, Repr

/-! ## The Assize log (chapter 21) -/

/-- An entry before it has its counter and its LINK: everything of Table 21.2 but SEQ and LINK.
`body` holds bytes 4–47, byte 4 lowest. -/
structure AszDraft where
  body : BitVec 352
  deriving DecidableEq, Repr

/-- An entry made: its counter (ERA in [63:48]) and its 64 bytes, byte 0 lowest. -/
structure AszEntry where
  counter : BitVec 64
  bytes   : BitVec 512
  deriving DecidableEq, Repr

/-- An open-operation marker (R439): a PENDING trim record of a unit, or an open sweep, each with its entry's counter. -/
inductive OpenMark where
  | trim (site : Fin 64) (unit : Fin 2) (cells : BitVec 8) (value : BitVec 32) (counter : BitVec 64)
  | sweep (counter : BitVec 64)
  deriving DecidableEq, Repr

/-- The Assize log: ASZ_COUNTER, ASZ_STATUS, ASZ_EXPORTED, the entries held (newest first), the write queue and the markers. -/
structure Assize where
  era      : Nat                 -- thermometer fuses blown
  n        : BitVec 48
  entries  : List AszEntry       -- newest first, at most 4,096
  queued   : Nat                 -- entries made and not yet in RNVM
  signing  : Bool                -- a checkpoint is being signed: two counter values are reserved
  held     : List AszDraft       -- entries of events queued behind the checkpoint
  exported : BitVec 64
  lost     : Nat
  marks    : List OpenMark
  dead     : Bool
  nearIn   : Bool                -- ASZ_NEAR_FULL is present
  fullIn   : Bool                -- ASZ_FULL is present
  deriving DecidableEq, Repr

/-! ## Reset, start-up, RNVM, in-service test and boundary scan (chapter 22) -/

/-- Where the chip stands between a reset and PRE-OPERATIONAL (Tables 22.1, 22.2). -/
inductive Phase where
  | vaonLost | inReset | started | baseLoaded | available | bypassed
  deriving DecidableEq, Repr

/-- Reset control: RG_RESET (Table 22.11), the asserted sources, CHIP_STATE. -/
structure ResetCtl where
  phase        : Phase
  cause        : Nat             -- Table 22.1
  resets       : Nat
  watchdogs    : Nat
  runNext      : Bool
  selftest     : BitVec 5        -- SELFTEST_RESULT
  pwrOk        : Bool            -- the PWR_OK ball is high
  resetN       : Bool            -- the RESET_N ball is high
  testEn       : Bool            -- the TEST_EN ball is high
  refQualified : Bool            -- REFCLK qualified (R59)
  thermalHold  : Bool            -- the hold of R374
  configSource : Nat
  outputsHeld  : Bool
  railsAbsent  : Bool            -- VPOS or VNEG absent (R461)
  supplyFault  : Option Nat      -- the supply whose SUPPLY_FAULT is present
  deriving DecidableEq, Repr

/-- A record write waiting for RNVM (R449): the kind of record and where it goes. -/
inductive NvmJob where
  | safeValue (unit : Nat) (value : BitVec 32)
  | overlay (slot : Nat) (image : List (BitVec 8))
  | event (entry : BitVec 256)
  | shutdown (entry : BitVec 256)
  deriving DecidableEq, Repr

/-- RNVM: area validity (NVM_STATUS, Table 16.9), the safe values, the event log and the writes that wait. -/
structure Nvm where
  readable    : Bool
  baseValid   : Bool
  overlaysValid : Bool
  safeValid   : Bool
  trimsValid  : Bool
  assizeValid : Bool
  writes      : BitVec 32
  corrected   : Nat
  uncorrectable : Nat
  safe        : Vector (BitVec 32) 128   -- the safe values as RNVM holds them
  safeDone    : Vector Bool 128          -- units whose safe value has been committed since start-up (Table 22.4)
  eventLog    : List (Bool × BitVec 256) -- ring of 512, newest first; true marks a shutdown record
  jobs        : List NvmJob              -- oldest first
  pos         : Nat                      -- whose turn it is among region requests (R27): region 0–3, 4 the chip's overlays
  deriving DecidableEq, Repr

/-- An in-service test of one site (RG_TEST, Table 22.10). -/
structure SiteTest where
  state      : Nat             -- 0 IDLE, 1 RUNNING, 2 DONE, 3 ABORTED
  left       : List Nat        -- tests still to run, the first running: 0 MEM, 1 LOOP, 2 BRIDGE
  ran        : BitVec 3
  failed     : BitVec 3
  memFail    : BitVec 7
  loopFail   : BitVec 8
  bridgeFail : BitVec 2
  deriving DecidableEq, Repr

/-- The instructions of Table 22.6. -/
inductive TapInstr where
  | extest | idcode | samplePreload | clamp | highz | extestPulse | extestTrain | bypass
  deriving DecidableEq, Repr

/-- What the boundary register does to the balls. -/
inductive BoundaryDrive where
  | released | driving | pulsing | training | held | highz
  deriving DecidableEq, Repr

/-- The register the TAP shifts between TDI and TDO. -/
inductive TapRegister where
  | boundary | idcode | bypass
  deriving DecidableEq, Repr

/-- The TAP: instruction in force, the register it selects, the boundary register's cells and what they drive. -/
structure Tap where
  instr    : TapInstr
  selected : TapRegister
  cells    : List Bool          -- the boundary register, ball by ball, as it was last shifted in
  captured : List Bool          -- what the selected register captured and shifts out
  drive    : BoundaryDrive
  deriving DecidableEq, Repr

/-! ## Furlong (chapter 14) -/

/-- FL_PORT_STATUS.STATE, Table 14.8. -/
inductive PortState where
  | down | training | active | standby | bypass
  deriving DecidableEq, Repr

/-- A packet: header word, payload words and the STOMP bit of its trailer; its CRC is regenerated on each link (R314). -/
structure Packet where
  h0      : BitVec 64
  payload : List (BitVec 64)
  stomp   : Bool
  deriving DecidableEq, Repr

/-- A block that a port has been given to send (R310–R316): a link control block, or a whole packet with its LSEQ and VC. -/
inductive TxBlock where
  | ctl (w : BitVec 64)
  | packet (lseq : BitVec 16) (p : Packet)
  deriving DecidableEq, Repr

/-- A packet that waits at an egress port (R325): forwarded, or the chip's own. -/
structure TxWait where
  through : Bool
  packet  : Packet
  held    : Option (Fin 2)     -- the port whose receive buffer still holds its words (R315)
  stamp   : Time               -- SYNC: its SOP time on arrival, or the corrected edge time (R328)
  deriving DecidableEq, Repr

/-- One Furlong port: FL_PORT_STATUS (Table 14.8) and the link layer's registers. -/
structure Port where
  state      : PortState
  width      : Nat
  linkLat    : BitVec 20
  replays    : Nat
  crcErrs    : Nat
  dropped    : BitVec 32
  linkDowns  : Nat
  ctlErrs    : Nat
  locked     : Vector Bool 4          -- block lock of each lane
  aligned    : Vector Bool 4          -- LANE_ALIGN seen in this training
  samples    : List Nat               -- latency samples of this training
  since      : Time                   -- the start of the training, or the instant at which the port went DOWN (R310)
  txSeq      : BitVec 16              -- LSEQ of the next new packet
  rxSeq      : BitVec 16              -- LSEQ expected
  replay     : List (BitVec 16 × Packet)   -- the replay buffer, oldest first
  replayRow  : Nat                    -- replays in a row
  replaySeq  : BitVec 16              -- of this packet
  waitReplay : Bool                   -- packets are discarded until the replay arrives
  credits    : Vector Nat 3           -- words the neighbour can still take, per VC
  rxUnacked  : Nat                    -- words received since the last ACK sent
  ackOwed    : Bool                   -- packets received are unacknowledged
  txWait     : List TxWait            -- packets waiting for a ring slot, in order of arrival
  broken     : Bool                   -- it went DOWN in a ring and no RESTORE has come since (R332)
  own        : Nat                    -- ring slots granted to forwarded packets since the last own packet (R325)
  trigPos    : Nat                 -- region whose turn it is among own TRIG packets (R27)
  out        : List TxBlock           -- what the port has sent and the lanes have not yet carried, oldest first
  deriving DecidableEq, Repr

/-- FL_TOPOLOGY.STATE, Table 14.6. -/
inductive TopoState where
  | unenumerated | normal | reversed | cut
  deriving DecidableEq, Repr

/-- What a source hop's DICT traffic has left (R320): TAG and OFFSET of the last request served, and its reply. -/
structure HopMemory where
  hop    : BitVec 16
  tag    : BitVec 16
  offset : Option (BitVec 32)
  reply  : List (BitVec 64)
  deriving DecidableEq, Repr

/-- An open DOMAIN write of a source hop (R321): its object, the bytes received, and when the last fragment came. -/
structure HopTransfer where
  hop   : BitVec 16
  index : Nat
  sub   : Nat
  bytes : List (BitVec 8)
  last  : Time
  deriving DecidableEq, Repr

/-- A packet that the chip consumes: its port, its SOP time, and whether its words still fill the receive buffer (R315). -/
structure InPacket where
  port   : Fin 2
  packet : Packet
  time   : Time
  credit : Bool
  deriving DecidableEq, Repr

/-- Furlong: the ports (UP at place 0, DN at 1), the topology (Table 14.6), enumeration (Table 14.7) and what chips remember of requests. -/
structure Furlong where
  ports     : Vector Port 2
  topo      : TopoState
  reachLo   : BitVec 16
  reachHi   : BitVec 16
  through   : BitVec 16
  hostPort  : Fin 2                   -- in force
  enumPort  : Fin 2                   -- the host port of enumeration
  addr      : BitVec 16
  pathLat   : BitVec 32
  chainLen  : BitVec 16
  lostLo    : Bool                    -- a break lies on the side of the lower addresses
  lostHi    : Bool                    -- a break lies on the side of the higher addresses
  inbox     : List InPacket           -- packets consumed and not yet acted on, oldest first
  bypassed  : Bool
  hops      : List HopMemory          -- by hop, rising
  transfers : List HopTransfer        -- by hop, rising
  seqs      : List (Nat × BitVec 10)  -- next SEQ by type × 64 + site, rising; 0 where unlisted
  sseqs     : List (BitVec 16)        -- SSEQs of the SYNC packets accepted, newest first (R328)
  sseqOut   : BitVec 16               -- SSEQ of the next SYNC packet originated
  egress    : Vector Wrr 4            -- round robin of the regions' sites at egress (R27)
  egressPos : Nat                     -- region whose turn it is (R27)
  deriving DecidableEq, Repr

/-! ## CAN FD (chapter 15) -/

/-- Table 15.3. -/
inductive NmtState where
  | preOperational | operational | stopped
  deriving DecidableEq, Repr

/-- CAN_STATUS.BUS, Table 15.8. -/
inductive BusState where
  | errorActive | errorPassive | busOff | silent
  deriving DecidableEq, Repr

/-- An EMCY message of Table 15.4: the error code and, for a Gauntlet record, the fault message and its record time. -/
structure Emcy where
  code    : BitVec 16
  errReg  : BitVec 8
  message : BitVec 64
  time    : BitVec 64
  deriving DecidableEq, Repr

/-- A frame the node has put on the bus: COB-ID and data bytes. -/
structure CanFrame where
  cob  : BitVec 11
  data : List (BitVec 8)
  deriving DecidableEq, Repr

/-- An open USDO session (R341): the client, whether it downloads, the subindex, and the bytes moved or still to move. -/
structure Usdo where
  client   : Nat
  download : Bool
  index    : Nat
  sub      : Nat
  bytes    : List (BitVec 8)
  last     : Time                  -- the last request
  deriving DecidableEq, Repr

/-- One TPDO: the mapped values of its last send, when that was, and whether it has been sent at all since it became valid. -/
structure Tpdo where
  lastBytes : Option (List (BitVec 8))
  lastSent  : Option Time
  deriving DecidableEq, Repr

/-- The CAN FD port: CAN_STATUS (Table 15.8), the queue of R344, the error history and the session. -/
structure Can where
  straps      : BitVec 7              -- levels of the NODE_ID balls
  nodeId      : BitVec 7              -- the node-ID in force, 0 none (R338)
  nbr         : BitVec 4              -- CAN_CFG values in force since the last reset communication (R339)
  dbr         : BitVec 4
  autoRecover : Bool
  clients     : BitVec 32
  nmt         : NmtState
  bus         : BusState
  tec         : Nat
  recv        : Nat
  dup         : Bool
  lastDstat   : Nat
  busOffs     : Nat
  rpdoRefused : Nat
  usdoAborts  : Nat
  emcyLost    : Nat
  emcyQueue   : List Emcy             -- at most 8, oldest first
  busOffEmcy  : Option Emcy           -- 0x8140 is owed and goes before the queue
  lastEmcy    : Option Time
  beat        : Time                  -- the last heartbeat, or the boot-up message (R336)
  history     : List (BitVec 32)      -- 0x1003, newest first, at most 8
  session     : Option Usdo
  tpdos       : Vector Tpdo 4
  frames      : List CanFrame         -- frames sent and not yet carried by the bus, oldest first
  deriving DecidableEq, Repr

/-! ## SPI ports (chapter 16) -/

/-- The snapshot latch of the SPS (R48): index, subindex and the words of the value. -/
structure SnapLatch where
  index : Nat
  sub   : Nat
  words : List (BitVec 32)
  deriving DecidableEq, Repr

/-- The SPS: SPS_STATUS (Table 16.7), the sources of the status byte (Table 16.3), the latch and the two mailboxes. -/
structure Sps where
  latch     : Option SnapLatch
  dstat     : Nat                     -- DSTAT of the previous good frame
  frameBad  : Bool                    -- a bad frame has not been reported yet
  framesBad : Nat
  crcErrs   : Nat
  aliveErrs : Nat
  lastAlive : BitVec 4
  anyAlive  : Bool                    -- any ALIVE is accepted next
  toCsv     : List (BitVec 32)        -- SPS-to-CSV mailbox, at most 128, oldest first
  fromCsv   : List (BitVec 32)        -- CSV-to-SPS mailbox
  out       : List (BitVec 8)         -- bytes the device drove in the last frame, in wire order
  deriving DecidableEq, Repr

/-- What a queued XIP transfer loads (R359). -/
inductive XipTarget where
  | segment (s : Fin 64) (k : Fin 8)
  | mse (s : Fin 64)
  | dsp (s : Fin 64)
  deriving DecidableEq, Repr

/-- A queued XIP transfer: target, window offset, bytes, its apply cycle. `base` is the target's first word. -/
structure XipJob where
  target : XipTarget
  offset : Nat
  bytes  : Nat
  base   : Nat
  t      : Time
  deriving DecidableEq, Repr

/-- The SPM: the queue of R359 without the transfer being served, and XIP_WINDOW.SOURCE_ERRS and RESTARTS (Table 16.8). -/
structure Spm where
  queue      : List XipJob            -- in serving order
  current    : Option XipJob
  sourceErrs : Nat
  restarts   : Nat
  deriving DecidableEq, Repr

/-! ## Thermal management and power (chapter 17) -/

/-- One temperature sensor: its used reading (none until its first), the raw code, and the counters of R365 and R366. -/
structure Sensor where
  used    : Option (BitVec 12)
  code    : BitVec 12
  suspect : Bool               -- flagged suspect; for SS and RQ, failed
  strikes : Nat                -- consecutive readings beyond the limit
  goodRun : Nat                -- consecutive readings without the condition
  same    : Nat                -- SS: consecutive readings with an unchanged code
  stuckMed : Int               -- SS: median of the cell sensors when the code last changed
  clrAsked : Bool              -- the host has written CLR since the flag was set
  deriving DecidableEq, Repr

/-- The thermal state of one site: TH_STEP (Table 17.10), SS_FAIL, the hot class and the shutdown latch. -/
structure SiteThermal where
  sensors    : Vector Sensor 5       -- SB0, SB1, SQ0, SQ1, SS
  ssFail     : Nat                   -- 0 none, 1 OUT_OF_RANGE, 2 STUCK, 3 CHECK
  hot        : Bool                  -- hot class
  calm       : Option Time           -- both units at or below EXIT_LEVEL since (R364)
  warn       : Bool                  -- the WARNING zone is set
  thr        : Bool                  -- the THROTTLE zone is set
  step       : Nat
  budgetStep : Nat
  downFrom   : Option Time           -- t0 of the down sequence
  upFrom     : Option Time           -- t1 of the up timer
  stepMark   : Option (Time × Nat)   -- the last THROTTLE mark, and the step before the CK_SEQ cycle it lies in (Table 17.7)
  hotAt      : Option Time           -- the last reading at or above SHUT_SET
  acked      : Bool
  latched    : Bool
  shut       : BitVec 256            -- the shutdown record of the shutdown in force, PEAK kept up (Table 17.4)
  deriving DecidableEq, Repr

/-- The thermal state of one region: RQ, its peak, the L3 latch of R373 and RG_HK (Table 17.13). -/
structure RegionThermal where
  rq          : Sensor
  peak        : BitVec 12
  shut        : Bool                 -- the region is held in its L3 thermal state
  record      : BitVec 256           -- its shutdown record, PEAK kept up
  held        : Bool                 -- after a reset from that state its sites stay OFF until RQ is cool (R373)
  granting    : Nat                  -- site conversions granted in the present round
  rounds      : BitVec 32
  hkUsed      : Nat
  siteGranted : Nat
  deriving DecidableEq, Repr

/-- Thermal management: sites, regions, the power estimates of R377–R380 (0.1 W, mW) and the shutdown records. -/
structure Thermal where
  sites    : Vector SiteThermal 64
  regions  : Vector RegionThermal 4
  chipShut : Bool                    -- the chip is held in its L4 thermal state
  pChip    : Nat                     -- 0.1 mW
  pBase    : Nat                     -- 0.1 mW
  overBudget : Bool
  lowSince : Option Time             -- P_CHIP at or below 0.9 × BUDGET since
  pAt      : Time                    -- the last update of P_CHIP (R377)
  deriving DecidableEq, Repr

/-! ## Calibration (chapter 19) -/

/-- CAL_STATUS of one site (Table 19.8) and its procedure in progress. -/
structure SiteCal where
  pending  : BitVec 4
  since    : Vector Time 4            -- when each procedure became pending
  stale    : Bool
  running  : Nat                      -- 0 none, 1 BU0, 2 BU1, 3 PIN_DC, 4 PIN_TIMING, 5 sweep
  failed   : BitVec 4
  cause    : Nat
  tRef     : BitVec 12
  tRefSet  : Bool                     -- T_REF holds a reading
  drifted  : Bool                     -- the last reading differed from T_REF by more than CAL_TEMP_DELTA
  again    : Bool                     -- the temperature asks for the running procedure once more (Table 19.5)
  tLast    : BitVec 32
  firstDone : Bool                    -- READY has been entered since the site left OFF
  swept    : Bool                     -- the site takes part in the sweep
  sweepDone : Bool                    -- its procedure of the phase has ended
  proc     : Nat                      -- the procedure whose steps run (under a sweep too): 0 none, 1–4
  step     : Nat                      -- index of the step in progress
  stepFrom : Time                     -- when the step in progress, or its second run, began
  second   : Bool                     -- REPEAT: the second run of the step
  repeat_  : Bool                     -- the procedure runs under REPEAT
  firstRun : List Int                 -- codes of the first run of the step
  pinsOut  : Bool                     -- a pin procedure of this stay in CAL has taken the cells off their balls
  found    : List (Nat × Nat × Int)   -- codes found: subindex place (unit, or cell), field, code
  reserved : Nat                      -- Assize entries reserved
  unproven : BitVec 2                 -- units whose factory trims were unreadable and whose BU procedure has not passed (Table 22.4)
  hist     : List (Time × BitVec 2)   -- CAL_STALE tags of the units that ended in the last 10 µs, newest first, and when (R186)
  deriving DecidableEq, Repr

/-- The sweep (R413, Table 19.8): phase 0 idle, 1–4. -/
structure Sweep where
  phase    : Nat
  units    : Nat                      -- in phase 2: 0 BU0, 1 BU1; in phases 3, 4: the turn
  counter  : BitVec 64                -- counter of the opening entry
  reserved : Nat
  deriving DecidableEq, Repr

/-- The calibration scheduler. -/
structure Cal where
  sites : Vector SiteCal 64
  sweep : Sweep
  deriving DecidableEq, Repr

/-! ## Mitten (chapter 20) -/

/-- A filter's run-time state: y in 1/256, the samples held by MEDIAN5, OUT and its flags. -/
structure MitFilter where
  y       : Int
  hist    : List Int                 -- last five samples, newest first
  out     : BitVec 16
  stale   : Bool
  valid   : Bool
  deriving DecidableEq, Repr

/-- MIT_RULE.STATE. -/
inductive RuleState where
  | isFalse | isTrue | unknown | off
  deriving DecidableEq, Repr

/-- A rule's run-time state (Table 20.8). -/
structure MitRule where
  state : RuleState
  first : Bool                       -- the next evaluation counts as a first one
  count : Nat
  fired : Bool                       -- it has fired and has not been FALSE since
  fires : BitVec 32
  deriving DecidableEq, Repr

/-- The wake in progress (R426): stage 1 has been applied at `t0` and FULL with LOCKED is awaited. -/
inductive WakeState where
  | idle
  | lock (t0 : Time)
  deriving DecidableEq, Repr

/-- Mitten: MIT_CTRL.STATUS (Table 20.5), TICKS, filters and rules. -/
structure Mitten where
  wakeOut  : Bool
  outAt    : Option Time             -- the tick that last fired WAKE_OUT (Table 20.4)
  woke     : Bool
  wake     : WakeState
  pending  : Bool                    -- a WAKE held while the core is in reset
  result   : Nat                     -- WAKE_RESULT DSTAT
  stage    : Bool                    -- its stage: false mode, true overlay
  stale    : BitVec 35               -- STALE by SRC
  lost     : Nat
  ticks    : BitVec 64
  filters  : Vector MitFilter 8
  rules    : Vector MitRule 16
  deriving DecidableEq, Repr

/-! ## The whole machine -/

/-- A site (R1): its state machine, engines, cells, units, time-stamp unit and streams. -/
structure Site where
  ctl     : SiteCtl
  cells   : Vector PinCell 8
  psq     : Psq
  bridges : Vector Bridge 2
  mse     : Mse
  dsp     : Dsp
  tdc     : Tdc
  stream  : SiteStream
  test    : SiteTest
  deriving DecidableEq, Repr

/-- A region: pattern memory (0 where unlisted), its arbitrated resources (R25), match units, spare DSP (R455). -/
structure Region where
  patMem     : List (Nat × BitVec 64)
  memArb     : Wrr                  -- grants of the pattern memory (R25), made up to `memT`
  memT       : Time
  adcArb     : Wrr
  units      : Vector MatchUnit 4
  slotsNew   : List (Nat × Time)    -- matcher slots with a new SEL or ADJ, and the commit cycle (R267)
  spare      : Dsp
  spareTest  : Bool                 -- the spare is under test
  spareFail  : Bool
  deriving DecidableEq, Repr

/-- What the block does when it meets something the specification gives no effect at all.
No meaning of this model raises a fault: every event of the specification has an effect, a reported refusal included. -/
inductive Fault where
  /-- Raised by nothing: kept so that a fault has a type. Safe. -/
  | unused
  deriving DecidableEq, Repr

/-- Why the block has no meaning for a command. -/
inductive Refusal where
  /-- A command that this model gives no meaning yet; raised by the arms of `exec` alone. Safe. -/
  | notModelled (mnemonic : String)
  deriving DecidableEq, Repr

/-- The OPX-5164. -/
structure State where
  clock     : Time                    -- the time base of R81 with its epoch (R82)
  dict      : List (Nat × Nat)        -- applied values by address (index × 256 + subindex) that differ from `initial`
  access    : AccessUnit
  sites     : Vector Site 64
  regions   : Vector Region 4
  pll       : Pll
  ckos      : Vector Cko 4
  sync      : SyncCtl
  special   : SpecialTdc
  balls     : Vector MarkBall 16      -- MARK0–MARK15
  chipTrig  : ChipTrig
  commit    : CommitUnit
  gauntlet  : Gauntlet
  assize    : Assize
  nvm       : Nvm
  thermal   : Thermal
  cal       : Cal
  mitten    : Mitten
  can       : Can
  sps       : Sps
  spm       : Spm
  furlong   : Furlong
  csv       : Csv
  rst       : ResetCtl
  tap       : Tap
  answer    : Option Answer           -- the answer of the latest dictionary access (R54)
  freeCount : Nat                     -- the model's own: free values drawn so far
  pending   : List Instr              -- commands waiting, first in, first out
  deriving DecidableEq, Repr

/-! ## The machine right after reset

The values are those of the "After reset" columns (R13): the machine when the dictionary first becomes available in
PRE-OPERATIONAL with the factory base configuration. DESIGN CHOICE: that instant is time 0 of the time base. -/

/-- An empty round. -/
def Wrr.reset : Wrr := { pos := 0, used := 0 }

/-- No requester waits. -/
def Starve.reset : Starve := { counts := Vector.replicate 11 0 }

/-- A site powered up at start-up: PARKED (START_STATE 1), Table 1.12. -/
def SiteCtl.reset : SiteCtl :=
  { state := .parked, prev := .off, cause := .reset, reqResult := .none, tLast := 0, trans := none,
    safeFrom := .parked, calFrom := .ready, forces := [], hist := [] }

/-- A pin cell after reset: Z, level codes 12,000, PPMU disconnected, flags clear. -/
def PinCell.reset : PinCell :=
  { base := .z, recent := [], pattern := .z, undriven := 0,
    vih := .still 12000, vil := .still 12000, vtt := .still 12000, force := .still 12000,
    connected := false, held := none, cmpHi := false, cmpLo := false, capHi := false, capLo := false,
    cmpLeft := none, flags := 0, caused := (0, 0), limited := false, meas := none, result := 0, samples := 0, err := 0, qty := false,
    resLimited := false, collision := false, collCount := 0, collAt := none, collClear := none, cmpHist := [], stampWin := [] }

/-- A loop counter after reset: DESIGN CHOICE 0, not armed. -/
def LoopCounter.reset : LoopCounter := { value := 0, armed := none }

/-- A segment after reset: INACTIVE, nothing filled, memory 0. -/
def Segment.reset : Segment :=
  { filled := false, filling := false, fill := none, src := 3, fillErr := 0, entries := 0, mem := [] }

/-- The PSQ after reset: IDLE. -/
def Psq.reset : Psq :=
  { state := .idle, stopCause := .none, pc := 0, prev := 0, zero := 0, stack := [],
    ctrs := Vector.replicate 4 LoopCounter.reset, cellFail := 0, fail := false, matchTo := false, underrun := false,
    waitTo := false, pipe := [], lastCode := Vector.replicate 8 none, vectors := 0, reps := 0, passes := [],
    wait := none, waitFrom := 0, goto := none, stopAt := none, stopped := none, resume := none,
    used := [], ext := [], gotoResult := 0, lines := 0,
    lineHist := [], trigPulses := [], segs := Vector.replicate 8 Segment.reset, tsetOld := [] }

/-- A bridge unit after reset: switches open, working code 0, acquisition stopped. -/
def Bridge.reset : Bridge :=
  { connected := false, closing := false, opening := none, offset := .still 0, ampl := .still 0, wave := 0,
    waves := [], gain := false, range := none, limit := false, localSense := false, flags := 0, caused := (0, 0),
    cleared := (0, 0), hist := [],
    pEst := 0, iOut := 0, table := [], acq := .stopped, tStart := 0, t0 := 0, outputs := 0, stopAfter := false,
    stopCycle := none, acqHeld := false,
    cfgChange := false, seq := 0, pubs := 0, ratio := 0, sig := 0, ref := 0, quad := 0, meta_ := 0 }

/-- No trim has been written since reset. -/
def TrimRecord.reset : TrimRecord := { value := 0, cells := 0, status := 0, counter := 0 }

/-- The MSE after reset: IDLE, memories 0. -/
def Mse.reset : Mse :=
  { state := .idle, waiting := none, window := false, result := .none, g := Vector.replicate 8 0,
    z := false, n := false, c := false, v := false, rj := false, tmo := false, inw := false,
    stack := [], scratch := [], staging := [], flag := false, upc := 0, params := Vector.replicate 4 0, slot := 0,
    runId := 0, restarts := 0, abortLate := false, ret := 0, faultUpc := 0, cause := 0, deferred := none, deferFrom := 0,
        dueAt := 0, began := 0,
    pendCause := 0, acqUnits := 0, tLatch := 0, latch := none, store := [], crc := 0, landed := none, loadErr := 0,
    trims := Vector.replicate 2 TrimRecord.reset, toDsp := [], fromDsp := [] }

/-- An address generator after reset. -/
def Ag.reset : Ag := { p := 0, m := 0, b := 0, l := 0, pend := none }

/-- A loop register after reset. -/
def LoopReg.reset : LoopReg := { count := 0, first := 0, last := 0, rot := 0, on := false }

/-- A register bank after reset. -/
def DspBank.reset : DspBank :=
  { x := Vector.replicate 16 0, ag := Vector.replicate 4 Ag.reset, ring := 0, lc := Vector.replicate 2 LoopReg.reset }

/-- A DSP after reset: STOPPED, registers and memories 0 (R216). -/
def Dsp.reset : Dsp :=
  { state := .stopped, stopCause := .none, bank := DspBank.reset, other := DspBank.reset, inHandler := false,
    ring := Vector.replicate 48 0, acc := Vector.replicate 4 0, accHist := [], aflags := 0, pmem := [], dmem := [],
    stores := [], flight := [], count := 0, due := 0, pc := 0, slots := 0, branch := none, flags := [], ien := 0, latched := 0,
    oneFirst := false, tper := 0, thresh := 1, epc := 0, d2h := 0, timeHi := 0, waitMask := none, inq := [],
    inLostU := Vector.replicate 2 false, inLost := 0, outq := [], outHeld := [], outDrops := 0, sticky := 0,
    staging := Vector.replicate 2 (Vector.replicate 10 0), pubs := Vector.replicate 2 none, h2dUnread := false, faultPc := 0, bundles := 0,
    crc := 0, tableCrc := 0, crcFrom := none, tableFrom := none, loadErr := 0, stopAsked := false }

/-- A converter with nominal tables. -/
def Converter.reset : Converter := { table := none, staged := none }

/-- The stamp side of a cell after reset. -/
def CellTdc.reset : CellTdc :=
  { capHi := none, capLo := none, queue := [], loss := 0, ovfNext := false, drops := 0, misses := 0,
    conv := Converter.reset, resolved := none }

/-- An interval channel after reset. -/
def Interval.reset : Interval :=
  { state := .idle, lastEnd := none, after := none, miss := none, record := 0 }

/-- A frequency channel after reset. -/
def FreqChan.reset : FreqChan :=
  { armed := false, gate := none, count := 0, armedAt := 0, loss := false, lossEnd := false, steps := 0, stepN := 0, seq := 0,
      tWord := 0, nWord := 0 }

/-- The time-stamp unit of a site after reset. -/
def Tdc.reset : Tdc :=
  { cells := Vector.replicate 8 CellTdc.reset, seen := [], missed := [], ints := Vector.replicate 4 Interval.reset,
    freqs := Vector.replicate 2 FreqChan.reset, run := .idle, applied := 0, failed := 0, cause := 0, tLast := 0,
    reserved := 0 }

/-- A Bushel after reset. -/
def Bushel.reset : Bushel :=
  { state := .disarmed, pre := 0, out := false, armedAt := 0, hist := [], tTrig := 0, stepBy := 0, src := 0, step := false,
    preValid := 0, missed := 0, missedH0 := 0, captures := 0, image := [] }

/-- A match unit after reset. -/
def MatchUnit.reset : MatchUnit := { fires := 0, suppressed := 0, holdoff := none, rises := 0, tLast := 0, matched := false,
                                     matchedAt := 0 }

/-- The streams of a site after reset. -/
def SiteStream.reset : SiteStream :=
  { fifo := [], flushed := 0, marks := [], lossPending := 0, markLost := 0, resultsLost := 0,
    discards := Vector.replicate 7 0, tseq := Vector.replicate 7 0, starve := Starve.reset,
    measStarve := Vector.replicate 8 0, rtrig := false, rtrigAt := none, overrun := 0, bushel := Bushel.reset, markBits := 0,
    resBlock := 0, resFails := 0, resLoss := false }

/-- A site that has run no in-service test. -/
def SiteTest.reset : SiteTest :=
  { state := 0, left := [], ran := 0, failed := 0, memFail := 0, loopFail := 0, bridgeFail := 0 }

/-- A site after reset. -/
def Site.reset : Site :=
  { ctl := SiteCtl.reset, cells := Vector.replicate 8 PinCell.reset, psq := Psq.reset,
    bridges := Vector.replicate 2 Bridge.reset, mse := Mse.reset, dsp := Dsp.reset, tdc := Tdc.reset,
    stream := SiteStream.reset, test := SiteTest.reset }

/-- A region after reset. -/
def Region.reset : Region :=
  { patMem := [], memArb := Wrr.reset, memT := 0, adcArb := Wrr.reset,
    units := Vector.replicate 4 MatchUnit.reset, slotsNew := [], spare := Dsp.reset, spareTest := false, spareFail := false }

/-- The main PLL when the dictionary becomes available: LOCKED in FULL, FLAGS 0x0D (Table 3.4). -/
def Pll.reset : Pll :=
  { state := .locked, economy := false, linkLocked := true, refPresent := true, jUnknown := false, phaseErr := 0,
    absorbFrom := none, jLast := 0, slewRemain := 0, slewFrom := 0, lastStep := 0, holdovers := 0, lostInAcquire := false,
    jLost := false, phaseAtReturn := none, slewBegun := false, stepped := false, skipEdge := false }

/-- A clock output after reset: stopped. -/
def Cko.reset : Cko :=
  { running := false, from_ := 0, heldRelock := false, econStopped := false, cur := { div := 64, delay := 0, rise := 0 }, next := none }

/-- SYNC status after reset. -/
def SyncCtl.reset : SyncCtl := { last := 0, count := 0, anchor := none }

/-- The special-source converters after reset. -/
def SpecialTdc.reset : SpecialTdc :=
  { convs := Vector.replicate 5 Converter.reset, caps := Vector.replicate 5 none, start := none, closed := false, reserved := 0,
    site := 0, levels := 0, changes := [] }

/-- A MARK ball after reset. -/
def MarkBall.reset : MarkBall := { spans := [] }

/-- Chip triggers after reset. -/
def ChipTrig.reset : ChipTrig := { outs := Vector.replicate 4 [], bus := [], slots := [], chain := [], sent := 0, acted := 0, late := 0 }

/-- A group that has never been used since reset. -/
def Group.reset : Group :=
  { state := .free, owner := none, entries := [], overlays := [], failDstat := 0, failPhase := .none, failAddr := 0,
    abortLate := false, lateApplied := false, stepped := false, overridden := false, outcomes := 0, votesYes := 0,
    votesNo := 0, t := 0, tEpoch := 0, due := none, appliedAt := 0, appliedWas := 0,
    applyCycle := none, prepFrom := 0, heard := 0, deps := [], reserved := 0, abortWaits := none,
    deadline := none, remote := false }

/-- The Commit Unit after reset, with no user image and no overlay stored (DESIGN CHOICE: RNVM as shipped). -/
def CommitUnit.reset : CommitUnit :=
  { groups := Vector.replicate 15 Group.reset, generation := 0, last := 0, store := Vector.replicate 17 [],
    saving := none, saveResult := 0, userBase := none, userCrc := 0, baseInForce := [] }

/-- A recovery count after reset. -/
def RecoveryCount.reset : RecoveryCount := { count := 0, latched := false }

/-- Gauntlet after reset: no record. -/
def Gauntlet.reset : Gauntlet :=
  { slots := Vector.replicate 63 none, overflow := none, rseq := 1, recovery := Vector.replicate 69 RecoveryCount.reset,
    loud := Vector.replicate 69 none, cleared := none, nvDrops := 0 }

/-- The Assize log. DESIGN CHOICE: RNVM holds no entry yet. -/
def Assize.reset : Assize :=
  { era := 0, n := 0, entries := [], queued := 0, signing := false, held := [], exported := 0, lost := 0, marks := [],
    dead := false, nearIn := false, fullIn := false }

/-- Reset control after a power-on start-up. -/
def ResetCtl.reset : ResetCtl :=
  { phase := .available, cause := 0, resets := 0, watchdogs := 0, runNext := false, selftest := 0, pwrOk := true,
    resetN := true, testEn := false, refQualified := true, thermalHold := false, configSource := 0,
    outputsHeld := false, railsAbsent := false, supplyFault := none }

/-- RNVM as shipped: readable, no user image, no overlay. -/
def Nvm.reset : Nvm :=
  { readable := true, baseValid := true, overlaysValid := true, safeValid := true, trimsValid := true,
    assizeValid := true, writes := 0, corrected := 0, uncorrectable := 0, safe := Vector.replicate 128 0,
    safeDone := Vector.replicate 128 false, eventLog := [], jobs := [], pos := 0 }

/-- The TAP after reset: IDCODE selected (R456). -/
def Tap.reset : Tap := { instr := .idcode, selected := .idcode, cells := [], captured := [], drive := .released }

/-- A sensor that has given no reading. -/
def Sensor.reset : Sensor :=
  { used := none, code := 0, suspect := false, strikes := 0, goodRun := 0, same := 0, stuckMed := 0, clrAsked := false }

/-- The thermal state of a site after reset. -/
def SiteThermal.reset : SiteThermal :=
  { sensors := Vector.replicate 5 Sensor.reset, ssFail := 0, hot := false, calm := none, warn := false, thr := false,
    step := 0, budgetStep := 0, downFrom := none, upFrom := none, stepMark := none, hotAt := none, acked := false,
        latched := false, shut := 0 }

/-- The thermal state of a region after reset. -/
def RegionThermal.reset : RegionThermal :=
  { rq := Sensor.reset, peak := 0, shut := false, record := 0, held := false, granting := 0, rounds := 0, hkUsed := 0,
    siteGranted := 0 }

/-- Thermal management after reset. -/
def Thermal.reset : Thermal :=
  { sites := Vector.replicate 64 SiteThermal.reset, regions := Vector.replicate 4 RegionThermal.reset,
    chipShut := false, pChip := 0, pBase := 0, overBudget := false, lowSince := none, pAt := 0 }

/-- Calibration of a site after reset. -/
def SiteCal.reset : SiteCal :=
  { pending := 0, since := Vector.replicate 4 0, stale := false, running := 0, failed := 0, cause := 0, tRef := 0,
    tRefSet := false, drifted := false, again := false, tLast := 0, firstDone := false, swept := false, sweepDone := false,
        proc := 0, step := 0, stepFrom := 0,
    second := false, repeat_ := false, firstRun := [], pinsOut := false, found := [], reserved := 0, unproven := 0, hist := [] }

/-- The scheduler after reset. -/
def Cal.reset : Cal :=
  { sites := Vector.replicate 64 SiteCal.reset, sweep := { phase := 0, units := 0, counter := 0, reserved := 0 } }

/-- A filter after reset. -/
def MitFilter.reset : MitFilter := { y := 0, hist := [], out := 0, stale := false, valid := false }

/-- A rule after reset: OFF. -/
def MitRule.reset : MitRule := { state := .off, first := true, count := 0, fired := false, fires := 0 }

/-- Mitten after reset. -/
def Mitten.reset : Mitten :=
  { wakeOut := false, outAt := none, woke := false, wake := .idle, pending := false, result := 0, stage := false, stale := 0, lost := 0,
    ticks := 0, filters := Vector.replicate 8 MitFilter.reset, rules := Vector.replicate 16 MitRule.reset }

/-- The CAN FD port after reset. DESIGN CHOICE: the node straps read 0, so the node has no node-ID (R338). -/
def Can.reset : Can :=
  { straps := 0, nodeId := 0, nbr := 2, dbr := 2, autoRecover := true, clients := 0, nmt := .preOperational, bus := .errorActive,
      tec := 0, recv := 0,
    dup := false, lastDstat := 0, busOffs := 0, rpdoRefused := 0, usdoAborts := 0, emcyLost := 0, emcyQueue := [],
    busOffEmcy := none, lastEmcy := none, beat := 0, history := [], session := none,
    tpdos := Vector.replicate 4 { lastBytes := none, lastSent := none }, frames := [] }

/-- The SPS after reset. -/
def Sps.reset : Sps :=
  { latch := none, dstat := 0, frameBad := false, framesBad := 0, crcErrs := 0, aliveErrs := 0, lastAlive := 0,
    anyAlive := true, toCsv := [], fromCsv := [], out := [] }

/-- The SPM after reset. -/
def Spm.reset : Spm := { queue := [], current := none, sourceErrs := 0, restarts := 0 }

/-- A Furlong port after reset: DOWN (Table 14.8); DESIGN CHOICE: the neighbour's buffers are empty. -/
def Port.reset : Port :=
  { state := .down, width := 0, linkLat := 0, replays := 0, crcErrs := 0, dropped := 0, linkDowns := 0, ctlErrs := 0,
    locked := Vector.replicate 4 false, aligned := Vector.replicate 4 false, samples := [], since := 0, txSeq := 0, rxSeq := 0,
    replay := [], replayRow := 0, replaySeq := 0, waitReplay := false, credits := #v[512, 1024, 4096],
    rxUnacked := 0, ackOwed := false, txWait := [], broken := false, own := 0, trigPos := 0, out := [] }

/-- Furlong after reset: unenumerated. -/
def Furlong.reset : Furlong :=
  { ports := Vector.replicate 2 Port.reset, topo := .unenumerated, reachLo := 0, reachHi := 0,
    through := 0, hostPort := 0, enumPort := 0, addr := 0, pathLat := 0, chainLen := 0, lostLo := false, lostHi := false,
        inbox := [], bypassed := false, hops := [],
    transfers := [], seqs := [], sseqs := [], sseqOut := 0, egress := Vector.replicate 4 Wrr.reset, egressPos := 0 }

/-- The CSV after reset. -/
def Csv.reset : Csv :=
  { servicing := true, qcStopped := Vector.replicate 4 false, waiting := none, rawServed := 0, rawGeneral := 0 }

/-- The machine right after reset. -/
def State.reset : State :=
  { clock := 0, dict := [], access := { cycle := none, wrote := [] }, sites := Vector.replicate 64 Site.reset,
      regions := Vector.replicate 4 Region.reset,
    pll := Pll.reset, ckos := Vector.replicate 4 Cko.reset, sync := SyncCtl.reset, special := SpecialTdc.reset,
    balls := Vector.replicate 16 MarkBall.reset, chipTrig := ChipTrig.reset, commit := CommitUnit.reset,
    gauntlet := Gauntlet.reset, assize := Assize.reset, nvm := Nvm.reset, thermal := Thermal.reset, cal := Cal.reset,
    mitten := Mitten.reset, can := Can.reset, sps := Sps.reset, spm := Spm.reset, furlong := Furlong.reset,
    csv := Csv.reset, rst := ResetCtl.reset, tap := Tap.reset, answer := none, freeCount := 0, pending := [] }

end Sys2Proof.Machine
end

