-- ==== Sys2Proof/Machine/Operands.lean ====
section
/-! DEFINITION. Operand forms: the fields of a pattern vector (Table 6.1), its pin codes (Table 6.2) and its legality (R125);
of a microword (Table 9.2) and its legality (R194); of a DSP bundle (Table 10.2) and its legality (R222). -/
namespace Sys2Proof.Machine

/-! ## Vectors -/

/-- The pin code of a cell. -/
def vPin (v : BitVec 64) (c : Fin 8) : Nat := field v.toNat (4 * c.val + 3) (4 * c.val)
/-- The timing set. -/
def vTset (v : BitVec 64) : Nat := field v.toNat 35 32
/-- The marker bits. -/
def vMark (v : BitVec 64) : BitVec 4 := BitVec.ofNat 4 (field v.toNat 39 36)
/-- The opcode. -/
def vOp (v : BitVec 64) : Nat := field v.toNat 45 40
/-- The condition. -/
def vCond (v : BitVec 64) : Nat := field v.toNat 48 46
/-- The argument. -/
def vArg (v : BitVec 64) : Nat := field v.toNat 63 49
/-- The argument as a target: segment in [14:12], offset in [11:0]. -/
def vTarget (v : BitVec 64) : BitVec 15 := BitVec.ofNat 15 (vArg v)
/-- The counter of LOOP_BEGIN and LOOP_END. -/
def vCtr (v : BitVec 64) : Fin 4 := Fin.ofNat 4 (field (vArg v) 14 13)

/-- A legal vector (R125): no pin code 0xF, no reserved opcode, no reserved condition where the opcode uses it, no reserved
MATCH count. -/
def vLegal (v : BitVec 64) : Bool :=
  ((List.finRange 8).all fun c => vPin v c != 0xF) && decide (vOp v ≤ 0x0C) &&
    !((vOp v == 2 || vOp v == 7) && vCond v == 7) && !(vOp v == 8 && decide (1 ≤ vArg v) && decide (vArg v ≤ 4))

/-- The driver transitions that a code asks for, with the edges of Table 6.2 in units of 4 grains. -/
def codeDrives (code d0 d1 d2 : Nat) : List (Nat × DrvState) :=
  match code with
  | 0x0 => [(d1, .vil)]
  | 0x1 => [(d1, .vih)]
  | 0x2 => [(d2, .z)]
  | 0x3 => [(d0, .vtt)]
  | 0x4 => [(d1, .vih), (d2, .vil)]
  | 0x5 => [(d1, .vil), (d2, .vih)]
  | 0x6 => [(d0, .vtt), (d1, .vih), (d2, .z)]
  | _ => []

/-- CL, CH, CM or CV. -/
def codeCompares (code : Nat) : Bool := decide (7 ≤ code) && decide (code ≤ 10)

/-- A compare code fails when the expected window state is absent at some instant of the strobe (R111): the three flags tell
which window states were present. -/
def codeFails (code : Nat) (below inside above : Bool) : Bool :=
  match code with
  | 7 => inside || above
  | 8 => below || inside
  | 9 => below || above
  | 10 => inside
  | _ => false

/-- The window states that were present at the pads of a site's cells within a vector's strobes, bit c for cell Cc. -/
structure Strobe where
  below  : BitVec 8
  inside : BitVec 8
  above  : BitVec 8
  deriving DecidableEq, Repr

/-! ## Microwords -/

/-- The opcode of a microword. -/
def uOp (w : BitVec 24) : Nat := field w.toNat 23 19
/-- rd, or ra of format S. -/
def uRd (w : BitVec 24) : Fin 8 := Fin.ofNat 8 (field w.toNat 18 16)
/-- ra of format R. -/
def uRa (w : BitVec 24) : Fin 8 := Fin.ofNat 8 (field w.toNat 15 13)
/-- rb of format R. -/
def uRb (w : BitVec 24) : Fin 8 := Fin.ofNat 8 (field w.toNat 12 10)
/-- fn of format R. -/
def uFn (w : BitVec 24) : Nat := field w.toNat 9 6
/-- imm16 of format I. -/
def uImm (w : BitVec 24) : BitVec 16 := BitVec.ofNat 16 w.toNat
/-- cond of format B, event of format W. -/
def uCond (w : BitVec 24) : Nat := field w.toNat 18 15
/-- target of formats B and D. -/
def uTarget (w : BitVec 24) : BitVec 14 := BitVec.ofNat 14 w.toNat
/-- sel of format S. -/
def uSel (w : BitVec 24) : Nat := field w.toNat 15 12
/-- index of format S. -/
def uIndex (w : BitVec 24) : Nat := field w.toNat 11 8
/-- index of format W. -/
def uEvIndex (w : BitVec 24) : Nat := field w.toNat 14 12
/-- rt of format W. -/
def uRt (w : BitVec 24) : Fin 8 := Fin.ofNat 8 (field w.toNat 11 9)
/-- offset of LD and ST. -/
def uOffset (w : BitVec 24) : Nat := field w.toNat 9 0

/-- No selector, function, event or condition field holds a reserved value (R194). -/
def uLegal (w : BitVec 24) : Bool :=
  match uOp w with
  | 0x04 => decide (uFn w ≤ 11)
  | 0x07 => uCond w != 15
  | 0x08 => uCond w != 15
  | 0x0C => decide (uCond w ≤ 9)
  | 0x0D => decide (uSel w ≤ 5)
  | 0x0E => decide (uSel w ≤ 6)
  | 0x0F => decide (uSel w ≤ 1)
  | 0x10 => decide (uSel w ≤ 7)
  | 0x13 => decide (uSel w ≤ 7)
  | _ => true

/-! ## Bundles -/

/-- LIMM. -/
def bLimm (b : BitVec 64) : Bool := b.getLsbD 63
/-- The 20 bits of a slot. -/
def bSlot (b : BitVec 64) (slot : Nat) : Nat :=
  match slot with
  | 0 => field b.toNat 59 40
  | 1 => field b.toNat 39 20
  | _ => field b.toNat 19 0

/-- Fields of a slot: the opcode; rd; ra of format A; a, ra and rb of format M; b; a, sh and RND of format E; imm9. -/
def kOp (w : Nat) : Nat := field w 19 15
def kRd (w : Nat) : Nat := field w 14 9
def kRa (w : Nat) : Nat := field w 8 3
def kAcc (w : Nat) : Fin 4 := Fin.ofNat 4 (field w 14 13)
def kMa (w : Nat) : Nat := field w 12 7
def kMb (w : Nat) : Nat := field w 6 1
def kAccB (w : Nat) : Fin 4 := Fin.ofNat 4 (field w 2 1)
def kEacc (w : Nat) : Fin 4 := Fin.ofNat 4 (field w 8 7)
def kSh (w : Nat) : Nat := field w 6 1
def kRnd (w : Nat) : Bool := bitOf w 0
def kImm9 (w : Nat) : Int := toInt (field w 8 0) 9
/-- ag and PM of format L; agB and PM of format L2; the field of format G. -/
def kAg (w : Nat) : Fin 4 := Fin.ofNat 4 (field w 8 7)
def kPm (w : Nat) : Bool := bitOf w 6
def kAgB (w : Nat) : Fin 4 := Fin.ofNat 4 (field w 6 5)
def kPm2 (w : Nat) : Bool := bitOf w 4
def kField (w : Nat) : Nat := field w 6 5
/-- target of format J; k, step, rs and end offset of format P; aux of format X. -/
def kTarget (w : Nat) : BitVec 12 := BitVec.ofNat 12 w
def kLoop (w : Nat) : Fin 2 := Fin.ofNat 2 (field w 14 14)
def kStep (w : Nat) : Nat := [0, 1, 2, 4].getD (field w 13 12) 0
def kLoopRs (w : Nat) : Nat := field w 11 6
def kEnd (w : Nat) : Nat := field w 5 0
def kAux (w : Nat) : Nat := field w 8 0

/-- The X registers that an arithmetic slot writes. -/
def arithWrites (w : Nat) : List Nat :=
  if kOp w = 0x0A ∨ kOp w = 0x0B ∨ 0x0D ≤ kOp w then [kRd w] else []

/-- The accumulator that an arithmetic slot writes. -/
def arithAcc (w : Nat) : Option (Fin 4) :=
  if 1 ≤ kOp w ∧ kOp w ≤ 9 then some (kAcc w) else if kOp w = 0x0C then some (kEacc w) else none

/-- The X registers that slot 2 writes. -/
def memWrites (w : Nat) : List Nat :=
  match kOp w with
  | 0x01 => [kRd w]
  | 0x03 => [kRd w, kRd w + 1]
  | 0x06 => [kRd w]
  | 0x07 => [kRd w]
  | 0x09 => [15]
  | 0x11 => [kRd w, kRd w + 1, kRd w + 2, kRd w + 3]
  | 0x12 => [kRd w, kRd w + 1]
  | 0x18 => [kRd w]
  | 0x1A => [kRd w, kRd w + 1]
  | 0x1C => (List.range 48).map (· + 16)
  | _ => []

/-- BR, CALL, RET, RTI, BRZ–BRGE, LOOP. -/
def branchClass (w : Nat) : Bool := decide (0x08 ≤ kOp w) && decide (kOp w ≤ 0x10)

/-- The operand values of an arithmetic slot that Table 10.4 reserves are absent. -/
def arithOk (w : Nat) : Bool :=
  if kOp w = 0x0B ∨ kOp w = 0x0C then decide (kSh w ≤ 2)
  else if kOp w = 0x1F then decide ((kImm9 w).natAbs ≤ 63)
  else true

/-- The operand values of slot 2 that R222 and Table 10.5 exclude are absent: odd pairs, IN at a register that is no multiple of
4, a LOOP of no length, RPUT words 10–15, reserved and read-only special registers. -/
def memOk (w : Nat) : Bool :=
  match kOp w with
  | 0x03 => kRd w % 2 == 0
  | 0x04 => kRd w % 2 == 0
  | 0x10 => kEnd w != 0
  | 0x11 => kRd w % 4 == 0
  | 0x12 => kRd w % 2 == 0
  | 0x14 => kRd w % 2 == 0
  | 0x15 => decide (field (kAux w) 7 4 ≤ 9)
  | 0x18 => decide (kAux w % 64 ≤ 15)
  | 0x19 => [5, 7, 8, 9, 10, 11, 13, 15].contains (kAux w % 64)
  | 0x1A => kRd w % 2 == 0
  | 0x1F => false
  | _ => true

/-- What R222 asks of a bundle by itself. -/
def bundleOk (b : BitVec 64) : Bool :=
  let s0 := bSlot b 0
  let s1 := bSlot b 1
  let s2 := bSlot b 2
  let xs := arithWrites s0 ++ (if bLimm b then [] else arithWrites s1) ++ memWrites s2
  let accs := (arithAcc s0).toList ++ (if bLimm b then [] else (arithAcc s1).toList)
  xs.Nodup && accs.Nodup && (!bLimm b || kOp s2 == 0x07) && arithOk s0 && (bLimm b || arithOk s1) && memOk s2

end Sys2Proof.Machine
end

