-- ==== Sys2Proof/Machine/MseRom.lean ====
section
/-! DEFINITION. The region ROM of the MSE (R213): the five routines of Table 9.11 as microwords, and the fetch of a microword
(R193). The pseudocode of R213 gives what each routine does; its microwords, and so its cycles, are the model's (DESIGN CHOICE,
log entry 901). -/
namespace Sys2Proof.Machine

/-! ## The formats of Table 9.2 -/

/-- Format I. -/
def wI (op rd imm : Nat) : BitVec 24 := BitVec.ofNat 24 (at_ op 19 + at_ rd 16 + imm)
/-- Format R. -/
def wR (op rd ra rb fn : Nat) : BitVec 24 := BitVec.ofNat 24 (at_ op 19 + at_ rd 16 + at_ ra 13 + at_ rb 10 + at_ fn 6)
/-- Formats B and D differ in the place of their first field. -/
def wB (op cond target : Nat) : BitVec 24 := BitVec.ofNat 24 (at_ op 19 + at_ cond 15 + target)
/-- Format S. -/
def wS (op ra sel index : Nat) : BitVec 24 := BitVec.ofNat 24 (at_ op 19 + at_ ra 16 + at_ sel 12 + at_ index 8)
/-- Format W. -/
def wW (event index rt : Nat) : BitVec 24 := BitVec.ofNat 24 (at_ 0x0C 19 + at_ event 15 + at_ index 12 + at_ rt 9)

/-! ## The operations that the routines use (Table 9.3) -/

def uLdi (rd imm : Nat) : BitVec 24 := wI 0x01 rd imm
def uLdh (rd imm : Nat) : BitVec 24 := wI 0x02 rd imm
def uAddi (rd imm : Nat) : BitVec 24 := wI 0x03 rd imm
def uAdd (rd ra rb : Nat) : BitVec 24 := wR 0x04 rd ra rb 0
def uAnd (rd ra rb : Nat) : BitVec 24 := wR 0x04 rd ra rb 2
def uOr (rd ra rb : Nat) : BitVec 24 := wR 0x04 rd ra rb 3
def uShr (rd ra rb : Nat) : BitVec 24 := wR 0x04 rd ra rb 6
def uMove (rd ra : Nat) : BitVec 24 := wR 0x04 rd ra 0 11
def uCmpi (rd imm : Nat) : BitVec 24 := wI 0x05 rd imm
def uCmp (ra rb : Nat) : BitVec 24 := wR 0x06 0 ra rb 0
def uBr (cond target : Nat) : BitVec 24 := wB 0x07 cond target
def uDac (ra sel index : Nat) : BitVec 24 := wS 0x0D ra sel index
def uRng (ra sel index : Nat) : BitVec 24 := wS 0x0E ra sel index
def uRdst (ra sel index : Nat) : BitVec 24 := wS 0x13 ra sel index
def uPmeas (index : Nat) : BitVec 24 := wS 0x11 0 0 index
def uRdpm (ra index : Nat) : BitVec 24 := wS 0x12 ra 0 index
def uFlag (ra : Nat) : BitVec 24 := wS 0x15 ra 0 0
def uStg (rd ra rb fn : Nat) : BitVec 24 := wR 0x16 rd ra rb fn
def uCommit : BitVec 24 := wI 0x17 0 0
def uEnd : BitVec 24 := wI 0x18 0 0
def uWin (rd ra rb : Nat) : BitVec 24 := wR 0x1E rd ra rb 0
def uWaitr (ra : Nat) : BitVec 24 := wS 0x1F ra 0 0

/-! ## The routines -/

/-- FSM for one cell, with FORCE, IRANGE and MQTY in G4, G5 and G6 and 1 in G7; `err` is the error exit. -/
def romFsmCell (err c : Nat) : List (BitVec 24) :=
  [uRng 7 6 c, uRng 4 2 c, uRng 5 3 c, uRng 6 4 c, uDac 1 5 c, uLdi 7 0, wW 4 c 7, uWaitr 2,
   uPmeas c, uLdi 7 0xFFFF, uLdh 7 0x00FF, wW 2 c 7, uRdpm 0 c, uBr 9 err, uBr 11 err, uEnd]

/-- FSM, force-settle-measure, at 0x2000. A cell beyond C7 is an error. -/
def romFsm : List (BitVec 24) :=
  [uLdi 7 3, uAnd 4 3 7, uLdi 7 2, uShr 5 3 7, uLdi 7 7, uAnd 5 5 7, uLdi 7 5, uShr 6 3 7, uLdi 7 1, uAnd 6 6 7] ++
  ((List.range 8).flatMap fun c => [uCmpi 0 c, uBr 1 (0x201D + 16 * c)]) ++
  [uLdi 0 0, uLdh 0 0x8000, uEnd] ++
  (List.range 8).flatMap (romFsmCell 0x201A)

/-- RANGE for one unit; `no` and `late` are the exits of a refusal and of a timeout. -/
def romRangeUnit (no late u : Nat) : List (BitVec 24) :=
  [uRng 1 0 u, uBr 9 no, wW 3 u 3, uBr 11 late, uDac 2 0 u, wW 3 u 3, uBr 11 late, uLdi 0 0, uEnd]

/-- RANGE, bridge range change, at 0x2100. A unit beyond 1 is refused. -/
def romRange : List (BitVec 24) :=
  [uCmpi 0 0, uBr 1 0x2108, uCmpi 0 1, uBr 1 0x2111, uLdi 0 1, uEnd, uLdi 0 2, uEnd] ++
  romRangeUnit 0x2104 0x2106 0 ++ romRangeUnit 0x2104 0x2106 1

/-- CONTACT for one cell, whose part begins at `start`: G0 the mask, G4 the fails, G7 = 0. -/
def romContactCell (start c : Nat) : List (BitVec 24) :=
  [uLdi 5 (2 ^ c), uAnd 6 0 5, uBr 1 (start + 19), uLdi 6 1, uRng 6 6 c, uRng 6 2 c, uLdi 6 2, uRng 6 3 c, uDac 1 5 c,
   wW 4 c 7, uPmeas c, wW 2 c 7, uRdpm 6 c, uWin 6 2 3, uBr 9 (start + 16), uBr 12 (start + 17), uOr 4 4 5,
   uLdi 6 0, uRng 6 6 c]

/-- CONTACT, contact check, at 0x2200. -/
def romContact : List (BitVec 24) :=
  ((List.range 8).flatMap fun c => romContactCell (0x2200 + 19 * c) c) ++
  [uLdi 5 1, uMove 0 4, uBr 2 0x229C, uLdi 5 0, uFlag 5, uEnd]

/-- SWEEP for one unit, whose part begins at `start`: G4 the code, G5 the last code, G6 the status, G7 the mask of COMPLIANCE
and LIMITED. -/
def romSweepUnit (start u : Nat) : List (BitVec 24) :=
  [uRdst 6 2 u, uAnd 6 6 7, uBr 2 0x2305, uLdi 0 0, uDac 4 0 u, wW 3 u 0, uWaitr 3, uRdst 6 2 u, uAnd 6 6 7,
   uBr 2 0x2308, uMove 5 4, uAdd 4 4 1, uCmp 4 2, uBr 5 0x2308, uBr 0 (start + 4)]

/-- SWEEP, compliance sweep, at 0x2300. A unit beyond 1 answers as one flagged at entry. -/
def romSweep : List (BitVec 24) :=
  [uLdi 7 9, uCmpi 0 0, uBr 1 0x230A, uCmpi 0 1, uBr 1 0x2319, uLdi 0 0x8000, uLdh 0 0xFFFF, uEnd, uMove 0 5, uEnd] ++
  romSweepUnit 0x230A 0 ++ romSweepUnit 0x2319 1

/-- TRIM_WRITE for one unit, whose part begins at `start`: G1 or G2 the value, G5 = 0xFF. -/
def romTrimUnit (start u : Nat) : List (BitVec 24) :=
  [uLdi 6 (u + 1), uAnd 7 3 6, uBr 1 (start + 9), uLdi 6 (8 * (u + 1)), uShr 4 3 6, uAnd 4 4 5, uAddi 4 0x100,
   uLdi 6 (0xA301 + u), uStg (u + 1) 4 6 1]

/-- TRIM_WRITE, DUT trim write, at 0x2400: a branch and END follow its COMMIT (Table 9.18). -/
def romTrim : List (BitVec 24) :=
  [uRdst 4 0 0, uLdi 5 0xFF, uAnd 4 4 5, uBr 2 0x2421] ++ romTrimUnit 0x2404 0 ++ romTrimUnit 0x240D 1 ++
  [uLdi 6 0x6002, uStg 0 0 6 0, uLdi 6 0x6001, uLdi 4 1, uStg 4 0 6 0, uLdi 0 0, uCommit, uBr 9 0x241F, uEnd,
   uLdi 0 2, uEnd, uLdi 0 1, uEnd]

/-- The region ROM: the word at an address of its own; beyond its routines it is a free value. -/
def romWord (a : Nat) : BitVec 24 :=
  let routine := match a / 256 with
    | 0x20 => romFsm
    | 0x21 => romRange
    | 0x22 => romContact
    | 0x23 => romSweep
    | 0x24 => romTrim
    | _ => []
  routine.getD (a % 256) (Config.mseRom (a - 0x2000))

end Sys2Proof.Machine
end

