-- ==== Sys2Proof/Machine/DictTable.lean ====
section
/-! DEFINITION. The object dictionary (chapter 02): every object of the specification with its subindices, types, access
codes, attributes, fields, accepted ranges and values after reset, transcribed from the object tables of the chapters. -/
namespace Sys2Proof.Machine

/-- Access codes of Table 2.2. -/
inductive Access where
  | ro | wo | rw | const
  deriving DecidableEq, Repr

/-- The shapes of the types of Table 2.1: a number of `bits` bits, a string of `n` bytes, a DOMAIN of `lo` to `hi` bytes. -/
inductive VType where
  | num (bits : Nat)
  | bytes (n : Nat)
  | domain (lo hi : Nat)
  deriving DecidableEq, Repr

/-- A value after reset: one value; the values of successive subindices, 0 beyond them; or a start with a step per object
and a step per subindex. -/
inductive Init where
  | val (v : Nat)
  | table (vs : List Nat)
  | ramp (base perObject perSub : Nat)
  deriving DecidableEq, Repr

/-- A field of a value: its bits [hi:lo] and the ranges of its accepted encodings (none: all). -/
structure FieldRow where
  hi : Nat
  lo : Nat
  ok : List (Nat × Nat)
  deriving DecidableEq, Repr

/-- Subindices `lo` to `hi` of an object. `attr` is 1 for T, plus 2 for S, plus 4 for A. Bits no field names are reserved. -/
structure SubRow where
  lo     : Nat
  hi     : Nat
  ty     : VType
  acc    : Access
  attr   : Nat
  init   : Init
  fields : List FieldRow
  deriving DecidableEq, Repr

/-- `count` objects from `index` on (an offset for region and site blocks), with the highest subindex that subindex 0
reports (R37). -/
structure ObjRow where
  index   : Nat
  count   : Nat
  highest : Option Nat
  subs    : List SubRow
  deriving DecidableEq, Repr

/-- Objects of the chip: DEVICE_TYPE, ERR_REG, ERROR_HISTORY, COB_ID_EMCY, EMCY_INHIBIT, HEARTBEAT, IDENTITY, RPDO_COMM, RPDO_MAP, TPDO_COMM, TPDO_MAP, CAN_CFG. -/
def chipObjects0 : List ObjRow :=
  [ -- DEVICE_TYPE, Table 15.6
   ⟨0x1000, 1, none, [⟨0, 0, (.num 32), .const, 0, .val 0, [⟨31, 0, []⟩]⟩]⟩,
   -- ERR_REG, Table 15.6
   ⟨0x1001, 1, none, [⟨0, 0, (.num 8), .ro, 0, .val 0, [⟨7, 0, []⟩]⟩]⟩,
   -- ERROR_HISTORY, Table 15.6
   ⟨0x1003, 1, none, [⟨0, 0, (.num 8), .rw, 0, .val 0, [⟨7, 0, [(0, 0)]⟩]⟩,
     ⟨1, 8, (.num 32), .ro, 0, .val 0, [⟨31, 0, []⟩]⟩]⟩,
   -- COB_ID_EMCY, Table 15.6
   ⟨0x1014, 1, none, [⟨0, 0, (.num 32), .rw, 0, .val 0x80, [⟨31, 0, []⟩]⟩]⟩,
   -- EMCY_INHIBIT, Table 15.6
   ⟨0x1015, 1, none, [⟨0, 0, (.num 16), .rw, 0, .val 0, [⟨15, 0, []⟩]⟩]⟩,
   -- HEARTBEAT, Table 15.6
   ⟨0x1017, 1, none, [⟨0, 0, (.num 16), .rw, 0, .val 0x3e8, [⟨15, 0, []⟩]⟩]⟩,
   -- IDENTITY, Table 15.6
   ⟨0x1018, 1, some 4, [⟨1, 1, (.num 32), .const, 0, .val 0xa5e, [⟨31, 0, []⟩]⟩,
     ⟨2, 2, (.num 32), .const, 0, .val 0x5164, [⟨31, 0, []⟩]⟩,
     ⟨3, 3, (.num 32), .const, 0, .val 0x20100, [⟨31, 0, []⟩]⟩,
     ⟨4, 4, (.num 32), .const, 0, .val 0, [⟨31, 0, []⟩]⟩]⟩,
   -- RPDO_COMM, Table 15.6
   ⟨0x1400, 4, some 1, [⟨1, 1, (.num 32), .rw, 0, .ramp 0x80000200 0x100 0, [⟨31, 0, []⟩]⟩]⟩,
   -- RPDO_MAP, Table 15.6
   ⟨0x1600, 4, none, [⟨0, 0, (.num 8), .rw, 0, .val 0, [⟨7, 0, [(0, 0x10)]⟩]⟩,
     ⟨1, 0x10, (.num 32), .rw, 0, .val 0, [⟨31, 0, []⟩]⟩]⟩,
   -- TPDO_COMM, Table 15.6
   ⟨0x1800, 4, some 5, [⟨1, 1, (.num 32), .rw, 0, .ramp 0x80000180 0x100 0, [⟨31, 0, []⟩]⟩,
     ⟨2, 2, (.num 8), .rw, 0, .val 0xfe, [⟨7, 0, [(0xfe, 0xff)]⟩]⟩,
     ⟨3, 3, (.num 16), .rw, 0, .val 0, [⟨15, 0, []⟩]⟩,
     ⟨5, 5, (.num 16), .rw, 0, .val 0, [⟨15, 0, []⟩]⟩]⟩,
   -- TPDO_MAP, Table 15.6
   ⟨0x1a00, 4, none, [⟨0, 0, (.num 8), .rw, 0, .val 0, [⟨7, 0, [(0, 0x10)]⟩]⟩,
     ⟨1, 0x10, (.num 32), .rw, 0, .val 0, [⟨31, 0, []⟩]⟩]⟩,
   -- CAN_CFG, Table 15.7
   ⟨0x1ff0, 1, some 4, [⟨1, 1, (.num 8), .rw, 0, .val 0, [⟨7, 0, [(0, 0x7f)]⟩]⟩,
     ⟨2, 2, (.num 16), .rw, 0, .val 0x22, [⟨3, 0, [(0, 3)]⟩, ⟨7, 4, [(0, 5)]⟩]⟩,
     ⟨3, 3, (.num 8), .rw, 0, .val 2, [⟨1, 0, []⟩]⟩,
     ⟨4, 4, (.num 32), .rw, 0, .val 0, [⟨31, 0, []⟩]⟩]⟩]

/-- Objects of the chip: CAN_STATUS, DEVICE_ID, CHIP_STATE, SITE_ENABLE, ENGINE_FW, TOUCHDOWN_CTX, PLL_MAIN_CTRL, PLL_LOCK_CFG, PLL_STATUS, PLL_HOLDOVER, CKO, SYNC_CFG. -/
def chipObjects1 : List ObjRow :=
  [ -- CAN_STATUS, Table 15.8
   ⟨0x1ff1, 1, some 2, [⟨1, 1, (.num 64), .ro, 2, .val 0x7f00, [⟨1, 0, []⟩, ⟨15, 8, []⟩, ⟨23, 16, []⟩, ⟨39, 24, []⟩, ⟨41, 40, []⟩, ⟨55, 48, []⟩]⟩,
     ⟨2, 2, (.num 64), .ro, 2, .val 0, [⟨63, 0, []⟩]⟩]⟩,
   -- DEVICE_ID, Table 2.8
   ⟨0x2000, 1, some 4, [⟨1, 1, (.num 16), .const, 0, .val 0x5164, [⟨15, 0, []⟩]⟩,
     ⟨2, 2, (.num 8), .const, 0, .val 2, [⟨7, 0, []⟩]⟩,
     ⟨3, 3, (.num 16), .const, 0, .val 0x100, [⟨15, 0, []⟩]⟩,
     ⟨4, 4, (.num 64), .const, 0, .val 0, [⟨63, 0, []⟩]⟩]⟩,
   -- CHIP_STATE, Table 2.9
   ⟨0x2001, 1, some 3, [⟨1, 1, (.num 8), .ro, 0, .val 0, [⟨7, 0, []⟩]⟩,
     ⟨2, 2, (.num 8), .ro, 0, .val 0, [⟨7, 0, []⟩]⟩,
     ⟨3, 3, (.num 64), .ro, 2, .val 0, [⟨63, 0, []⟩]⟩]⟩,
   -- SITE_ENABLE, Table 2.10
   ⟨0x2002, 1, some 1, [⟨1, 1, (.num 64), .rw, 3, .val 0xffffffffffffffff, [⟨63, 0, []⟩]⟩]⟩,
   -- ENGINE_FW, Table 2.12
   ⟨0x2003, 1, some 3, [⟨1, 1, (.num 32), .const, 0, .val 0x20000, [⟨31, 0, []⟩]⟩,
     ⟨2, 2, (.num 32), .const, 0, .val 0x20000, [⟨31, 0, []⟩]⟩,
     ⟨3, 3, (.num 64), .ro, 2, .val 0, [⟨47, 0, []⟩]⟩]⟩,
   -- TOUCHDOWN_CTX, Table 2.11
   ⟨0x2010, 1, some 66, [⟨1, 1, (.bytes 16), .rw, 1, .val 0, [⟨127, 0, []⟩]⟩,
     ⟨2, 2, (.num 32), .rw, 1, .val 0, [⟨31, 0, []⟩]⟩,
     ⟨3, 0x42, (.num 64), .rw, 3, .val 0x8000800080008000, [⟨63, 0, []⟩]⟩]⟩,
   -- PLL_MAIN_CTRL, Table 3.2
   ⟨0x2100, 1, some 1, [⟨1, 1, (.num 8), .rw, 1, .val 0, [⟨7, 0, [(0, 1)]⟩]⟩]⟩,
   -- PLL_LOCK_CFG, Table 3.3
   ⟨0x2101, 1, some 2, [⟨1, 1, (.num 16), .rw, 1, .val 0x14, [⟨15, 0, [(1, 0x3ff)]⟩]⟩,
     ⟨2, 2, (.num 16), .rw, 1, .val 0x400, [⟨15, 0, [(0x10, 0xffff)]⟩]⟩]⟩,
   -- PLL_STATUS, Table 3.4
   ⟨0x2102, 1, some 7, [⟨1, 1, (.num 8), .ro, 0, .val 2, [⟨7, 0, []⟩]⟩,
     ⟨2, 2, (.num 16), .ro, 0, .val 0xd, [⟨4, 0, []⟩]⟩,
     ⟨3, 3, (.num 16), .ro, 0, .val 0, [⟨15, 0, []⟩]⟩,
     ⟨4, 4, (.num 32), .ro, 0, .val 0, [⟨31, 0, []⟩]⟩,
     ⟨5, 5, (.num 32), .ro, 0, .val 0, [⟨31, 0, []⟩]⟩,
     ⟨6, 6, (.num 64), .ro, 2, .val 0, [⟨63, 0, []⟩]⟩,
     ⟨7, 7, (.num 16), .ro, 0, .val 0, [⟨15, 0, []⟩]⟩]⟩,
   -- PLL_HOLDOVER, Table 3.6
   ⟨0x2103, 1, some 3, [⟨1, 1, (.num 8), .rw, 1, .val 0, [⟨7, 0, [(0, 1)]⟩]⟩,
     ⟨2, 2, (.num 16), .rw, 1, .val 0x3e8, [⟨15, 0, [(1, 0xea60)]⟩]⟩,
     ⟨3, 3, (.num 16), .rw, 1, .val 0x64, [⟨15, 0, [(1, 0xea60)]⟩]⟩]⟩,
   -- CKO, Table 3.8
   ⟨0x2110, 4, some 5, [⟨1, 1, (.num 8), .rw, 1, .val 0, [⟨7, 0, [(0, 1)]⟩]⟩,
     ⟨2, 2, (.num 16), .rw, 1, .val 0x3f, [⟨15, 0, [(1, 0xffff)]⟩]⟩,
     ⟨3, 3, (.num 32), .rw, 1, .val 0, [⟨8, 0, [(0, 0x140)]⟩, ⟨31, 16, []⟩]⟩,
     ⟨4, 4, (.num 8), .rw, 1, .val 1, [⟨7, 0, [(0, 1)]⟩]⟩,
     ⟨5, 5, (.num 8), .ro, 0, .val 0, [⟨2, 0, []⟩]⟩]⟩,
   -- SYNC_CFG, Table 3.9
   ⟨0x2120, 1, some 7, [⟨1, 1, (.num 8), .rw, 1, .val 0, [⟨7, 0, [(0, 2)]⟩]⟩,
     ⟨2, 2, (.num 8), .rw, 1, .val 0, [⟨1, 0, []⟩]⟩,
     ⟨3, 3, (.num 32), .rw, 1, .val 0, [⟨31, 0, [(0, 0), (0x64, 0xffffffff)]⟩]⟩,
     ⟨4, 4, (.num 32), .rw, 1, .val 0, [⟨31, 0, [(0, 0xfffff), (0xfff00000, 0xffffffff)]⟩]⟩,
     ⟨5, 5, (.num 8), .rw, 1, .val 0, [⟨7, 0, [(0, 2)]⟩]⟩,
     ⟨6, 6, (.num 64), .ro, 2, .val 0, [⟨63, 0, []⟩]⟩,
     ⟨7, 7, (.num 32), .ro, 0, .val 0, [⟨31, 0, []⟩]⟩]⟩]

/-- Objects of the chip: TIME_NOW, EPOCH_COUNT, FL_TOPOLOGY, FL_HOP_ADDR, FL_PORT_STATUS, FL_LATENCY_BUDGET, FL_BYPASS, TXN_CTRL, TXN_GROUP_STATUS, TXN_COMMIT_TIME, TXN_XCHIP, OVERLAY_ACTIVE. -/
def chipObjects2 : List ObjRow :=
  [ -- TIME_NOW, Table 3.10
   ⟨0x2121, 1, some 1, [⟨1, 1, (.num 64), .ro, 2, .val 0, [⟨63, 0, []⟩]⟩]⟩,
   -- EPOCH_COUNT, Table 3.11
   ⟨0x2122, 1, some 1, [⟨1, 1, (.num 16), .ro, 0, .val 0, [⟨15, 0, []⟩]⟩]⟩,
   -- FL_TOPOLOGY, Table 14.6
   ⟨0x2200, 1, some 4, [⟨1, 1, (.num 8), .rw, 0, .val 0, [⟨2, 0, []⟩]⟩,
     ⟨2, 2, (.num 8), .wo, 0, .val 0, [⟨7, 0, [(1, 3)]⟩]⟩,
     ⟨3, 3, (.num 8), .ro, 0, .val 0, [⟨7, 0, []⟩]⟩,
     ⟨4, 4, (.num 64), .ro, 2, .val 0, [⟨48, 0, []⟩]⟩]⟩,
   -- FL_HOP_ADDR, Table 14.7
   ⟨0x2201, 1, some 3, [⟨1, 1, (.num 16), .ro, 0, .val 0, [⟨15, 0, []⟩]⟩,
     ⟨2, 2, (.num 32), .ro, 0, .val 0, [⟨31, 0, []⟩]⟩,
     ⟨3, 3, (.num 16), .ro, 0, .val 0, [⟨15, 0, []⟩]⟩]⟩,
   -- FL_PORT_STATUS, Table 14.8
   ⟨0x2202, 1, some 4, [⟨1, 2, (.num 64), .ro, 2, .val 0, [⟨5, 0, []⟩, ⟨27, 8, []⟩, ⟨63, 32, []⟩]⟩,
     ⟨3, 4, (.num 64), .ro, 2, .val 0, [⟨63, 0, []⟩]⟩]⟩,
   -- FL_LATENCY_BUDGET, Table 14.9
   ⟨0x2203, 1, some 1, [⟨1, 1, (.num 32), .rw, 1, .val 0x186a0, [⟨31, 0, [(0x3e8, 0x989680)]⟩]⟩]⟩,
   -- FL_BYPASS, Table 14.9
   ⟨0x2204, 1, some 1, [⟨1, 1, (.num 8), .wo, 0, .val 0, [⟨7, 0, [(1, 1)]⟩]⟩]⟩,
   -- TXN_CTRL, Table 13.6
   ⟨0x2300, 1, some 2, [⟨1, 1, (.num 16), .wo, 0, .val 0, [⟨3, 0, [(1, 0xf)]⟩, ⟨11, 8, [(1, 4)]⟩, ⟨13, 12, []⟩]⟩,
     ⟨2, 2, (.num 16), .rw, 0, .val 0x3e8, [⟨15, 0, []⟩]⟩]⟩,
   -- TXN_GROUP_STATUS, Table 13.7
   ⟨0x2301, 1, some 30, [⟨1, 0xf, (.num 64), .ro, 2, .val 0, [⟨6, 0, []⟩, ⟨36, 8, []⟩, ⟨57, 40, []⟩]⟩,
     ⟨0x10, 0x1e, (.num 64), .ro, 2, .val 0, [⟨23, 0, []⟩, ⟨63, 32, []⟩]⟩]⟩,
   -- TXN_COMMIT_TIME, Table 13.8
   ⟨0x2302, 1, some 30, [⟨1, 0xf, (.num 64), .rw, 2, .val 0, [⟨63, 0, []⟩]⟩,
     ⟨0x10, 0x1e, (.num 64), .ro, 2, .val 0, [⟨63, 0, []⟩]⟩]⟩,
   -- TXN_XCHIP, Table 13.9
   ⟨0x2303, 1, some 15, [⟨1, 0xf, (.num 64), .rw, 0, .val 0x7d0000100000000, [⟨1, 0, [(0, 2)]⟩, ⟨23, 8, []⟩, ⟨47, 32, [(1, 0xfffe)]⟩, ⟨63, 48, [(1, 0xffff)]⟩]⟩]⟩,
   -- OVERLAY_ACTIVE, Table 13.10
   ⟨0x2310, 1, some 2, [⟨1, 1, (.num 8), .wo, 0, .val 0, [⟨4, 0, [(1, 0x11)]⟩]⟩,
     ⟨2, 2, (.num 64), .ro, 2, .val 0, [⟨20, 0, []⟩, ⟨63, 32, []⟩]⟩]⟩]

/-- Objects of the chip: OVERLAY_GENERATION, OVERLAY_STORE, BASE_CFG, GT_CTRL, GT_RECORD, GT_ACK, GT_CLASS_CFG, GT_QUIET_PERIOD, GT_RECOVERY_COUNT, GT_RECOVERY_LIMIT, TH_THRESHOLDS, TH_STATUS. -/
def chipObjects3 : List ObjRow :=
  [ -- OVERLAY_GENERATION, Table 13.10
   ⟨0x2311, 1, some 1, [⟨1, 1, (.num 16), .ro, 0, .val 0, [⟨15, 0, []⟩]⟩]⟩,
   -- OVERLAY_STORE, Table 13.10
   ⟨0x2312, 1, some 34, [⟨1, 0x11, (.domain 16 4096), .rw, 0, .val 0, []⟩,
     ⟨0x12, 0x22, (.num 64), .ro, 2, .val 0, [⟨16, 0, []⟩, ⟨63, 32, []⟩]⟩]⟩,
   -- BASE_CFG, Table 13.10
   ⟨0x2320, 1, some 2, [⟨1, 1, (.num 8), .wo, 0, .val 0, [⟨7, 0, [(1, 2)]⟩]⟩,
     ⟨2, 2, (.num 64), .ro, 2, .val 0, [⟨2, 0, []⟩, ⟨63, 32, []⟩]⟩]⟩,
   -- GT_CTRL, Table 18.8
   ⟨0x2400, 1, some 3, [⟨1, 1, (.num 8), .rw, 0, .val 3, [⟨0, 0, []⟩, ⟨3, 1, [(0, 5)]⟩]⟩,
     ⟨2, 2, (.num 16), .rw, 0, .val 0, [⟨15, 0, []⟩]⟩,
     ⟨3, 3, (.num 64), .ro, 2, .val 0, [⟨9, 0, []⟩, ⟨47, 32, []⟩]⟩]⟩,
   -- GT_RECORD, Table 18.9
   ⟨0x2401, 1, some 64, [⟨1, 0x40, (.bytes 32), .ro, 2, .val 0, [⟨255, 0, []⟩]⟩]⟩,
   -- GT_ACK, Table 18.9
   ⟨0x2402, 1, some 2, [⟨1, 1, (.num 32), .wo, 0, .val 0, [⟨6, 0, [(1, 0x40)]⟩, ⟨31, 16, []⟩]⟩,
     ⟨2, 2, (.num 8), .wo, 0, .val 0, [⟨0, 0, []⟩]⟩]⟩,
   -- GT_CLASS_CFG, Table 18.10
   ⟨0x2403, 1, some 22, [⟨1, 0x16, (.num 16), .rw, 0, .table [25, 26, 24, 25, 26, 25, 25, 24, 25, 25, 25, 25, 25, 25, 0, 25, 28, 25, 25, 25, 16, 17], [⟨2, 0, [(0, 4)]⟩, ⟨4, 3, []⟩]⟩]⟩,
   -- GT_QUIET_PERIOD, Table 18.11
   ⟨0x2404, 1, some 1, [⟨1, 1, (.num 16), .rw, 0, .val 0xa, [⟨15, 0, [(1, 0x3e80)]⟩]⟩]⟩,
   -- GT_RECOVERY_COUNT, Table 18.11
   ⟨0x2405, 1, some 69, [⟨1, 0x45, (.num 16), .ro, 0, .val 0, [⟨8, 0, []⟩]⟩]⟩,
   -- GT_RECOVERY_LIMIT, Table 18.11
   ⟨0x2406, 1, some 1, [⟨1, 1, (.num 8), .rw, 0, .val 3, [⟨7, 0, []⟩]⟩]⟩,
   -- TH_THRESHOLDS, Table 17.8
   ⟨0x2500, 1, some 5, [⟨1, 1, (.num 32), .rw, 0, .val 0x9f00a40, [⟨11, 0, []⟩, ⟨27, 16, []⟩]⟩,
     ⟨2, 2, (.num 32), .rw, 0, .val 0xa800ae0, [⟨11, 0, []⟩, ⟨27, 16, []⟩]⟩,
     ⟨3, 3, (.num 32), .rw, 0, .val 0x9a00ba0, [⟨11, 0, []⟩, ⟨27, 16, []⟩]⟩,
     ⟨4, 4, (.num 32), .rw, 0, .val 0xc200bd0, [⟨11, 0, []⟩, ⟨27, 16, []⟩]⟩,
     ⟨5, 5, (.num 32), .rw, 0, .val 0x140050, [⟨8, 0, [(8, 0x140)]⟩, ⟨25, 16, [(0, 0x3e8)]⟩]⟩]⟩,
   -- TH_STATUS, Table 17.9
   ⟨0x2501, 1, some 68, [⟨1, 0x40, (.num 64), .ro, 2, .val 0, [⟨59, 0, []⟩]⟩,
     ⟨0x41, 0x44, (.num 32), .ro, 0, .val 0, [⟨11, 0, []⟩, ⟨27, 16, []⟩]⟩]⟩]

/-- Objects of the chip: TH_STEP, PWR_BUDGET, TH_HOT_CLASS_LEVEL, TH_SENSOR_HEALTH, PWR_DOMAIN_STATE, TH_SHUT_RECORD, CAL_CTRL, CAL_TEMP_DELTA, CAL_CHECK_MODE, CAL_TOLERANCE, CAL_MAX_DEFER, CAL_STATUS. -/
def chipObjects4 : List ObjRow :=
  [ -- TH_STEP, Table 17.10
   ⟨0x2502, 1, some 65, [⟨1, 0x40, (.num 16), .ro, 0, .val 0, [⟨15, 0, []⟩]⟩,
     ⟨0x41, 0x41, (.num 64), .wo, 0, .val 0, [⟨63, 0, []⟩]⟩]⟩,
   -- PWR_BUDGET, Table 17.11
   ⟨0x2503, 1, some 3, [⟨1, 1, (.num 16), .rw, 0, .val 0x1a4, [⟨15, 0, [(0x64, 0x1cc)]⟩]⟩,
     ⟨2, 2, (.num 64), .ro, 2, .val 0, [⟨48, 0, []⟩]⟩,
     ⟨3, 3, (.num 8), .ro, 0, .val 0, [⟨6, 0, []⟩]⟩]⟩,
   -- TH_HOT_CLASS_LEVEL, Table 17.12
   ⟨0x2504, 1, some 1, [⟨1, 1, (.num 16), .rw, 0, .val 0x1419, [⟨6, 0, [(1, 0x64)]⟩, ⟨14, 8, [(1, 0x64)]⟩]⟩]⟩,
   -- TH_SENSOR_HEALTH, Table 17.12
   ⟨0x2505, 1, some 66, [⟨1, 0x40, (.num 8), .ro, 0, .val 0, [⟨6, 0, []⟩]⟩,
     ⟨0x41, 0x41, (.num 64), .wo, 0, .val 0, [⟨63, 0, []⟩]⟩,
     ⟨0x42, 0x42, (.num 8), .ro, 0, .val 0, [⟨3, 0, []⟩]⟩]⟩,
   -- PWR_DOMAIN_STATE, Table 17.12
   ⟨0x2506, 1, some 3, [⟨1, 1, (.num 64), .ro, 2, .val 0, [⟨63, 0, []⟩]⟩,
     ⟨2, 2, (.num 64), .ro, 2, .val 0, [⟨63, 0, []⟩]⟩,
     ⟨3, 3, (.num 32), .ro, 0, .val 0, [⟨17, 0, []⟩]⟩]⟩,
   -- TH_SHUT_RECORD, Table 17.12
   ⟨0x2507, 1, some 8, [⟨1, 8, (.bytes 32), .ro, 0, .val 0, [⟨255, 0, []⟩]⟩]⟩,
   -- CAL_CTRL, Table 19.6
   ⟨0x2600, 1, some 4, [⟨1, 1, (.num 8), .wo, 0, .val 0, [⟨7, 0, [(1, 4)]⟩]⟩,
     ⟨2, 2, (.num 64), .rw, 2, .val 0xffffffffffffffff, [⟨63, 0, []⟩]⟩,
     ⟨3, 3, (.num 8), .rw, 0, .val 0xf, [⟨3, 0, []⟩]⟩,
     ⟨4, 4, (.num 8), .rw, 0, .val 0x1f, [⟨4, 0, []⟩]⟩]⟩,
   -- CAL_TEMP_DELTA, Table 19.7
   ⟨0x2601, 1, some 1, [⟨1, 1, (.num 16), .rw, 0, .val 0x40, [⟨15, 0, [(8, 0x140)]⟩]⟩]⟩,
   -- CAL_CHECK_MODE, Table 19.7
   ⟨0x2602, 1, some 1, [⟨1, 1, (.num 8), .rw, 0, .val 0, [⟨7, 0, [(0, 2)]⟩]⟩]⟩,
   -- CAL_TOLERANCE, Table 19.7
   ⟨0x2603, 1, some 1, [⟨1, 1, (.num 8), .rw, 0, .val 2, [⟨7, 0, [(1, 0xf)]⟩]⟩]⟩,
   -- CAL_MAX_DEFER, Table 19.7
   ⟨0x2604, 1, some 1, [⟨1, 1, (.num 16), .rw, 0, .val 0x3e8, [⟨15, 0, [(1, 0xffff)]⟩]⟩]⟩,
   -- CAL_STATUS, Table 19.8
   ⟨0x2605, 1, some 65, [⟨1, 0x40, (.num 64), .ro, 2, .val 0, [⟨13, 0, []⟩, ⟨27, 16, []⟩, ⟨63, 32, []⟩]⟩,
     ⟨0x41, 0x41, (.num 64), .ro, 2, .val 0, [⟨3, 0, []⟩, ⟨15, 8, []⟩]⟩]⟩]

/-- Objects of the chip: CAL_BU_TRIM, CAL_PC_TRIM, MIT_CTRL, MIT_TICK, MIT_FILTER, MIT_RULE, SPS_CFG, SPM_CFG, SPM_PHASES, XIP_WINDOW, SPS_STATUS, NVM_STATUS. -/
def chipObjects5 : List ObjRow :=
  [ -- CAL_BU_TRIM, Table 19.9
   ⟨0x2606, 1, some 128, [⟨1, 0x80, (.num 64), .rw, 7, .val 0, [⟨11, 0, [(0, 0x7ff), (0x801, 0xfff)]⟩, ⟨23, 12, [(0, 0x7ff), (0x801, 0xfff)]⟩, ⟨35, 24, [(0, 0x7ff), (0x801, 0xfff)]⟩, ⟨47, 36, [(0, 0x7ff), (0x801, 0xfff)]⟩, ⟨57, 48, [(0, 0x1ff), (0x201, 0x3ff)]⟩]⟩]⟩,
   -- CAL_PC_TRIM, Table 19.9
   ⟨0x2610, 4, some 128, [⟨1, 0x80, (.num 64), .rw, 7, .val 0, [⟨7, 0, [(0, 0x7f), (0x81, 0xff)]⟩, ⟨15, 8, [(0, 0x7f), (0x81, 0xff)]⟩, ⟨23, 16, [(0, 0x7f), (0x81, 0xff)]⟩, ⟨31, 24, [(0, 0x7f), (0x81, 0xff)]⟩, ⟨39, 32, [(0, 0x7f), (0x81, 0xff)]⟩, ⟨47, 40, [(0, 0x7f), (0x81, 0xff)]⟩, ⟨55, 48, [(0, 0x7f), (0x81, 0xff)]⟩, ⟨63, 56, [(0, 0x7f), (0x81, 0xff)]⟩]⟩]⟩,
   -- MIT_CTRL, Table 20.5
   ⟨0x2700, 1, some 23, [⟨1, 1, (.num 16), .rw, 0, .val 1, [⟨0, 0, []⟩, ⟨12, 8, [(0, 0x11)]⟩]⟩,
     ⟨2, 2, (.num 8), .wo, 0, .val 0, [⟨7, 0, [(1, 2)]⟩]⟩,
     ⟨3, 6, (.num 16), .rw, 0, .val 0x400, [⟨5, 0, []⟩, ⟨10, 8, [(0, 4)]⟩]⟩,
     ⟨7, 0x16, (.num 16), .rw, 0, .val 0, [⟨8, 0, []⟩]⟩,
     ⟨0x17, 0x17, (.num 64), .ro, 2, .val 0, [⟨63, 0, []⟩]⟩]⟩,
   -- MIT_TICK, Table 20.6
   ⟨0x2701, 1, some 2, [⟨1, 1, (.num 32), .rw, 0, .val 0xfa0, [⟨31, 0, [(0x28, 0x3d0900)]⟩]⟩,
     ⟨2, 2, (.num 64), .ro, 2, .val 0, [⟨63, 0, []⟩]⟩]⟩,
   -- MIT_FILTER, Table 20.7
   ⟨0x2702, 1, some 16, [⟨1, 8, (.num 16), .rw, 0, .val 0x400, [⟨5, 0, []⟩, ⟨7, 6, [(0, 2)]⟩, ⟨11, 8, []⟩]⟩,
     ⟨9, 0x10, (.num 32), .ro, 0, .val 0, [⟨17, 0, []⟩]⟩]⟩,
   -- MIT_RULE, Table 20.8
   ⟨0x2703, 1, some 32, [⟨1, 0x10, (.num 64), .rw, 0, .val 0, [⟨6, 0, []⟩, ⟨8, 7, []⟩, ⟨9, 9, []⟩, ⟨11, 10, [(0, 2)]⟩, ⟨63, 12, []⟩]⟩,
     ⟨0x11, 0x20, (.num 64), .ro, 2, .val 0, [⟨1, 0, []⟩, ⟨63, 16, []⟩]⟩]⟩,
   -- SPS_CFG, Table 16.7
   ⟨0x2800, 1, some 1, [⟨1, 1, (.num 32), .rw, 0, .val 0x200, [⟨1, 0, [(0, 2)]⟩, ⟨3, 2, [(0, 2)]⟩, ⟨5, 4, [(0, 2)]⟩, ⟨11, 6, [(0, 0x20)]⟩, ⟨12, 12, []⟩]⟩]⟩,
   -- SPM_CFG, Table 16.8
   ⟨0x2801, 1, some 1, [⟨1, 1, (.num 16), .rw, 0, .val 0x80, [⟨0, 0, []⟩, ⟨10, 1, [(0x31, 0x280)]⟩, ⟨15, 11, []⟩]⟩]⟩,
   -- SPM_PHASES, Table 16.8
   ⟨0x2802, 1, some 2, [⟨1, 2, (.num 32), .rw, 0, .val 3, [⟨24, 0, []⟩]⟩]⟩,
   -- XIP_WINDOW, Table 16.8
   ⟨0x2803, 1, some 3, [⟨1, 1, (.num 8), .rw, 0, .val 8, [⟨3, 0, [(0, 8), (0xf, 0xf)]⟩]⟩,
     ⟨2, 2, (.num 8), .rw, 0, .val 0xf, [⟨3, 0, [(0, 8), (0xf, 0xf)]⟩]⟩,
     ⟨3, 3, (.num 64), .ro, 2, .val 0, [⟨39, 0, []⟩]⟩]⟩,
   -- SPS_STATUS, Table 16.7
   ⟨0x2804, 1, some 2, [⟨1, 1, (.num 64), .ro, 2, .val 0, [⟨63, 0, []⟩]⟩,
     ⟨2, 2, (.num 8), .ro, 0, .val 0, [⟨3, 0, []⟩]⟩]⟩,
   -- NVM_STATUS, Table 16.9
   ⟨0x2810, 1, some 2, [⟨1, 1, (.num 16), .ro, 0, .val 0, [⟨6, 0, []⟩]⟩,
     ⟨2, 2, (.num 64), .ro, 2, .val 0, [⟨63, 0, []⟩]⟩]⟩]

/-- Objects of the chip: ASZ_COUNTER, ASZ_STATUS, ASZ_EXPORTED, ASZ_POLICY, ASZ_WINDOW, ASZ_KEY, CHIP_TRIG, MARK_PIN_MAP, STREAM_CFG. -/
def chipObjects6 : List ObjRow :=
  [ -- ASZ_COUNTER, Table 21.4
   ⟨0x2900, 1, some 1, [⟨1, 1, (.num 64), .ro, 2, .val 0, [⟨63, 0, []⟩]⟩]⟩,
   -- ASZ_STATUS, Table 21.4
   ⟨0x2901, 1, some 3, [⟨1, 1, (.num 64), .ro, 2, .val 0, [⟨63, 0, []⟩]⟩,
     ⟨2, 2, (.num 64), .ro, 2, .val 0, [⟨63, 0, []⟩]⟩,
     ⟨3, 3, (.num 32), .ro, 0, .val 0, [⟨6, 0, []⟩, ⟨11, 8, []⟩, ⟨31, 16, []⟩]⟩]⟩,
   -- ASZ_EXPORTED, Table 21.4
   ⟨0x2902, 1, some 1, [⟨1, 1, (.num 64), .rw, 2, .val 0, [⟨63, 0, []⟩]⟩]⟩,
   -- ASZ_POLICY, Table 21.4
   ⟨0x2903, 1, some 2, [⟨1, 1, (.num 8), .rw, 4, .val 0, [⟨0, 0, []⟩]⟩,
     ⟨2, 2, (.num 16), .rw, 0, .val 0xe00, [⟨15, 0, [(0x100, 0xff0)]⟩]⟩]⟩,
   -- ASZ_WINDOW, Table 21.4
   ⟨0x2904, 1, some 8, [⟨1, 4, (.num 64), .rw, 2, .val 0, [⟨63, 0, []⟩]⟩,
     ⟨5, 8, (.bytes 64), .ro, 2, .val 0, [⟨511, 0, []⟩]⟩]⟩,
   -- ASZ_KEY, Table 21.4
   ⟨0x2905, 1, some 1, [⟨1, 1, (.bytes 64), .const, 0, .val 0, [⟨511, 0, []⟩]⟩]⟩,
   -- CHIP_TRIG, Table 12.10
   ⟨0x2a00, 1, some 6, [⟨1, 4, (.num 16), .rw, 1, .val 0x400, [⟨4, 0, [(0, 4), (8, 0xf)]⟩, ⟨5, 5, []⟩, ⟨15, 8, [(1, 0xff)]⟩]⟩,
     ⟨5, 5, (.num 8), .rw, 1, .val 0, [⟨7, 0, []⟩]⟩,
     ⟨6, 6, (.num 64), .ro, 2, .val 0, [⟨47, 0, []⟩]⟩]⟩,
   -- MARK_PIN_MAP, Table 5.6
   ⟨0x2a01, 1, some 16, [⟨1, 0x10, (.num 32), .rw, 1, .ramp 0x40000 0 4, [⟨7, 0, []⟩, ⟨9, 8, [(0, 2)]⟩, ⟨10, 10, []⟩, ⟨23, 16, [(1, 0xff)]⟩]⟩]⟩,
   -- STREAM_CFG, Table 12.10
   ⟨0x2a02, 1, some 2, [⟨1, 1, (.num 32), .rw, 1, .val 0x400000, [⟨15, 0, []⟩, ⟨23, 16, [(8, 0xff)]⟩]⟩,
     ⟨2, 2, (.num 16), .rw, 1, .val 0x64, [⟨15, 0, [(1, 0xffff)]⟩]⟩]⟩]

/-- Every object of the chip. -/
def chipObjects : List ObjRow := chipObjects0 ++ chipObjects1 ++ chipObjects2 ++ chipObjects3 ++ chipObjects4 ++ chipObjects5 ++ chipObjects6

/-- Objects of the region block: RG_ARB_WEIGHT, RG_TRIG_SLOT, RG_TRIG_UNIT, RG_TRIG_CARE, RG_TRIG_VALUE, RG_TRIG_EDGE, RG_TRIG_STATUS, RG_PAT_MEM, RG_PAT_WIN, RG_HK, RG_SPARE, RG_TEST. -/
def regionObjects0 : List ObjRow :=
  [ -- RG_ARB_WEIGHT, Table 1.6
   ⟨0x2, 1, some 16, [⟨1, 0x10, (.num 16), .rw, 1, .val 0x111, [⟨3, 0, [(1, 0xf)]⟩, ⟨7, 4, [(1, 0xf)]⟩, ⟨11, 8, [(1, 0xf)]⟩]⟩]⟩,
   -- RG_TRIG_SLOT, Table 12.9
   ⟨0x10, 1, some 128, [⟨1, 0x80, (.num 32), .rw, 1, .val 0, [⟨8, 0, []⟩, ⟨23, 16, [(0, 0x3f), (0xc0, 0xff)]⟩]⟩]⟩,
   -- RG_TRIG_UNIT, Table 12.9
   ⟨0x11, 1, some 4, [⟨1, 4, (.num 64), .rw, 1, .val 0x40, [⟨15, 0, [(0x40, 0xffff)]⟩, ⟨42, 16, []⟩]⟩]⟩,
   -- RG_TRIG_CARE, Table 12.9
   ⟨0x12, 1, some 8, [⟨1, 8, (.num 64), .rw, 3, .val 0, [⟨63, 0, []⟩]⟩]⟩,
   -- RG_TRIG_VALUE, Table 12.9
   ⟨0x13, 1, some 8, [⟨1, 8, (.num 64), .rw, 3, .val 0, [⟨63, 0, []⟩]⟩]⟩,
   -- RG_TRIG_EDGE, Table 12.9
   ⟨0x14, 1, some 8, [⟨1, 8, (.num 64), .rw, 3, .val 0, [⟨63, 0, []⟩]⟩]⟩,
   -- RG_TRIG_STATUS, Table 12.9
   ⟨0x15, 1, some 8, [⟨1, 4, (.num 64), .ro, 2, .val 0, [⟨48, 0, []⟩]⟩,
     ⟨5, 8, (.num 64), .ro, 2, .val 0, [⟨63, 0, []⟩]⟩]⟩,
   -- RG_PAT_MEM, Table 6.15
   ⟨0x20, 1, some 1, [⟨1, 1, (.domain 8 4194304), .rw, 0, .val 0, []⟩]⟩,
   -- RG_PAT_WIN, Table 6.15
   ⟨0x21, 1, some 1, [⟨1, 1, (.num 32), .rw, 0, .val 0, [⟨18, 0, []⟩]⟩]⟩,
   -- RG_HK, Table 17.13
   ⟨0x30, 1, some 2, [⟨1, 1, (.num 32), .ro, 0, .val 0, [⟨31, 0, []⟩]⟩,
     ⟨2, 2, (.num 32), .ro, 0, .val 0, [⟨23, 0, []⟩]⟩]⟩,
   -- RG_SPARE, Table 22.9
   ⟨0x40, 1, some 3, [⟨1, 1, (.num 8), .rw, 1, .val 0, [⟨4, 0, [(0, 0x10)]⟩]⟩,
     ⟨2, 2, (.num 8), .ro, 0, .val 0, [⟨2, 0, []⟩]⟩,
     ⟨3, 3, (.num 8), .wo, 1, .val 0, [⟨7, 0, [(1, 1)]⟩]⟩]⟩,
   -- RG_TEST, Table 22.10
   ⟨0x41, 1, some 32, [⟨1, 0x10, (.num 8), .wo, 1, .val 0, [⟨2, 0, [(1, 7)]⟩]⟩,
     ⟨0x11, 0x20, (.num 64), .ro, 2, .val 0, [⟨8, 0, []⟩, ⟨22, 16, []⟩, ⟨33, 24, []⟩]⟩]⟩]

/-- Objects of the region block: RG_RESET. -/
def regionObjects1 : List ObjRow :=
  [ -- RG_RESET, Table 22.11
   ⟨0x42, 1, some 4, [⟨1, 1, (.num 8), .ro, 0, .val 0, [⟨7, 0, []⟩]⟩,
     ⟨2, 2, (.num 8), .rw, 0, .val 0, [⟨0, 0, []⟩]⟩,
     ⟨3, 3, (.num 16), .ro, 0, .val 0, [⟨4, 0, []⟩]⟩,
     ⟨4, 4, (.num 64), .ro, 2, .val 0, [⟨31, 0, []⟩]⟩]⟩]

/-- Every object of the region block. -/
def regionObjects : List ObjRow := regionObjects0 ++ regionObjects1

/-- Objects of the site block: SITE_CTRL, SITE_STATE, SITE_CLASS, PC_LEVELS, PC_THRESH, PC_MODE, PC_PPMU, PC_STATUS, PC_MEAS, PC_FLAG_CLR, TSET, PIN_DESKEW. -/
def siteObjects0 : List ObjRow :=
  [ -- SITE_CTRL, Table 1.11
   ⟨0x0, 1, some 2, [⟨1, 1, (.num 8), .rw, 1, .val 0, [⟨7, 0, [(0, 6)]⟩]⟩,
     ⟨2, 2, (.num 8), .rw, 0, .val 1, [⟨7, 0, [(0, 1)]⟩]⟩]⟩,
   -- SITE_STATE, Table 1.12
   ⟨0x1, 1, some 5, [⟨1, 1, (.num 8), .ro, 0, .val 1, [⟨7, 0, []⟩]⟩,
     ⟨2, 2, (.num 8), .ro, 0, .val 0, [⟨7, 0, []⟩]⟩,
     ⟨3, 3, (.num 8), .ro, 0, .val 0, [⟨7, 0, []⟩]⟩,
     ⟨4, 4, (.num 8), .ro, 0, .val 0, [⟨7, 0, []⟩]⟩,
     ⟨5, 5, (.num 64), .ro, 2, .val 0, [⟨63, 0, []⟩]⟩]⟩,
   -- SITE_CLASS, Table 1.13
   ⟨0x2, 1, some 4, [⟨1, 1, (.num 8), .ro, 0, .val 0, [⟨7, 0, []⟩]⟩,
     ⟨2, 2, (.num 8), .ro, 0, .val 0, [⟨7, 0, []⟩]⟩,
     ⟨3, 3, (.num 8), .ro, 0, .val 0, [⟨7, 0, []⟩]⟩,
     ⟨4, 4, (.num 8), .ro, 0, .val 0, [⟨7, 0, []⟩]⟩]⟩,
   -- PC_LEVELS, Table 4.8
   ⟨0x20, 1, some 8, [⟨1, 8, (.num 64), .rw, 1, .val 0x2ee02ee02ee0, [⟨47, 0, []⟩]⟩]⟩,
   -- PC_THRESH, Table 4.9
   ⟨0x21, 1, some 8, [⟨1, 8, (.num 32), .rw, 1, .val 0x3330333, [⟨11, 0, []⟩, ⟨27, 16, []⟩]⟩]⟩,
   -- PC_MODE, Table 4.10
   ⟨0x22, 1, some 8, [⟨1, 8, (.num 32), .rw, 1, .val 0x100, [⟨1, 0, [(0, 1)]⟩, ⟨3, 2, []⟩, ⟨5, 4, [(0, 2)]⟩, ⟨7, 6, [(0, 2)]⟩, ⟨9, 8, []⟩, ⟨25, 16, []⟩]⟩]⟩,
   -- PC_PPMU, Table 4.11
   ⟨0x23, 1, some 8, [⟨1, 8, (.num 32), .rw, 1, .val 0x2ee0400e, [⟨1, 0, [(0, 2)]⟩, ⟨4, 2, [(0, 3)]⟩, ⟨5, 5, []⟩, ⟨7, 6, [(0, 1)]⟩, ⟨31, 8, []⟩]⟩]⟩,
   -- PC_STATUS, Table 4.12
   ⟨0x24, 1, some 8, [⟨1, 8, (.num 32), .ro, 0, .val 0, [⟨9, 0, []⟩, ⟨23, 16, []⟩]⟩]⟩,
   -- PC_MEAS, Table 4.13
   ⟨0x25, 1, some 8, [⟨1, 8, (.num 64), .ro, 2, .val 0, [⟨43, 0, []⟩]⟩]⟩,
   -- PC_FLAG_CLR, Table 4.14
   ⟨0x26, 1, some 8, [⟨1, 8, (.num 32), .wo, 1, .val 0, [⟨9, 0, []⟩]⟩]⟩,
   -- TSET, Table 5.2
   ⟨0x40, 16, some 17, [⟨1, 1, (.num 16), .rw, 1, .val 0x28, [⟨12, 0, [(1, 0x1000)]⟩]⟩,
     ⟨2, 9, (.num 64), .rw, 1, .val 0x64000000000000, [⟨62, 0, []⟩]⟩,
     ⟨0xa, 0x11, (.num 64), .rw, 1, .val 0x4b0002580, [⟨41, 0, []⟩]⟩]⟩,
   -- PIN_DESKEW, Table 5.3
   ⟨0x50, 1, some 8, [⟨1, 8, (.num 16), .rw, 1, .val 0, [⟨8, 0, [(0, 0x140)]⟩]⟩]⟩]

/-- Objects of the site block: TIMING_STATUS, TIMING_FLAG_CLR, PSQ_CTRL, PSQ_STATUS, PSQ_SEG_STATE, PSQ_SEG_CHAIN, PSQ_GOTO, PSQ_SEG_DATA, PSQ_FILL, PSQ_FLAG_CLR, BU_CTRL, BU_RANGE. -/
def siteObjects1 : List ObjRow :=
  [ -- TIMING_STATUS, Table 5.4
   ⟨0x51, 1, some 8, [⟨1, 8, (.num 32), .ro, 0, .val 0, [⟨0, 0, []⟩, ⟨31, 16, []⟩]⟩]⟩,
   -- TIMING_FLAG_CLR, Table 5.5
   ⟨0x52, 1, some 8, [⟨1, 8, (.num 32), .wo, 1, .val 0, [⟨0, 0, []⟩]⟩]⟩,
   -- PSQ_CTRL, Table 6.9
   ⟨0x60, 1, some 8, [⟨1, 1, (.num 8), .rw, 1, .val 0, [⟨7, 0, [(0, 2)]⟩]⟩,
     ⟨2, 2, (.num 16), .rw, 1, .val 0, [⟨14, 0, []⟩]⟩,
     ⟨3, 6, (.num 32), .rw, 1, .val 1, [⟨23, 0, [(1, 0xffffff)]⟩]⟩,
     ⟨7, 7, (.num 16), .rw, 1, .val 0xff00, [⟨3, 0, []⟩, ⟨15, 8, []⟩]⟩,
     ⟨8, 8, (.num 16), .rw, 1, .val 0x3e8, [⟨15, 0, []⟩]⟩]⟩,
   -- PSQ_STATUS, Table 6.10
   ⟨0x61, 1, some 11, [⟨1, 1, (.num 8), .ro, 0, .val 0, [⟨7, 0, []⟩]⟩,
     ⟨2, 2, (.num 8), .ro, 0, .val 0, [⟨7, 0, []⟩]⟩,
     ⟨3, 3, (.num 16), .ro, 0, .val 0, [⟨14, 0, []⟩]⟩,
     ⟨4, 4, (.num 32), .ro, 0, .val 0, [⟨11, 0, []⟩]⟩,
     ⟨5, 5, (.num 64), .ro, 2, .val 0, [⟨63, 0, []⟩]⟩,
     ⟨6, 6, (.num 8), .ro, 0, .val 0, [⟨7, 0, []⟩]⟩,
     ⟨7, 0xa, (.num 32), .ro, 0, .val 0, [⟨24, 0, []⟩]⟩,
     ⟨0xb, 0xb, (.num 8), .ro, 0, .val 0, [⟨7, 0, []⟩]⟩]⟩,
   -- PSQ_SEG_STATE, Table 6.11
   ⟨0x62, 1, some 8, [⟨1, 8, (.num 32), .ro, 0, .val 0x30, [⟨7, 0, []⟩, ⟨31, 16, []⟩]⟩]⟩,
   -- PSQ_SEG_CHAIN, Table 6.12
   ⟨0x63, 1, some 8, [⟨1, 8, (.num 16), .rw, 1, .val 0, [⟨6, 0, []⟩]⟩]⟩,
   -- PSQ_GOTO, Table 6.13
   ⟨0x64, 1, some 1, [⟨1, 1, (.num 16), .wo, 1, .val 0, [⟨14, 0, []⟩]⟩]⟩,
   -- PSQ_SEG_DATA, Table 6.14
   ⟨0x65, 1, some 8, [⟨1, 8, (.domain 8 32768), .rw, 0, .val 0, []⟩]⟩,
   -- PSQ_FILL, Table 6.14
   ⟨0x66, 1, some 1, [⟨1, 1, (.num 64), .wo, 1, .val 0, [⟨2, 0, []⟩, ⟨5, 4, [(0, 1)]⟩, ⟨19, 8, []⟩, ⟨59, 32, []⟩]⟩]⟩,
   -- PSQ_FLAG_CLR, Table 6.14
   ⟨0x67, 1, some 1, [⟨1, 1, (.num 32), .wo, 1, .val 0, [⟨11, 0, []⟩]⟩]⟩,
   -- BU_CTRL, Table 7.6
   ⟨0x80, 1, some 2, [⟨1, 2, (.num 32), .rw, 1, .val 0x1e0, [⟨0, 0, []⟩, ⟨2, 1, [(0, 2)]⟩, ⟨5, 3, [(0, 4)]⟩, ⟨9, 6, []⟩, ⟨31, 16, []⟩]⟩]⟩,
   -- BU_RANGE, Table 7.7
   ⟨0x81, 1, some 2, [⟨1, 2, (.num 32), .rw, 1, .val 0xb47800, [⟨2, 0, []⟩, ⟨15, 8, [(1, 0xfa)]⟩, ⟨23, 16, [(1, 0xfa)]⟩]⟩]⟩]

/-- Objects of the site block: BU_SLEW, BU_SINE, BU_SAFE_VALUE, BU_ADC_CFG, BU_RESULT, BU_STATUS, BU_FLAG_CLR, BU_USER_TABLE, BU_SIG, BU_REF, BU_QUAD, BU_META. -/
def siteObjects2 : List ObjRow :=
  [ -- BU_SLEW, Table 7.8
   ⟨0x82, 1, some 2, [⟨1, 2, (.num 32), .rw, 1, .val 0xc70100, [⟨15, 0, [(1, 0xffff)]⟩, ⟨31, 16, []⟩]⟩]⟩,
   -- BU_SINE, Table 7.9
   ⟨0x83, 1, some 2, [⟨1, 2, (.num 64), .rw, 1, .val 0, [⟨31, 0, [(0, 0x10624d)]⟩, ⟨47, 32, [(0, 0x7d00)]⟩, ⟨63, 48, []⟩]⟩]⟩,
   -- BU_SAFE_VALUE, Table 7.10
   ⟨0x84, 1, some 2, [⟨1, 2, (.num 32), .rw, 1, .val 0, [⟨0, 0, []⟩, ⟨31, 16, []⟩]⟩]⟩,
   -- BU_ADC_CFG, Table 8.8
   ⟨0x85, 1, some 2, [⟨1, 2, (.num 32), .rw, 1, .val 0x10c, [⟨1, 0, [(0, 2)]⟩, ⟨3, 2, []⟩, ⟨5, 4, [(0, 2)]⟩, ⟨7, 6, [(0, 2)]⟩, ⟨11, 8, []⟩, ⟨15, 12, [(0, 0xc)]⟩, ⟨31, 16, []⟩]⟩]⟩,
   -- BU_RESULT, Table 8.9
   ⟨0x86, 1, some 2, [⟨1, 2, (.num 64), .ro, 2, .val 0, [⟨63, 0, []⟩]⟩]⟩,
   -- BU_STATUS, Table 7.11
   ⟨0x87, 1, some 2, [⟨1, 2, (.num 64), .ro, 2, .val 0, [⟨3, 0, []⟩, ⟨12, 8, []⟩, ⟨63, 16, []⟩]⟩]⟩,
   -- BU_FLAG_CLR, Table 7.12
   ⟨0x88, 1, some 2, [⟨1, 2, (.num 32), .wo, 1, .val 0, [⟨3, 0, []⟩]⟩]⟩,
   -- BU_USER_TABLE, Table 7.12
   ⟨0x89, 1, some 2, [⟨1, 2, (.domain 2 8192), .rw, 0, .val 0, []⟩]⟩,
   -- BU_SIG, Table 8.9
   ⟨0x90, 1, some 2, [⟨1, 2, (.num 64), .ro, 2, .val 0, [⟨63, 0, []⟩]⟩]⟩,
   -- BU_REF, Table 8.9
   ⟨0x91, 1, some 2, [⟨1, 2, (.num 64), .ro, 2, .val 0, [⟨63, 0, []⟩]⟩]⟩,
   -- BU_QUAD, Table 8.9
   ⟨0x92, 1, some 2, [⟨1, 2, (.num 64), .ro, 2, .val 0, [⟨63, 0, []⟩]⟩]⟩,
   -- BU_META, Table 8.9
   ⟨0x93, 1, some 2, [⟨1, 2, (.num 64), .ro, 2, .val 0, [⟨54, 0, []⟩]⟩]⟩]

/-- Objects of the site block: BU_ACQ_T0, MSE_CTRL, MSE_ENTRY, MSE_STATUS, MSE_TRIM, MSE_STORE, MSE_LOAD, MSE_CODE, DSP_CTRL, DSP_MAILBOX, DSP_STATUS, DSP_FLAG_CLR. -/
def siteObjects3 : List ObjRow :=
  [ -- BU_ACQ_T0, Table 8.10
   ⟨0x94, 1, some 2, [⟨1, 2, (.num 64), .ro, 2, .val 0, [⟨63, 0, []⟩]⟩]⟩,
   -- MSE_CTRL, Table 9.13
   ⟨0xa0, 1, some 7, [⟨1, 1, (.num 8), .rw, 1, .val 0, [⟨7, 0, [(0, 2)]⟩]⟩,
     ⟨2, 2, (.num 8), .rw, 1, .val 0, [⟨7, 0, [(0, 0xf)]⟩]⟩,
     ⟨3, 6, (.num 32), .rw, 1, .val 0, [⟨31, 0, []⟩]⟩,
     ⟨7, 7, (.num 32), .rw, 1, .val 3, [⟨4, 0, []⟩, ⟨31, 16, []⟩]⟩]⟩,
   -- MSE_ENTRY, Table 9.14
   ⟨0xa1, 1, some 16, [⟨1, 0x10, (.num 16), .rw, 1, .table [0x2000, 0x2100, 0x2200, 0x2300, 0x2400], [⟨13, 0, [(0, 0x27ff)]⟩]⟩]⟩,
   -- MSE_STATUS, Table 9.15
   ⟨0xa2, 1, some 8, [⟨1, 1, (.num 8), .ro, 0, .val 0, [⟨7, 0, []⟩]⟩,
     ⟨2, 2, (.num 8), .ro, 0, .val 0, [⟨7, 0, []⟩]⟩,
     ⟨3, 3, (.num 16), .ro, 0, .val 0, [⟨9, 0, []⟩]⟩,
     ⟨4, 4, (.num 16), .ro, 0, .val 0, [⟨13, 0, []⟩]⟩,
     ⟨5, 5, (.num 32), .ro, 0, .val 0, [⟨23, 0, []⟩]⟩,
     ⟨6, 6, (.num 32), .ro, 0, .val 0, [⟨31, 0, []⟩]⟩,
     ⟨7, 7, (.num 16), .ro, 0, .val 0, [⟨13, 0, []⟩]⟩,
     ⟨8, 8, (.num 8), .ro, 0, .val 0, [⟨7, 0, []⟩]⟩]⟩,
   -- MSE_TRIM, Table 9.16
   ⟨0xa3, 1, some 2, [⟨1, 2, (.num 64), .ro, 6, .val 0, [⟨42, 0, []⟩]⟩]⟩,
   -- MSE_STORE, Table 9.17
   ⟨0xa4, 1, some 1, [⟨1, 1, (.domain 4 32768), .rw, 0, .val 0, []⟩]⟩,
   -- MSE_LOAD, Table 9.17
   ⟨0xa5, 1, some 2, [⟨1, 1, (.num 16), .rw, 0, .val 0, [⟨12, 0, []⟩]⟩,
     ⟨2, 2, (.num 64), .wo, 1, .val 0, [⟨12, 0, []⟩, ⟨59, 32, []⟩]⟩]⟩,
   -- MSE_CODE, Table 9.17
   ⟨0xa6, 1, some 2, [⟨1, 1, (.num 32), .ro, 4, .val 0, [⟨31, 0, []⟩]⟩,
     ⟨2, 2, (.num 8), .ro, 0, .val 0, [⟨2, 0, []⟩]⟩]⟩,
   -- DSP_CTRL, Table 10.12
   ⟨0xc0, 1, some 3, [⟨1, 1, (.num 8), .rw, 1, .val 0, [⟨7, 0, [(0, 2)]⟩]⟩,
     ⟨2, 2, (.num 16), .rw, 1, .val 0, [⟨11, 0, []⟩]⟩,
     ⟨3, 3, (.num 8), .rw, 1, .val 0, [⟨0, 0, []⟩]⟩]⟩,
   -- DSP_MAILBOX, Table 10.13
   ⟨0xc1, 1, some 2, [⟨1, 1, (.num 32), .rw, 1, .val 0, [⟨31, 0, []⟩]⟩,
     ⟨2, 2, (.num 32), .ro, 0, .val 0, [⟨31, 0, []⟩]⟩]⟩,
   -- DSP_STATUS, Table 10.14
   ⟨0xc2, 1, some 6, [⟨1, 1, (.num 8), .ro, 0, .val 0, [⟨7, 0, []⟩]⟩,
     ⟨2, 2, (.num 8), .ro, 0, .val 0, [⟨7, 0, []⟩]⟩,
     ⟨3, 3, (.num 16), .ro, 0, .val 0, [⟨7, 0, []⟩]⟩,
     ⟨4, 4, (.num 32), .ro, 0, .val 0, [⟨11, 0, []⟩, ⟨27, 16, []⟩]⟩,
     ⟨5, 5, (.num 32), .ro, 0, .val 0, [⟨31, 0, []⟩]⟩,
     ⟨6, 6, (.num 64), .ro, 2, .val 0, [⟨63, 0, []⟩]⟩]⟩,
   -- DSP_FLAG_CLR, Table 10.15
   ⟨0xc3, 1, some 1, [⟨1, 1, (.num 8), .wo, 1, .val 0, [⟨5, 0, []⟩]⟩]⟩]

/-- Objects of the site block: DSP_PMEM, DSP_DMEM, DSP_LOAD, DSP_CODE, TDC_CFG, TDC_INTERVAL, TRIG_SITE, BUSHEL_CFG, STREAM_SITE, TDC_STATUS, TDC_FREQ, TDC_CAL. -/
def siteObjects4 : List ObjRow :=
  [ -- DSP_PMEM, Table 10.15
   ⟨0xc4, 1, some 1, [⟨1, 1, (.domain 8 32768), .rw, 0, .val 0, []⟩]⟩,
   -- DSP_DMEM, Table 10.15
   ⟨0xc5, 1, some 1, [⟨1, 1, (.domain 4 98304), .rw, 0, .val 0, []⟩]⟩,
   -- DSP_LOAD, Table 10.16
   ⟨0xc6, 1, some 4, [⟨1, 1, (.num 16), .rw, 0, .val 0, [⟨11, 0, []⟩]⟩,
     ⟨2, 2, (.num 16), .rw, 0, .val 0, [⟨14, 0, [(0, 0x5fff)]⟩]⟩,
     ⟨3, 3, (.num 64), .wo, 1, .val 0, [⟨15, 0, []⟩, ⟨59, 32, []⟩]⟩,
     ⟨4, 4, (.num 16), .rw, 1, .val 0, [⟨12, 0, [(0, 0x1000)]⟩]⟩]⟩,
   -- DSP_CODE, Table 10.16
   ⟨0xc7, 1, some 3, [⟨1, 1, (.num 32), .ro, 4, .val 0, [⟨31, 0, []⟩]⟩,
     ⟨2, 2, (.num 32), .ro, 4, .val 0, [⟨31, 0, []⟩]⟩,
     ⟨3, 3, (.num 8), .ro, 0, .val 0, [⟨2, 0, []⟩]⟩]⟩,
   -- TDC_CFG, Table 11.5
   ⟨0xe0, 1, some 9, [⟨1, 8, (.num 16), .rw, 1, .val 0x2f, [⟨3, 0, []⟩, ⟨5, 4, [(0, 2)]⟩]⟩,
     ⟨9, 9, (.num 16), .rw, 1, .val 0, [⟨4, 0, []⟩, ⟨10, 8, []⟩]⟩]⟩,
   -- TDC_INTERVAL, Table 11.6
   ⟨0xe1, 1, some 8, [⟨1, 4, (.num 64), .rw, 1, .val 0xa000003e80000, [⟨5, 0, []⟩, ⟨11, 6, []⟩, ⟨14, 12, []⟩, ⟨39, 16, [(1, 0x989680)]⟩, ⟨59, 40, []⟩]⟩,
     ⟨5, 8, (.num 64), .ro, 2, .val 0, [⟨63, 0, []⟩]⟩]⟩,
   -- TRIG_SITE, Table 12.11
   ⟨0xe2, 1, some 2, [⟨1, 1, (.num 32), .ro, 0, .val 0, [⟨0, 0, []⟩, ⟨31, 16, []⟩]⟩,
     ⟨2, 2, (.num 8), .wo, 1, .val 0, [⟨1, 0, []⟩]⟩]⟩,
   -- BUSHEL_CFG, Table 12.11
   ⟨0xe3, 1, some 4, [⟨1, 1, (.num 32), .rw, 1, .val 0x70400, [⟨12, 0, []⟩, ⟨18, 16, []⟩, ⟨21, 20, []⟩]⟩,
     ⟨2, 2, (.num 8), .wo, 1, .val 0, [⟨7, 0, [(1, 2)]⟩]⟩,
     ⟨3, 3, (.num 64), .ro, 2, .val 0, [⟨2, 0, []⟩, ⟨28, 16, []⟩, ⟨63, 32, []⟩]⟩,
     ⟨4, 4, (.num 64), .ro, 2, .val 0, [⟨63, 0, []⟩]⟩]⟩,
   -- STREAM_SITE, Table 12.11
   ⟨0xe4, 1, some 3, [⟨1, 1, (.num 32), .rw, 1, .val 0x180000, [⟨4, 0, []⟩, ⟨17, 8, []⟩, ⟨21, 18, [(0, 0xc)]⟩, ⟨22, 22, []⟩]⟩,
     ⟨2, 2, (.num 16), .rw, 1, .val 0x1ffe, [⟨13, 1, []⟩]⟩,
     ⟨3, 3, (.num 64), .ro, 2, .val 0, [⟨47, 0, []⟩, ⟨59, 48, []⟩]⟩]⟩,
   -- TDC_STATUS, Table 11.7
   ⟨0xe5, 1, some 8, [⟨1, 8, (.num 64), .ro, 2, .val 0x80, [⟨55, 0, []⟩]⟩]⟩,
   -- TDC_FREQ, Table 11.8
   ⟨0xe6, 1, some 6, [⟨1, 2, (.num 32), .rw, 1, .val 0x271000, [⟨7, 0, []⟩, ⟨31, 8, [(1, 0x989680)]⟩]⟩,
     ⟨3, 4, (.num 64), .ro, 2, .val 0, [⟨63, 0, []⟩]⟩,
     ⟨5, 6, (.num 64), .ro, 2, .val 0, [⟨63, 0, []⟩]⟩]⟩,
   -- TDC_CAL, Table 11.9
   ⟨0xe8, 1, some 17, [⟨1, 1, (.num 8), .rw, 1, .val 0, [⟨7, 0, [(0, 4)]⟩]⟩,
     ⟨2, 2, (.num 16), .rw, 1, .val 0x1fff, [⟨12, 0, []⟩]⟩,
     ⟨3, 3, (.num 64), .ro, 2, .val 0, [⟨12, 0, []⟩, ⟨28, 16, []⟩, ⟨42, 32, []⟩]⟩,
     ⟨4, 4, (.num 64), .ro, 2, .val 0, [⟨63, 0, []⟩]⟩,
     ⟨5, 0x11, (.num 32), .ro, 4, .val 0, [⟨31, 0, []⟩]⟩]⟩]

/-- Objects of the site block: TDC_BINS, TDC_FLAG_CLR, BUSHEL_DATA. -/
def siteObjects5 : List ObjRow :=
  [ -- TDC_BINS, Table 11.10
   ⟨0xe9, 1, some 13, [⟨1, 0xd, (.domain 5120 5120), .rw, 0, .val 0, []⟩]⟩,
   -- TDC_FLAG_CLR, Table 11.10
   ⟨0xea, 1, some 8, [⟨1, 8, (.num 8), .wo, 1, .val 0, [⟨0, 0, []⟩]⟩]⟩,
   -- BUSHEL_DATA, Table 12.11
   ⟨0xf0, 1, some 1, [⟨1, 1, (.domain 32 16408), .ro, 0, .val 0, []⟩]⟩]

/-- Every object of the site block. -/
def siteObjects : List ObjRow := siteObjects0 ++ siteObjects1 ++ siteObjects2 ++ siteObjects3 ++ siteObjects4 ++ siteObjects5

end Sys2Proof.Machine
end

