-- ==== Sys2Proof/Machine/Dict.lean ====
section
/-! DEFINITION. Addresses of the object dictionary, the row that serves one, its initial value, applied values. -/
namespace Sys2Proof.Machine

/-- Where an index lies (Tables 2.5 to 2.7): a chip object, or an offset in a region or site block. -/
inductive Place where
  | chip (index : Nat)
  | region (q : Fin 4) (off : Nat)
  | site (s : Fin 64) (off : Nat)
  | nowhere
  deriving DecidableEq, Repr

/-- The place of an index (R10, R55). -/
def placeOf (index : Nat) : Place :=
  if index < 0x1000 then .nowhere
  else if index < 0x3000 then .chip index
  else if index < 0x3400 then .region (Fin.ofNat 4 ((index - 0x3000) / 256)) (index % 256)
  else if index < 0x4000 then .nowhere
  else if index < 0x8000 then .site (Fin.ofNat 64 ((index - 0x4000) / 256)) (index % 256)
  else .nowhere

/-- The address of a subindex: index × 256 + subindex, as R45 and Table 13.4 write it. -/
def addrOf (index sub : Nat) : Nat := index * 256 + sub

/-- The address of a subindex of a site's block. -/
def siteAddr (s : Fin 64) (off sub : Nat) : Nat := addrOf (0x4000 + 0x100 * s.val + off) sub

/-- The address of a subindex of a region's block. -/
def regionAddr (q : Fin 4) (off sub : Nat) : Nat := addrOf (0x3000 + 0x100 * q.val + off) sub

/-- The index of an address. -/
def indexOf (addr : Nat) : Nat := addr / 256

/-- The subindex of an address. -/
def subOf (addr : Nat) : Nat := addr % 256

/-- The object of a list that holds an index, with its number within the row. -/
def findObj (rows : List ObjRow) (index : Nat) : Option (ObjRow × Nat) :=
  match rows with
  | [] => none
  | o :: rows => if o.index ≤ index && decide (index < o.index + o.count) then some (o, index - o.index) else findObj rows index

/-- The row of a subindex; subindex 0 of an object with a highest subindex reports that (R37). -/
def findSub (o : ObjRow) (sub : Nat) : Option SubRow :=
  match o.subs.find? fun r => r.lo ≤ sub && decide (sub ≤ r.hi) with
  | some r => some r
  | none =>
    match o.highest, sub with
    | some h, 0 => some ⟨0, 0, .num 8, .const, 0, .val h, [⟨7, 0, []⟩]⟩
    | _, _ => none

/-- The object at an index. -/
def objectAt (index : Nat) : Option (ObjRow × Nat) :=
  match placeOf index with
  | .chip i => findObj chipObjects i
  | .region _ off => findObj regionObjects off
  | .site _ off => findObj siteObjects off
  | .nowhere => none

/-- The row that serves a subindex, with the number of its object within the row. -/
def rowAt (addr : Nat) : Option (SubRow × Nat) :=
  match objectAt (indexOf addr) with
  | none => none
  | some (o, n) => (findSub o (subOf addr)).map fun r => (r, n)

/-- The highest subindex of an object. -/
def highestSub (index : Nat) : Nat :=
  match objectAt index with
  | none => 0
  | some (o, _) => match o.highest with
    | some h => h
    | none => (o.subs.map (·.hi)).foldl max 0

/-- The bytes of a value of a type (R38). -/
def VType.byteLen : VType → Nat
  | .num bits => bits / 8
  | .bytes n => n
  | .domain _ hi => hi

/-- The 32-bit words that carry a value of a type (R46). -/
def VType.words : VType → Nat
  | .num bits => (bits + 31) / 32
  | .bytes n => (n + 3) / 4
  | .domain _ hi => (hi + 3) / 4

/-- A DOMAIN type. -/
def VType.isDomain : VType → Bool
  | .domain _ _ => true
  | _ => false

/-- Attribute T (R39). -/
def SubRow.isT (r : SubRow) : Bool := r.attr.testBit 0

/-- Attribute S (R48). -/
def SubRow.isS (r : SubRow) : Bool := r.attr.testBit 1

/-- Attribute A (R43). -/
def SubRow.isA (r : SubRow) : Bool := r.attr.testBit 2

/-- `v` with every reserved bit 0 (R11): the sum of the fields that the row names. -/
def SubRow.defined (r : SubRow) (v : Nat) : Nat :=
  (r.fields.map fun f => at_ (field v f.hi f.lo) f.lo).sum

/-- Every field holds an encoding that its chapter does not reserve (R12). -/
def SubRow.inRange (r : SubRow) (v : Nat) : Bool :=
  r.fields.all fun f => f.ok.isEmpty || f.ok.any fun p => p.1 ≤ field v f.hi f.lo && decide (field v f.hi f.lo ≤ p.2)

/-- The value of an `Init` at object `n`, subindex `k` places after the row's first. -/
def Init.value (i : Init) (n k : Nat) : Nat :=
  match i with
  | .val v => v
  | .table vs => vs.getD k 0
  | .ramp b pn pk => b + pn * n + pk * k

/-- CAL_BU_TRIM or CAL_PC_TRIM. -/
def isTrimAddr (addr : Nat) : Bool :=
  subOf addr != 0 && (indexOf addr == 0x2606 || (0x2610 ≤ indexOf addr && decide (indexOf addr ≤ 0x2613)))

/-- The value of a subindex after reset, with the factory base configuration (R13); a trim holds its factory value. -/
def initial (addr : Nat) : Nat :=
  match rowAt addr with
  | none => 0
  | some (r, n) => if isTrimAddr addr then r.defined (Config.factoryTrim addr).toNat else r.init.value n (subOf addr - r.lo)

/-- The applied value of a subindex that holds one (R41). -/
def State.val (s : State) (addr : Nat) : Nat := sparseGet s.dict addr (initial addr)

/-- `s` with a value applied. -/
def State.setVal (s : State) (addr v : Nat) : State := { s with dict := sparseSet s.dict addr v (initial addr) }

/-- The applied value of a chip object. -/
def State.cfg (s : State) (index sub : Nat) : Nat := s.val (addrOf index sub)

/-- The applied value of a site object. -/
def State.siteCfg (s : State) (i : Fin 64) (off sub : Nat) : Nat := s.val (siteAddr i off sub)

/-- The applied value of a region object. -/
def State.regionCfg (s : State) (q : Fin 4) (off sub : Nat) : Nat := s.val (regionAddr q off sub)

end Sys2Proof.Machine
end

