-- ==== Sys2Proof/Machine/Ops.lean ====
section
/-! DEFINITION. The named operations over the parts of the state that every chapter uses: places in vectors, sites, cells,
units and groups, free values, the time base, numbering of sites, units and regions, answers. -/
namespace Sys2Proof.Machine

/-! ## Vectors -/

/-- `v` with `f` applied at place `i`. -/
def vmod {α : Type} {n : Nat} (v : Vector α n) (i : Fin n) (f : α → α) : Vector α n := v.set i.val (f v[i.val]) i.isLt

/-- The value at place `k`, or `d` beyond the end. -/
def vgetN {α : Type} {n : Nat} (v : Vector α n) (k : Nat) (d : α) : α := if h : k < n then v[k] else d

/-- `v` with `f` applied at place `k`, or `v` beyond the end. -/
def vmodN {α : Type} {n : Nat} (v : Vector α n) (k : Nat) (f : α → α) : Vector α n :=
  if h : k < n then v.set k (f v[k]) h else v

/-! ## Parts of the state -/

/-- The site `i`. -/
def State.site (s : State) (i : Fin 64) : Site := s.sites[i.val]

/-- `s` with a site changed. -/
def State.modSite (s : State) (i : Fin 64) (f : Site → Site) : State := { s with sites := vmod s.sites i f }

/-- `s` with every site changed. -/
def State.modSites (s : State) (f : Site → Site) : State := { s with sites := s.sites.map f }

/-- A pin cell. -/
def State.cell (s : State) (i : Fin 64) (c : Fin 8) : PinCell := (s.site i).cells[c.val]

/-- `s` with a pin cell changed. -/
def State.modCell (s : State) (i : Fin 64) (c : Fin 8) (f : PinCell → PinCell) : State :=
  s.modSite i fun t => { t with cells := vmod t.cells c f }

/-- A bridge unit. -/
def State.bridge (s : State) (i : Fin 64) (u : Fin 2) : Bridge := (s.site i).bridges[u.val]

/-- Time `t` lies `d` grains or more after `from_`. -/
def elapsed (from_ t : Time) (d : Nat) : Bool := decide ((d : Int) ≤ span from_ t)

/-- `l` with what held until `t` in front; what ended 10 µs before is forgotten. -/
def noteOld {α : Type} (l : List (Time × α)) (t : Time) (old : α) : List (Time × α) :=
  (t, old) :: l.filter fun e => !elapsed e.1 t 5120000

/-- What held at time `t`, of a thing that is `now` at present. -/
def heldAt {α : Type} (l : List (Time × α)) (now : α) (t : Time) : α :=
  match (l.filter fun e => before t e.1).getLast? with
  | some e => e.2
  | none => now

/-- The level is moving. -/
def Level.isMoving (l : Level) : Bool :=
  match l with
  | .still _ => false
  | .moving _ => true

/-- What a sample of the unit is tagged with at present (Table 8.6): SLEW_BUSY or RANGE_BUSY, LIMIT_ACTIVE, LOCAL_SENSE. -/
def Bridge.tags (b : Bridge) : UnitTags :=
  { disturbed := b.offset.isMoving || b.ampl.isMoving || b.range.isSome, limited := b.limit, localSense := b.localSense }

/-- A unit that was `old` until time `t`. -/
def Bridge.noted (b : Bridge) (t : Time) (old : Bridge) : Bridge :=
  if b.tags = old.tags then b else { b with hist := noteOld b.hist t old.tags }

/-- `s` with a bridge unit changed; what its samples were tagged with is remembered. -/
def State.modBridge (s : State) (i : Fin 64) (u : Fin 2) (f : Bridge → Bridge) : State :=
  s.modSite i fun t => { t with bridges := vmod t.bridges u fun b => (f b).noted s.clock b }

/-- `s` with the state machine of a site changed. -/
def State.modCtl (s : State) (i : Fin 64) (f : SiteCtl → SiteCtl) : State := s.modSite i fun t => { t with ctl := f t.ctl }

/-- `s` with a PSQ changed. -/
def State.modPsq (s : State) (i : Fin 64) (f : Psq → Psq) : State := s.modSite i fun t => { t with psq := f t.psq }

/-- `s` with an MSE changed. -/
def State.modMse (s : State) (i : Fin 64) (f : Mse → Mse) : State := s.modSite i fun t => { t with mse := f t.mse }

/-- `s` with the streams of a site changed. -/
def State.modStream (s : State) (i : Fin 64) (f : SiteStream → SiteStream) : State :=
  s.modSite i fun t => { t with stream := f t.stream }

/-- `s` with a Bushel changed. -/
def State.modBushel (s : State) (i : Fin 64) (f : Bushel → Bushel) : State :=
  s.modStream i fun t => { t with bushel := f t.bushel }

/-- `s` with the time-stamp unit of a site changed. -/
def State.modTdc (s : State) (i : Fin 64) (f : Tdc → Tdc) : State := s.modSite i fun t => { t with tdc := f t.tdc }

/-- `s` with a region changed. -/
def State.modRegion (s : State) (q : Fin 4) (f : Region → Region) : State := { s with regions := vmod s.regions q f }

/-- The region `q`. -/
def State.region (s : State) (q : Fin 4) : Region := s.regions[q.val]

/-- CAL_STALE of the two units of a site: the site is stale, or the unit's procedure has failed or never passed. -/
def SiteCal.staleUnits (c : SiteCal) : BitVec 2 := (if c.stale then 3 else 0) ||| c.failed.setWidth 2 ||| c.unproven

/-- A site's calibration that was `old` until time `t`. -/
def SiteCal.noted (c : SiteCal) (t : Time) (old : SiteCal) : SiteCal :=
  if c.staleUnits = old.staleUnits then c else { c with hist := noteOld c.hist t old.staleUnits }

/-- `s` with the calibration of a site changed; what its samples were tagged with is remembered. -/
def State.modCal (s : State) (i : Fin 64) (f : SiteCal → SiteCal) : State :=
  { s with cal := { s.cal with sites := vmod s.cal.sites i fun c => (f c).noted s.clock c } }

/-- The calibration of a site. -/
def State.siteCal (s : State) (i : Fin 64) : SiteCal := s.cal.sites[i.val]

/-- `s` with the thermal state of a site changed. -/
def State.modThermal (s : State) (i : Fin 64) (f : SiteThermal → SiteThermal) : State :=
  { s with thermal := { s.thermal with sites := vmod s.thermal.sites i f } }

/-- The thermal state of a site. -/
def State.siteThermal (s : State) (i : Fin 64) : SiteThermal := s.thermal.sites[i.val]

/-- Group `g` (1–15). -/
def State.group (s : State) (g : Nat) : Group := vgetN s.commit.groups (g - 1) Group.reset

/-- `s` with group `g` changed. -/
def State.modGroup (s : State) (g : Nat) (f : Group → Group) : State :=
  { s with commit := { s.commit with groups := vmodN s.commit.groups (g - 1) f } }

/-- `s` with a Furlong port changed. -/
def State.modPort (s : State) (p : Fin 2) (f : Port → Port) : State :=
  { s with furlong := { s.furlong with ports := vmod s.furlong.ports p f } }

/-- A Furlong port. -/
def State.port (s : State) (p : Fin 2) : Port := s.furlong.ports[p.val]

/-! ## Numbers -/

/-- The region of a site (R1). -/
def regionOf (i : Fin 64) : Fin 4 := ⟨i.val / 16, by omega⟩

/-- The local number of a site in its region. -/
def localOf (i : Fin 64) : Fin 16 := ⟨i.val % 16, by omega⟩

/-- The site of a region with a local number. -/
def siteAt (q : Fin 4) (k : Fin 16) : Fin 64 := ⟨16 * q.val + k.val, by omega⟩

/-- All sites, rising. -/
def allSites : List (Fin 64) := List.finRange 64

/-- The sites of a region, rising. -/
def sitesOf (q : Fin 4) : List (Fin 64) := (List.finRange 16).map (siteAt q)

/-- All cells of a site, rising. -/
def allCells : List (Fin 8) := List.finRange 8

/-- Both units of a site. -/
def allUnits : List (Fin 2) := [0, 1]

/-- `f` for each element in turn. -/
def State.forEach {α : Type} (s : State) (l : List α) (f : α → State → State) : State := l.foldl (fun s a => f a s) s

/-- SITE_STATE codes, Table 1.8. -/
def SiteState.code : SiteState → Nat
  | .off => 0 | .parked => 1 | .ready => 2 | .running => 3 | .cal => 4 | .safe => 5 | .fenced => 6

/-- CAUSE codes, Table 1.12. -/
def SiteCause.code : SiteCause → Nat
  | .reset => 0 | .request => 1 | .engineStart => 2 | .engineIdle => 3 | .calBegin => 4 | .calEnd => 5 | .fault => 6
  | .thermal => 7 | .recovery => 8 | .ack => 9 | .region => 10 | .chip => 11

/-- REQ_RESULT codes, Table 1.12. -/
def ReqResult.code : ReqResult → Nat
  | .none => 0 | .applied => 1 | .refusedPrepare => 2 | .groupFailed => 3 | .overriddenSafe => 4 | .inProgress => 5

/-- SRC of an Assize entry, Table 21.2. -/
def Source.code : Source → Nat
  | .iface .can => 0 | .iface .sps => 1 | .iface (.furlong _) => 2 | .iface .csv => 3 | .cal => 4 | .mse => 5
  | .mitten => 6 | .device => 7

/-! ## Free values and time -/

/-- `s` with one more free value drawn. -/
def State.drawn (s : State) : State := { s with freeCount := s.freeCount + 1 }

/-- The free value of `w` bits that `s` would draw next. -/
def State.fresh (s : State) (w : Nat) : BitVec w := Config.freeValue w s.freeCount

/-- A 64-bit time with its epoch's upper bits taken from `now`. -/
def timeOf64 (now : Time) (w : BitVec 64) : Time := BitVec.ofNat 68 (at_ (epochOf now / 4096) 64 + w.toNat)

/-- One CK_SEQ cycle in grains where the DCO divides to it (Table 0.5). -/
def seqGrains : Nat := 2560

/-- One REFCLK period in grains (R59). -/
def refGrains : Nat := 5120

/-- One CK_DSP cycle in grains. -/
def dspGrains : Nat := 640

/-- One CK_PAT cycle in grains. -/
def patGrains : Nat := 1280

/-- One CK_MOD cycle in grains. -/
def modGrains : Nat := 40000

/-- One millisecond in grains. -/
def msGrains : Nat := 512000000

/-- One microsecond in grains. -/
def usGrains : Nat := 512000

/-- The PLL is in ACQUIRE, or has lost the reference there and has not locked since (R73). -/
def Pll.relocking (p : Pll) : Bool := p.state == .acquire || p.state == .bypass || p.lostInAcquire

/-- CK_PAT, CK_DSP and CK_MOD run (Table 3.1): not in ECONOMY and not in ACQUIRE. -/
def State.fastClocks (s : State) : Bool := !s.pll.economy && !s.pll.relocking

/-- One CK_SEQ cycle in grains as it now runs (R7, Table 3.1): in ACQUIRE CK_SEQ is REFCLK. -/
def State.seqLen (s : State) : Nat := if s.pll.state = .acquire then refGrains else seqGrains

/-- One CK_HK cycle in grains as it now runs: CK_SEQ ÷ 62.5 from the DCO, REFCLK ÷ 32 in ACQUIRE (Table 3.1). -/
def State.hkLen (s : State) : Nat := if s.pll.state = .acquire then 32 * refGrains else 160000

/-- The latest edge at or before `t` of a clock with a period of `n` grains; edges lie at multiples of the period (log entry
101). -/
def edgeAt (n : Nat) (t : Time) : Time := addGrains t (-((t.toNat % n : Nat) : Int))

/-- The first edge at or after `t` of a clock with a period of `n` grains. -/
def edgeFrom (n : Nat) (t : Time) : Time := addGrains t (((n - t.toNat % n) % n : Nat) : Int)

/-- The start of the CK_SEQ cycle that holds `t`. -/
def State.cycleAt (s : State) (t : Time) : Time := edgeAt s.seqLen t

/-- The start of the present CK_SEQ cycle. -/
def State.cycle (s : State) : Time := s.cycleAt s.clock

/-- The start of the CK_SEQ cycle `n` cycles on. -/
def State.cyclesOn (s : State) (n : Nat) : Time := addGrains s.cycle (n * s.seqLen : Nat)

/-- The start of the cycle in which a scheduled group applies. -/
def State.dueCycle (s : State) (r : Group) : Option Time :=
  if r.state = .scheduled then
    match r.due with
    | some (.asap c) => some c
    | some (.at t) => some (s.cycleAt t)
    | none => none
  else none

/-- A scheduled group's apply cycle has begun. -/
def State.groupDue (s : State) (r : Group) : Bool :=
  match s.dueCycle r with
  | some c => !before s.clock c
  | none => false

/-- A group that meets `p` applies in the present CK_SEQ cycle, or is overdue. -/
def State.dueNow (s : State) (p : List (Nat × Nat) → Bool) : Bool := s.commit.groups.any fun r => p r.entries && s.groupDue r

/-- A group that has been applied in the present CK_SEQ cycle: it reads COMMITTED from the next cycle on (R295, Table 13.2). -/
def State.applying (s : State) (r : Group) : Bool := r.state == .committed && r.applyCycle == some s.cycle

/-! ## Answers -/

/-- `s` with the answer of an access. -/
def State.answered (s : State) (i : Iface) (dstat : Nat) (words : List Word) : State :=
  { s with answer := some { iface := i, dstat := dstat, words := words } }

/-! ## Where a site stands -/

/-- The state of a site. -/
def State.siteState (s : State) (i : Fin 64) : SiteState := (s.site i).ctl.state

/-- The site is OFF, or its POWER_UP is in progress (R471). -/
def State.siteDark (s : State) (i : Fin 64) : Bool := s.siteState i == .off

/-- Every site is OFF or PARKED (R33). -/
def State.allParked (s : State) : Bool := s.sites.all fun t => t.ctl.state == .off || t.ctl.state == .parked

/-- The units and cells of the site drive its balls: READY, RUNNING, CAL or SAFE. -/
def SiteState.connected : SiteState → Bool
  | .ready => true | .running => true | .cal => true | .safe => true | _ => false

/-- A transition of Table 1.9: the new state with its cause at time `t`. -/
def SiteCtl.goto (c : SiteCtl) (st : SiteState) (cause : SiteCause) (t : Time) : SiteCtl :=
  { c with prev := c.state, state := st, cause := cause, tLast := time64 t, hist := noteOld c.hist t c.state }

/-- The state that a site held at time `t`, up to 10 µs ago. -/
def State.siteStateAt (s : State) (i : Fin 64) (t : Time) : SiteState := heldAt (s.site i).ctl.hist (s.siteState i) t

end Sys2Proof.Machine
end

