-- ==== Sys2Proof/Machine/Link.lean ====
section
/-! DEFINITION. The chip's own packets on their way to a Furlong egress port (R317, R318, R324), EMCY messages on their way
to the CAN bus (R344), and records on their way to RNVM (R449). -/
namespace Sys2Proof.Machine

/-! ## Own packets -/

/-- The other port. -/
def otherPort (p : Fin 2) : Fin 2 := if p = 0 then 1 else 0

/-- A port that carries packets. -/
def Port.carries (p : Port) : Bool := p.state == .active || p.state == .bypass

/-- DEST lies inside REACH. -/
def State.reaches (s : State) (dest : Nat) : Bool :=
  s.furlong.reachLo.toNat ≤ dest && decide (dest ≤ s.furlong.reachHi.toNat)

/-- The egress port of a unicast to `dest` (R324): the side of DEST in address order, else the host port in force. -/
def State.egressOf (s : State) (dest : Nat) : Fin 2 :=
  if s.reaches dest then (if s.furlong.addr.toNat < dest then otherPort s.furlong.enumPort else s.furlong.enumPort)
  else s.furlong.hostPort

/-- The class of a packet type (Tables 1.7 and 14.4), 1 highest. -/
def classOf (type : Nat) : Nat :=
  match type with
  | 4 => 1 | 5 => 1 | 3 => 2 | 2 => 3 | 6 => 4 | _ => 5

/-- The virtual channel of a packet type (Table 14.2). -/
def vcOf (type : Nat) : Fin 3 :=
  match type with
  | 4 => 0 | 5 => 0 | 2 => 1 | 3 => 1 | 6 => 1 | _ => 2

/-- The fields of H0 (Table 14.3). -/
def Packet.dest (p : Packet) : Nat := field p.h0.toNat 63 48
def Packet.src (p : Packet) : Nat := field p.h0.toNat 47 32
def Packet.type (p : Packet) : Nat := field p.h0.toNat 31 29
def Packet.rev (p : Packet) : Bool := p.h0.getLsbD 28
def Packet.site (p : Packet) : Nat := field p.h0.toNat 27 22
def Packet.length (p : Packet) : Nat := field p.h0.toNat 17 10

/-- The words of a packet with header and trailer. -/
def Packet.words (p : Packet) : Nat := p.payload.length + 2

/-- H0 of a packet of this chip. -/
def headerOf (dest src type site epoch len seq : Nat) : BitVec 64 :=
  BitVec.ofNat 64 (at_ dest 48 + at_ src 32 + at_ type 29 + at_ site 22 + at_ (epoch % 16) 18 + at_ len 10 + seq % 1024)

/-- The next SEQ of a type and site. -/
def State.seqOf (s : State) (type site : Nat) : BitVec 10 := sparseGet s.furlong.seqs (type * 64 + site) 0

/-- `s` with that SEQ taken. -/
def State.tookSeq (s : State) (type site : Nat) : State :=
  { s with furlong := { s.furlong with
      seqs := sparseSet s.furlong.seqs (type * 64 + site) (s.seqOf type site + 1) 0 } }

/-- A link control block of a type with content [55:0] (Table 14.1). -/
def ctlBlock (type content : Nat) : TxBlock := .ctl (BitVec.ofNat 64 (at_ type 56 + content % 2 ^ 56))

/-- A port sends a block. -/
def State.sendBlock (s : State) (p : Fin 2) (b : TxBlock) : State := s.modPort p fun q => { q with out := q.out ++ [b] }

/-- A port returns credits as words leave its receive buffer (R315). -/
def State.sendCredit (s : State) (p : Fin 2) (vc : Fin 3) (words : Nat) : State :=
  s.sendBlock p (ctlBlock 0x83 (at_ vc.val 54 + at_ words 40))

/-- The words of a waiting packet leave the receive buffer that holds them. -/
def State.released (s : State) (w : TxWait) : State :=
  match w.held with
  | some p => s.sendCredit p (vcOf w.packet.type) w.packet.words
  | none => s

/-- A packet is discarded and counted at a port (R324). -/
def State.dropAt (s : State) (p : Fin 2) (w : TxWait) : State :=
  (s.modPort p fun q => { q with dropped := q.dropped + 1 }).released w

/-- Puts a packet before an egress port, or drops and counts it where the port carries none: host-bound stream packets are
held (R329), everything else is discarded and counted in DROPPED (R324). -/
def State.toPort (s : State) (p : Fin 2) (w : TxWait) : State :=
  if (s.port p).carries || classOf w.packet.type == 5 then s.modPort p fun q => { q with txWait := q.txWait ++ [w] }
  else s.dropAt p w

/-- Sends a packet of this chip: a broadcast on both ports, a unicast towards DEST. `stamp` serves SYNC packets (R328). -/
def State.sendStamped (s : State) (type site epoch dest : Nat) (payload : List (BitVec 64)) (stamp : Time) : State :=
  let p : Packet :=
    { h0 := headerOf dest s.furlong.addr.toNat type site epoch payload.length (s.seqOf type site).toNat,
      payload := payload, stomp := false }
  let w : TxWait := { through := false, packet := p, held := none, stamp := stamp }
  let s := s.tookSeq type site
  if dest = 0xFFFF then (s.toPort 0 w).toPort 1 w else s.toPort (s.egressOf dest) w

/-- Sends a packet that carries no stamp. -/
def State.sendPacket (s : State) (type site epoch dest : Nat) (payload : List (BitVec 64)) : State :=
  s.sendStamped type site epoch dest payload 0

/-- Sends a chip packet in the epoch in force. -/
def State.sendChip (s : State) (type dest : Nat) (payload : List (BitVec 64)) : State :=
  s.sendPacket type 0 (epochOf s.clock) dest payload

/-! ## EMCY -/

/-- The EMCY of a bus-off is owed, before the queue, once the node has recovered (R345). -/
def State.oweEmcy (s : State) (code : Nat) (errReg : Nat) (message time : BitVec 64) : State :=
  { s with can := { s.can with
      busOffEmcy := some { code := BitVec.ofNat 16 code, errReg := BitVec.ofNat 8 errReg, message := message, time := time },
      history := (BitVec.ofNat 32 code :: s.can.history).take 8 } }

/-- Queues an EMCY (R344): 8 messages at most; the codes of the 8 most recent stand in 0x1003. -/
def State.pushEmcy (s : State) (code : Nat) (errReg : Nat) (message time : BitVec 64) : State :=
  if s.can.emcyQueue.length < 8 then
    { s with can := { s.can with
        emcyQueue := s.can.emcyQueue ++ [{ code := BitVec.ofNat 16 code, errReg := BitVec.ofNat 8 errReg, message := message,
                                           time := time }],
        history := (BitVec.ofNat 32 code :: s.can.history).take 8 } }
  else { s with can := { s.can with emcyLost := satInc 0xFFFF s.can.emcyLost } }

/-! ## Records that wait for RNVM -/

/-- A record write joins the queue for RNVM (R449, R27). -/
def State.queueNvm (s : State) (j : NvmJob) : State := { s with nvm := { s.nvm with jobs := s.nvm.jobs ++ [j] } }

/-- A Gauntlet event-log entry waits for RNVM; at most 16 do, a further one is dropped and counted (R394). -/
def State.queueEvent (s : State) (e : BitVec 256) : State :=
  if (s.nvm.jobs.filter fun j => match j with | .event _ => true | _ => false).length < 16 then s.queueNvm (.event e)
  else { s with gauntlet := { s.gauntlet with nvDrops := satInc 0xFFFF s.gauntlet.nvDrops } }

end Sys2Proof.Machine
end

