-- ==== Sys2Proof/Machine/Stream.lean ====
section
/-! DEFINITION. The stream mark inserter (R18, R281, R282) and the result grid it reads (R181); the passage of time, which
marks the epochs it enters (R82). -/
namespace Sys2Proof.Machine

/-- D of Table 8.4 by RATE: sinc⁴ outputs in one result period. -/
def rateD (rate : Nat) : Nat :=
  [20000, 10000, 4000, 2000, 1000, 400, 200, 100, 40, 20, 10, 4, 2].getD rate 20000

/-- The sinc⁴ output period of 5 µs, in grains. -/
def sincGrains : Nat := 2560000

/-- BU_ADC_CFG of a unit. -/
def State.adcCfg (s : State) (i : Fin 64) (u : Fin 2) : Nat := s.siteCfg i 0x85 (u.val + 1)

/-- The index of the first result whose centre lies at or after `t`; 0 when the unit is not acquiring (Table 12.6). -/
def State.markSeq (s : State) (i : Fin 64) (u : Fin 2) (t : Time) : BitVec 16 :=
  let b := s.bridge i u
  let p : Int := (rateD (field (s.adcCfg i u) 15 12) * sincGrains : Nat)
  match b.acq with
  | .stopped => 0
  | .starting => 1
  | _ => BitVec.ofInt 16 (max 1 ((span b.tStart t + p - 1) / p))

/-- VEC of a mark: the count of the vector whose period holds `t`; 0xFFFF when the PSQ is not in RUN. -/
def State.markVec (s : State) (i : Fin 64) (t : Time) : BitVec 16 :=
  let p := (s.site i).psq
  if p.state = .run then (if before t p.zero then p.vectors.setWidth 16 - 1 else p.vectors.setWidth 16) else 0xFFFF

/-- MARKS ENABLE, and the MARK_EN bit of the kind; LOST (0x0E) cannot be disabled. -/
def State.markEnabled (s : State) (i : Fin 64) (kind : Nat) : Bool :=
  bitOf (s.siteCfg i 0xE4 1) 2 && (kind == 0x0E || bitOf (s.siteCfg i 0xE4 2) kind)

/-- A mark as the inserter forms it. -/
def State.mark (s : State) (i : Fin 64) (kind : Nat) (t : Time) (arg : Nat) : Mark :=
  { kind := kind, seqB1 := s.markSeq i 1 t, seqB0 := s.markSeq i 0 t, vec := s.markVec i t, time := time64 t,
    arg := BitVec.ofNat 64 arg }

/-- A LOST mark with the pending loss count is queued as soon as the queue has room for two marks (R282). -/
def State.lostMark (s : State) (i : Fin 64) : State :=
  let n := (s.site i).stream.lossPending
  if n ≠ 0 ∧ (s.site i).stream.marks.length ≤ 30 then
    if s.markEnabled i 0x0E then
      s.modStream i fun m => { m with marks := m.marks ++ [s.mark i 0x0E s.clock n], lossPending := 0 }
    else s.modStream i fun m => { m with lossPending := 0 }
  else s

/-- Queues a mark in a site's MARKS stream (R281), after a LOST mark that is owed; one that finds the 32 places taken is lost
and counted (R282). -/
def State.queueMark (s : State) (i : Fin 64) (kind : Nat) (t : Time) (arg : Nat) : State :=
  if s.markEnabled i kind then
    let s := s.lostMark i
    if (s.site i).stream.marks.length < 32 then
      s.modStream i fun m => { m with marks := m.marks ++ [s.mark i kind t arg] }
    else
      s.modStream i fun m => { m with markLost := satInc 0xFFFFFFFF m.markLost, lossPending := satInc 0xFFFFFFFF m.lossPending }
  else s

/-- Queues a mark in every site. -/
def State.markAll (s : State) (kind : Nat) (t : Time) (arg : Nat) : State :=
  s.forEach allSites fun i s => s.queueMark i kind t arg

/-- An EPOCH packet (Table 14.4). -/
def State.epochPacket (s : State) : State := s.sendChip 7 0 [BitVec.ofNat 64 (epochOf s.clock)]

/-- The grain count wraps (R82): the time base stands at the start of the next epoch, with EPOCH marks and an EPOCH packet. -/
def State.epochWrap (s : State) : State :=
  let s := { s with clock := BitVec.ofNat 68 ((epochOf s.clock + 1) * 2 ^ 52) }
  (s.markAll 0x01 s.clock (epochOf s.clock)).epochPacket

/-- `n` wraps one after another. -/
def State.epochWraps (s : State) : Nat → State
  | 0 => s
  | n + 1 => s.epochWrap.epochWraps n

/-- `s` with its time base at `t`, when that is later; each epoch that it enters on the way is marked. -/
def State.advance (s : State) (t : Time) : State :=
  if before s.clock t then
    { s.epochWraps ((epochOf t + 65536 - epochOf s.clock) % 65536) with clock := t }
  else s

/-- The three words of a mark (Table 12.6). -/
def Mark.words (m : Mark) : List (BitVec 64) :=
  [BitVec.ofNat 64 (at_ 0xC0 56 + at_ m.kind 48 + at_ m.seqB1.toNat 32 + at_ m.seqB0.toNat 16 + m.vec.toNat), m.time, m.arg]

end Sys2Proof.Machine
end

