-- ==== Sys2Proof/Machine/Cells.lean ====
section
/-! DEFINITION. Slewed quantities (R86, R156) and the pin cells: levels, drivers, PPMU, sticky flags, edges at the pad
(chapters 04 and 05). -/
namespace Sys2Proof.Machine

/-! ## Slewed quantities -/

/-- Whole CK_SEQ cycles of a move at time `t`. -/
def Slew.cycles (m : Slew) (t : Time) : Nat := (span m.t0 t).toNat / max m.cyc 1

/-- Steps made at time `t`: the first one CK_SEQ cycle after `t0`, then one every `rate` cycles. -/
def Slew.steps (m : Slew) (t : Time) : Nat :=
  if m.cycles t = 0 then 0 else 1 + (m.cycles t - 1) / max m.rate 1

/-- Cycles from the one that holds `t` to the next step. -/
def Slew.wait (m : Slew) (t : Time) : Nat :=
  (if m.steps t = 0 then 1 else 1 + m.steps t * max m.rate 1) - m.cycles t

/-- The code at time `t`. -/
def Slew.code (m : Slew) (t : Time) : Int :=
  let d := min (m.target - m.start).natAbs (m.steps t * m.step)
  if m.start ≤ m.target then m.start + d else m.start - d

/-- The steps of the whole move. -/
def Slew.total (m : Slew) : Nat := ((m.target - m.start).natAbs + m.step - 1) / max m.step 1

/-- The time of the last step. -/
def Slew.endTime (m : Slew) : Time := addGrains m.t0 ((1 + (m.total - 1) * m.rate) * m.cyc : Nat)

/-- The cycle after the last step, in which the move reads as ended (Table 4.2). -/
def Slew.restTime (m : Slew) : Time := addGrains m.endTime (m.cyc : Nat)

/-- The code of a level at time `t`. -/
def Level.code (l : Level) (t : Time) : Int :=
  match l with
  | .still c => c
  | .moving m => m.code t

/-- The code a level stands at or moves to. -/
def Level.goal (l : Level) : Int :=
  match l with
  | .still c => c
  | .moving m => m.target

/-- Turns a level towards a target from where it stands at the start `t` of a CK_SEQ cycle of `cyc` grains. -/
def Level.moveTo (l : Level) (target : Int) (step rate cyc : Nat) (t : Time) : Level :=
  if l.code t = target then .still target
  else .moving { start := l.code t, target := target, step := step, rate := rate, t0 := t, cyc := cyc }

/-- A new STEP and RATE, or a new length of the CK_SEQ cycle, for the steps of a move that are left: the next step keeps its
cycle. -/
def Level.retimed (l : Level) (step rate cyc : Nat) (t : Time) : Level :=
  match l with
  | .still c => .still c
  | .moving m =>
    .moving { start := m.code t, target := m.target, step := step, rate := rate, cyc := cyc,
              t0 := addGrains t (((m.wait t : Nat) - 1 : Int) * (cyc : Nat)) }

/-- The move of a level whose CK_SEQ cycle takes another length. -/
def Level.reclocked (l : Level) (cyc : Nat) (t : Time) : Level :=
  match l with
  | .still c => .still c
  | .moving m => l.retimed m.step m.rate cyc t

/-- A level at the end of its move. -/
def Level.done (l : Level) : Level := .still l.goal

/-- The time at which a move stands at its target. -/
def Level.endTime (l : Level) (t : Time) : Time :=
  match l with
  | .still _ => t
  | .moving m => m.endTime

/-- The time from which a move reads as ended. -/
def Level.restTime (l : Level) (t : Time) : Time :=
  match l with
  | .still _ => t
  | .moving m => m.restTime

/-- The level reads as moving at time `t`. -/
def Level.busy (l : Level) (t : Time) : Bool :=
  match l with
  | .still _ => false
  | .moving m => before t m.restTime

/-- A level turned towards a target in the present CK_SEQ cycle. -/
def State.levelTo (s : State) (l : Level) (target : Int) (step rate : Nat) : Level := l.moveTo target step rate s.seqLen s.cycle

/-! ## Settings of a cell -/

/-- PC_LEVELS, PC_THRESH, PC_MODE and PC_PPMU of a cell. -/
def State.pcLevels (s : State) (i : Fin 64) (c : Fin 8) : Nat := s.siteCfg i 0x20 (c.val + 1)
def State.pcThresh (s : State) (i : Fin 64) (c : Fin 8) : Nat := s.siteCfg i 0x21 (c.val + 1)
def State.pcMode (s : State) (i : Fin 64) (c : Fin 8) : Nat := s.siteCfg i 0x22 (c.val + 1)
def State.pcPpmu (s : State) (i : Fin 64) (c : Fin 8) : Nat := s.siteCfg i 0x23 (c.val + 1)

/-- OWNER = PPMU. -/
def State.ppmuOwns (s : State) (i : Fin 64) (c : Fin 8) : Bool := field (s.pcMode i c) 1 0 == 1

/-- STEP of Table 4.1. -/
def State.levelStep (s : State) (i : Fin 64) (c : Fin 8) : Nat := [400, 40, 4].getD (field (s.pcMode i c) 9 8) 400

/-- PC_MODE.IDLE. -/
def idleState (mode : Nat) : DrvState :=
  match field mode 3 2 with
  | 0 => .z | 1 => .vil | 2 => .vih | _ => .vtt

/-- PC_MODE.SAFE. -/
def safeState (mode : Nat) : DrvState :=
  match field mode 5 4 with
  | 1 => .vil | 2 => .vtt | _ => .z

/-- DRV_STATE codes, Table 4.12. -/
def DrvState.code : DrvState → Nat
  | .z => 0 | .vil => 1 | .vih => 2 | .vtt => 3 | .ppmu => 4

/-! ## The driver at the pad -/

/-- The driver state after every transition kept. -/
def PinCell.last (c : PinCell) : DrvState :=
  match c.recent with
  | [] => c.base
  | a :: _ => a.st

/-- The driver state at the pad at time `t`. -/
def PinCell.drvAt (c : PinCell) (t : Time) : DrvState :=
  match c.recent.find? fun p => !before t p.t with
  | some p => p.st
  | none => c.base

/-- Adds a transition; two are kept. -/
def PinCell.push (c : PinCell) (p : DrvChange) : PinCell :=
  match c.recent with
  | [] => { c with recent := [p] }
  | a :: rest => { c with base := (match rest with | [] => c.base | b :: _ => b.st), recent := [p, a] }

/-- The state that the ball takes at the end of the gap of an OWNER change (R96). -/
def PinCell.afterGap (c : PinCell) (st : DrvState) : PinCell :=
  let c := { c with recent := c.recent.filter fun p => before p.t c.undriven }
  if c.last = st then c else c.push ⟨c.undriven, st, false⟩

/-- A driver change that no timing-set edge makes, at time `t` (R113): it waits until 640 grains after the last transition
made at the pad; edges still to come are dropped. Nothing drives the ball in the gap of an OWNER change (R96). -/
def PinCell.change (c : PinCell) (t : Time) (st : DrvState) : PinCell :=
  if st ≠ .z ∧ before t c.undriven then c.afterGap st
  else
    let c := { c with recent := c.recent.filter fun p => !before t p.t }
    if c.last = st then c
    else
      match c.recent with
      | [] => c.push ⟨t, st, false⟩
      | a :: _ => c.push ⟨laterOf t (addGrains a.t 640), st, false⟩

/-- A used drive edge at pad time `t` to `st`, with the collision rule of R112; with a collision, the pad time of the edge that
it cancels. Within the gap of an OWNER change the state is taken at the end of the gap (R96). An edge less than 640 grains
after a change that comes from no edge is made 640 grains after that change (DESIGN CHOICE, log entry 605). -/
def PinCell.edge (c : PinCell) (t : Time) (st : DrvState) : PinCell × Option Time :=
  if before t c.undriven then (c.afterGap st, none)
  else if c.last = st then (c, none)
  else
    match c.recent with
    | [] => (c.push ⟨t, st, true⟩, none)
    | a :: rest =>
      if span a.t t < 640 then
        if a.edge then
          let c' := { c with recent := rest }
          ((if c'.last = st then c' else c'.push ⟨t, st, true⟩), some a.t)
        else (c.push ⟨addGrains a.t 640, st, true⟩, none)
      else (c.push ⟨t, st, true⟩, none)

/-- A collision in the CK_SEQ cycle `cy` (R114): after a clear of that cycle COUNT reads 1. -/
def PinCell.collided (c : PinCell) (cy : Time) : PinCell :=
  { c with collision := true, collCount := satInc 65535 c.collCount, collAt := some cy }

/-! ## PPMU -/

/-- A sticky flag of PC_STATUS is caused in the CK_SEQ cycle `cy`. -/
def PinCell.setFlag (c : PinCell) (cy : Time) (bit : Nat) : PinCell :=
  { c with flags := c.flags ||| (1#10 <<< bit),
           caused := (cy, (if c.caused.1 = cy then c.caused.2 else 0) ||| (1#10 <<< bit)) }

/-- A measurement in progress ends with ERR = ABORTED; PC_MEAS keeps the previous RESULT (R100), and SAMPLES, QTY and LIMITED
with it (DESIGN CHOICE, log entry 403). -/
def PinCell.abortMeas (c : PinCell) (cy : Time) : PinCell :=
  match c.meas with
  | none => c
  | some _ => { c.setFlag cy 8 with meas := none, err := 3 }

/-- A connected PPMU is disconnected, a measurement in progress aborted; one that waits for its PPMU's connection goes on
waiting. -/
def PinCell.disconnect (c : PinCell) (cy : Time) : PinCell :=
  if c.connected then { c.abortMeas cy with connected := false, limited := false, held := none } else c

/-- Measurements in progress in a site end ABORTED. -/
def State.abortMeas (s : State) (i : Fin 64) : State :=
  s.forEach allCells fun c s => s.modCell i c fun q => q.abortMeas s.cycle

/-- Multiplier of a throttle step in hundredths (Table 17.3). -/
def throttleMul (step : Nat) : Nat := [100, 84, 71, 59, 50, 42, 35, 30, 25].getD step 25

/-- The larger of the thermal step and the budget step (R371). -/
def State.throttleStep (s : State) (i : Fin 64) : Nat := max (s.siteThermal i).step (s.siteThermal i).budgetStep

/-- The PPMU current of a setpoint in steps of 62.5 pA, in a range. -/
def ppmuCurrent (setpoint : Int) (range : Nat) : Int := setpoint * (10 ^ range : Nat)

/-- The current limit of a PPMU in steps of 62.5 pA (R98): full scale of IRANGE times the multiplier of the throttle step. In a
range switch it is that of the range being connected (DESIGN CHOICE, log entry 404). -/
def State.ppmuMax (s : State) (i : Fin 64) (c : Fin 8) : Int :=
  ppmuCurrent (320 * throttleMul (s.throttleStep i) : Nat) (field (s.pcPpmu i c) 4 2)

/-- The current a PPMU in FI is to deliver, before its limit: the held one in a range switch (R97, R101), else the setpoint. -/
def State.ppmuWanted (s : State) (i : Fin 64) (c : Fin 8) : Option Int :=
  let p := s.pcPpmu i c
  match (s.cell i c).held with
  | some h => if h.current then some h.value else none
  | none => if field p 1 0 = 1 then some (ppmuCurrent (toInt (field p 31 16) 16) (field p 4 2)) else none

/-- In FI the throttle limit lies below what the PPMU is to deliver (R98). -/
def State.ppmuOverLimit (s : State) (i : Fin 64) (c : Fin 8) : Bool :=
  match s.ppmuWanted i c with
  | some v => decide (s.ppmuMax i c < v.natAbs)
  | none => false

/-- The current a PPMU in FI delivers. -/
def State.ppmuOut (s : State) (i : Fin 64) (c : Fin 8) : Option Int :=
  (s.ppmuWanted i c).map fun v => clampInt (-(s.ppmuMax i c)) (s.ppmuMax i c) v

/-- The limit as the present throttle step makes it, on a connected PPMU. -/
def State.ppmuLimit (s : State) (i : Fin 64) (c : Fin 8) : State :=
  if (s.cell i c).connected && s.ppmuOverLimit i c then s.modCell i c fun p => { p.setFlag s.cycle 7 with limited := true }
  else s.modCell i c fun p => { p with limited := false }

/-- PPMU connects at its setpoint (R96); one that is connected stays as it is. -/
def State.ppmuConnect (s : State) (i : Fin 64) (c : Fin 8) : State :=
  if (s.cell i c).connected then s
  else
    let p := s.pcPpmu i c
    let s := s.modCell i c fun q =>
      { q with connected := true, force := if field p 1 0 = 0 then .still (field p 31 16) else q.force }
    s.ppmuLimit i c

/-- The site entered SAFE in the present CK_SEQ cycle (R21). -/
def State.safeNow (s : State) (i : Fin 64) : Bool :=
  let c := (s.site i).ctl
  c.state == .safe && s.cycleAt (timeOf64 s.clock c.tLast) == s.cycle

/-! ## A cell in a site state (Table 4.3) -/

/-- READY, or a halt in RUNNING: IDLE, or the PPMU when it owns the cell. -/
def State.cellIdle (s : State) (i : Fin 64) (t : Time) (c : Fin 8) : State :=
  if s.ppmuOwns i c then (s.modCell i c fun q => q.change t .ppmu).ppmuConnect i c
  else s.modCell i c fun q => { q.change t (idleState (s.pcMode i c)) with pattern := idleState (s.pcMode i c) }

/-- A pin calibration has taken the cells of the site off their balls (Table 4.3): from a pin procedure on, until the site leaves
CAL (R410). -/
def State.pinsHeld (s : State) (i : Fin 64) : Bool := s.siteState i == .cal && (s.siteCal i).pinsOut

/-- The driver of a PATTERN cell takes IDLE at `t`; a PPMU keeps its cell (R87, R146), and a calibration its cells. -/
def State.cellHalt (s : State) (i : Fin 64) (t : Time) (c : Fin 8) : State :=
  if s.ppmuOwns i c ∨ s.pinsHeld i then s.modCell i c fun q => { q with pattern := idleState (s.pcMode i c) }
  else s.modCell i c fun q => { q.change t (idleState (s.pcMode i c)) with pattern := idleState (s.pcMode i c) }

/-- SAFE: PC_MODE.SAFE, PPMU disconnected (R87). -/
def State.cellSafe (s : State) (i : Fin 64) (t : Time) (c : Fin 8) : State :=
  s.modCell i c fun q => (q.disconnect s.cycle).change t (safeState (s.pcMode i c))

/-- PARKED, FENCED, OFF, or a pin calibration: Z, PPMU disconnected. -/
def State.cellZ (s : State) (i : Fin 64) (t : Time) (c : Fin 8) : State :=
  s.modCell i c fun q => (q.disconnect s.cycle).change t .z

/-- The levels of a cell at the codes its objects hold, as after a power-up. -/
def State.cellPowered (s : State) (i : Fin 64) (c : Fin 8) : State :=
  let l := s.pcLevels i c
  s.modCell i c fun _ => { PinCell.reset with
    vih := .still (field l 15 0), vil := .still (field l 31 16), vtt := .still (field l 47 32) }

/-! ## Committed writes to a cell -/

/-- A level in use at the ball of a SAFE site moves only when the site has left SAFE (R21). -/
def State.levelHeld (s : State) (i : Fin 64) (q : PinCell) (st : DrvState) : Bool := s.siteState i == .safe && q.last == st

/-- The levels of a cell turn to the codes that PC_LEVELS holds (R86). -/
def State.applyLevels (s : State) (i : Fin 64) (c : Fin 8) : State :=
  let l := s.pcLevels i c
  let st := s.levelStep i c
  let mv (q : PinCell) (d : DrvState) (x : Level) (code : Nat) : Level :=
    if x.goal = code ∨ s.levelHeld i q d then x else s.levelTo x code st 1
  s.modCell i c fun q =>
    { q with vih := mv q .vih q.vih (field l 15 0), vil := mv q .vil q.vil (field l 31 16), vtt := mv q .vtt q.vtt (field l 47 32) }

/-- The level DACs of a site that has left SAFE go where their codes say (R21). -/
def State.siteLevels (s : State) (i : Fin 64) : State := s.forEach allCells fun c s => s.applyLevels i c

/-- A level DAC or the PPMU force voltage of a cell is moving at time `t` (LEVEL_BUSY). -/
def PinCell.levelBusy (c : PinCell) (t : Time) : Bool := c.vih.busy t || c.vil.busy t || c.vtt.busy t || c.force.busy t

/-- The moves of a cell whose CK_SEQ cycle takes another length. -/
def PinCell.reclocked (c : PinCell) (cyc : Nat) (t : Time) : PinCell :=
  { c with vih := c.vih.reclocked cyc t, vil := c.vil.reclocked cyc t, vtt := c.vtt.reclocked cyc t,
           force := c.force.reclocked cyc t }

/-- The drivers and PPMUs of the site follow OWNER. -/
def State.ownersLive (s : State) (i : Fin 64) : Bool :=
  (s.siteState i).connected && s.siteState i != .safe && !s.pinsHeld i

/-- The state a driver takes under OWNER = PATTERN: that of the drive codes executed so far, or IDLE when the PSQ is not
running (R96). -/
def State.patternState (s : State) (i : Fin 64) (c : Fin 8) : DrvState :=
  if (s.site i).psq.state = .idle then idleState (s.pcMode i c) else (s.cell i c).pattern

/-- OWNER changed (R96): the ball is undriven for 10 ns, then the new owner drives it. -/
def State.applyOwner (s : State) (i : Fin 64) (c : Fin 8) : State :=
  let s := s.modCell i c fun q => q.abortMeas s.cycle
  if !s.ownersLive i then s
  else
    let later := addGrains s.clock (2 * s.seqLen : Nat)
    let gap (s : State) (st : DrvState) : State :=
      s.modCell i c fun q => { q.change s.clock .z with undriven := later }.afterGap st
    if s.ppmuOwns i c then (gap s .ppmu).ppmuConnect i c
    else gap (s.modCell i c fun q => q.disconnect s.cycle) (s.patternState i c)

/-- A driver or a PPMU returns to the ball after a pin calibration (R410): what has been connected stays as it is. -/
def State.cellReturn (s : State) (i : Fin 64) (t : Time) (c : Fin 8) : State :=
  if s.ppmuOwns i c then s.cellIdle i t c else s.modCell i c fun q => q.change t (s.patternState i c)

/-- LVL_SLEW changed: the steps left use the new STEP (R86). -/
def State.applyLevelSlew (s : State) (i : Fin 64) (c : Fin 8) : State :=
  let f (l : Level) : Level := l.retimed (s.levelStep i c) 1 s.seqLen s.cycle
  s.modCell i c fun q => { q with vih := f q.vih, vil := f q.vil, vtt := f q.vtt, force := f q.force }

/-- IDLE changed while the cell stands at it; a new SAFE setting moves nothing in a site that is SAFE (R21). -/
def State.applyIdleSafe (s : State) (i : Fin 64) (c : Fin 8) : State :=
  let halted := s.siteState i = .ready ∨ ((s.siteState i = .running ∨ s.siteState i = .cal) ∧ (s.site i).psq.state = .idle)
  if halted ∧ ¬ s.pinsHeld i ∧ ¬ s.ppmuOwns i c then s.modCell i c fun q => q.change s.clock (idleState (s.pcMode i c)) else s

/-- LVL_SLEW, and OWNER or else IDLE, changed: after an OWNER change the driver takes the new IDLE once its gap is over. -/
def State.applyMode (s : State) (i : Fin 64) (c : Fin 8) (old : Nat) : State :=
  let new := s.pcMode i c
  let s := if field old 9 8 ≠ field new 9 8 then s.applyLevelSlew i c else s
  if field old 1 0 ≠ field new 1 0 then s.applyOwner i c
  else if field old 5 2 ≠ field new 5 2 then s.applyIdleSafe i c
  else s

/-- The value nearest `v` that ranges `a` and `b` can both represent (R97), in steps of 62.5 pA. Of two values equally near the
higher is taken (DESIGN CHOICE, log entry 404). -/
def ppmuHold (v : Int) (a b : Nat) : Int :=
  let unit : Int := (10 ^ max a b : Nat)
  let lim : Int := 32000 * (10 ^ min a b : Nat)
  clampInt (-(lim / unit * unit)) (lim / unit * unit) ((2 * v + unit) / (2 * unit) * unit)

/-- The PPMU drives the ball: it is connected, and the gap of its OWNER change is over. -/
def State.ppmuOn (s : State) (i : Fin 64) (c : Fin 8) : Bool :=
  (s.cell i c).connected && !before s.clock (s.cell i c).undriven

/-- What a range switch of a driving PPMU holds (R97), with PC_PPMU as `old` before it: the present current in FI, the present
level in FV. -/
def State.ppmuHeld (s : State) (i : Fin 64) (c : Fin 8) (old : Nat) : PpmuHold :=
  let before_ := s.setVal (siteAddr i 0x23 (c.val + 1)) old
  match before_.ppmuOut i c with
  | some v => { current := true, value := ppmuHold v (field old 4 2) (field (s.pcPpmu i c) 4 2) }
  | none => { current := false, value := (s.cell i c).force.code s.cycle }

/-- PC_PPMU applied: `old` is the value before. A change of FORCE, IRANGE, SETPOINT, MQTY or ROUTE aborts a measurement
(R100); an IRANGE change holds the output (R97); a setpoint moves in FV and steps in FI. When FORCE becomes FV, the force
voltage starts at the level code nearest the ball voltage, which nothing in the chip fixes: a free value in 0–60,000. -/
def State.applyPpmu (s : State) (i : Fin 64) (c : Fin 8) (old : Nat) : State :=
  let new := s.pcPpmu i c
  let changed := field old 7 0 ≠ field new 7 0 ∨ field old 31 16 ≠ field new 31 16
  let s := if changed then s.modCell i c fun q => q.abortMeas s.cycle else s
  let st := s.levelStep i c
  let toFv := field old 1 0 ≠ 0 ∧ field new 1 0 = 0
  let ball : Int := ((s.fresh 16).toNat % 60001 : Nat)
  let s := if toFv then s.drawn else s
  let s :=
    if field old 4 2 ≠ field new 4 2 ∧ s.ppmuOn i c then
      let h := s.ppmuHeld i c old
      s.modCell i c fun q => { q with held := some h, force := .still (q.force.code s.cycle) }
    else s
  let s :=
    if field new 1 0 = 0 then
      s.modCell i c fun q =>
        let start : Level := if toFv then .still ball else q.force
        if !s.ppmuOn i c then { q with force := .still (field new 31 16) }
        else if q.held.isSome then { q with force := start }
        else { q with force := if start.goal = field new 31 16 then start else s.levelTo start (field new 31 16) st 1 }
    else s
  s.ppmuLimit i c

end Sys2Proof.Machine
end

