-- ==== Sys2Proof/Machine/DspPort.lean ====
section
/-! DEFINITION. The DSP that serves a site (R455), its output queue (R235) and the PSQ's RESULTS words (R284). -/
namespace Sys2Proof.Machine

/-- DSP_SOURCE of a site: the region spare serves it. -/
def State.spareServes (s : State) (i : Fin 64) : Bool := s.regionCfg (regionOf i) 0x40 1 == (localOf i).val + 1

/-- The DSP that serves a site. -/
def State.dsp (s : State) (i : Fin 64) : Dsp := if s.spareServes i then (s.region (regionOf i)).spare else (s.site i).dsp

/-- `s` with the DSP that serves a site changed. -/
def State.modDsp (s : State) (i : Fin 64) (f : Dsp → Dsp) : State :=
  if s.spareServes i then s.modRegion (regionOf i) fun r => { r with spare := f r.spare }
  else s.modSite i fun t => { t with dsp := f t.dsp }

/-- The DSP flag at time `t` (R233). -/
def Dsp.flagAt (d : Dsp) (t : Time) : Bool :=
  match d.flags.find? fun f => !before t f.1 with
  | some f => f.2
  | none => false

/-- The DSP flag takes a value from time `t` on; what ended 10 µs before is forgotten. -/
def Dsp.flagFrom (d : Dsp) (t : Time) (v : Bool) : Dsp :=
  let older := d.flags.filter fun f => before f.1 t
  let keep := older.takeWhile fun f => !elapsed f.1 t 5120000
  { d with flags := (t, v) :: keep ++ (older.drop keep.length).take 1 }

/-- The place of a sub-stream in the packet counters: SAMPLES 0–2, STAMPS, RESULTS 0–1, SNAP. -/
def streamPlace (st : Stream) (sub : Nat) : Nat :=
  match st with
  | .samples => sub % 3
  | .stamps => 3
  | .results => 4 + sub % 2
  | _ => 6

/-- A discarded word counts in the next D0 of its sub-stream. -/
def State.countDiscard (s : State) (i : Fin 64) (st : Stream) (sub : Nat) : State :=
  s.modStream i fun m => { m with discards := vmodN m.discards (streamPlace st sub) (satInc 0xFFFFFFFF) }

/-- Entries the output queue can still take. -/
def Dsp.outRoom (d : Dsp) : Nat := 32 - d.outq.length

/-- STREAM_SITE ENABLE word, sub 1. -/
def State.streamCfg (s : State) (i : Fin 64) : Nat := s.siteCfg i 0xE4 1

/-- A PSQ RESULTS word enters the output queue, or is discarded and counted in RESULTS_LOST and in the next D0 (R284). -/
def State.pushResults (s : State) (i : Fin 64) (w : Nat) : State :=
  if (s.dsp i).outRoom = 0 then
    (s.countDiscard i .results 1).modStream i fun m =>
      { m with resultsLost := satInc 0xFFFF m.resultsLost, resLoss := true }
  else
    let w := w + at_ (b2n (s.site i).stream.resLoss) 55
    (s.modDsp i fun d => { d with outq := d.outq ++ [{ stream := .results, sub := 1, word := BitVec.ofNat 64 w }] }).modStream i
      fun m => { m with resLoss := false }

/-- The RESULTS word of the block so far: `partial_` for a block the PSQ stopped in. -/
def State.resultsWord (s : State) (i : Fin 64) (partial_ : Bool) : Nat :=
  let m := (s.site i).stream
  at_ 0xA5 56 + at_ (b2n partial_) 54 + at_ m.resFails.toNat 40 + ((s.site i).psq.vectors.toNat - m.resBlock) % 2 ^ 40

/-- PSQ_RES = 1. -/
def State.psqRes (s : State) (i : Fin 64) : Bool := bitOf (s.streamCfg i) 22

/-- One vector period has been executed: blocks are counted from the start, and the word of a full one is emitted while
PSQ_RES = 1 (R284). `fails` are the CELL_FAIL bits that the vector's compares set. VECTORS already counts the period. -/
def State.resultsTick (s : State) (i : Fin 64) (fails : BitVec 8) : State :=
  let s := s.modStream i fun m => { m with resBlock := m.resBlock + 1, resFails := m.resFails ||| fails }
  if (s.site i).stream.resBlock < 2 ^ (field (s.streamCfg i) 21 18 + 4) then s
  else
    let s := if s.psqRes i then s.pushResults i (s.resultsWord i false) else s
    s.modStream i fun m => { m with resBlock := 0, resFails := 0 }

/-- The PSQ stops: one further word when a block is part-filled (R284). -/
def State.resultsStop (s : State) (i : Fin 64) : State :=
  if s.psqRes i && (s.site i).stream.resBlock != 0 then
    (s.pushResults i (s.resultsWord i true)).modStream i fun m => { m with resBlock := 0, resFails := 0 }
  else s

end Sys2Proof.Machine
end

