-- ==== Sys2Proof/Machine/BridgeOps.lean ====
section
/-! DEFINITION. Bridge units: connection, slewing, safe values, range changes, limits, acquisition (chapters 07 and 08). -/
namespace Sys2Proof.Machine

/-- BU_CTRL, BU_RANGE, BU_SLEW, BU_SINE and BU_SAFE_VALUE of a unit. -/
def State.buCtrl (s : State) (i : Fin 64) (u : Fin 2) : Nat := s.siteCfg i 0x80 (u.val + 1)
def State.buRange (s : State) (i : Fin 64) (u : Fin 2) : Nat := s.siteCfg i 0x81 (u.val + 1)
def State.buSlew (s : State) (i : Fin 64) (u : Fin 2) : Nat := s.siteCfg i 0x82 (u.val + 1)
def State.buSine (s : State) (i : Fin 64) (u : Fin 2) : Nat := s.siteCfg i 0x83 (u.val + 1)
def State.buSafe (s : State) (i : Fin 64) (u : Fin 2) : Nat := s.siteCfg i 0x84 (u.val + 1)

/-- OUTPUT = 1. -/
def State.buOutput (s : State) (i : Fin 64) (u : Fin 2) : Bool := bitOf (s.buCtrl i u) 0

/-- WAVE: 0 DC, 1 SINE, 2 SINE_USER. -/
def State.buWave (s : State) (i : Fin 64) (u : Fin 2) : Nat := field (s.buCtrl i u) 2 1

/-- SETPOINT. -/
def State.buSetpoint (s : State) (i : Fin 64) (u : Fin 2) : Int := toInt (field (s.buCtrl i u) 31 16) 16

/-- AMPL, the target amplitude: 0 while WAVE is DC. -/
def State.buAmpl (s : State) (i : Fin 64) (u : Fin 2) : Int :=
  if s.buWave i u = 0 then 0 else (field (s.buSine i u) 47 32 : Nat)

/-- The preset code of R169: CODE of a safe value of kind VALUE, else 0. -/
def State.buPreset (s : State) (i : Fin 64) (u : Fin 2) : Int :=
  if bitOf (s.buSafe i u) 0 then toInt (field (s.buSafe i u) 31 16) 16 else 0

/-- A slewed quantity of a unit turned to a target at its STEP and RATE (R156). -/
def State.buMove (s : State) (i : Fin 64) (u : Fin 2) (l : Level) (target : Int) : Level :=
  if l.goal = target then l else s.levelTo l target (field (s.buSlew i u) 15 0) (field (s.buSlew i u) 31 16 + 1)

/-- SLEW_BUSY. -/
def Bridge.slewBusy (b : Bridge) : Bool := b.offset.isMoving || b.ampl.isMoving

/-! ## The sine generator (R158–R162) -/

/-- The sine generator at time `t`. -/
def Bridge.spanAt (b : Bridge) (t : Time) : Option WaveSpan := b.waves.find? fun w => !before t w.from_

/-- The phase accumulator at time `t`: it advances on every CK_PAT edge while a sine form runs. -/
def WaveSpan.accAt (w : WaveSpan) (t : Time) : BitVec 32 :=
  if w.on then w.acc + BitVec.ofNat 32 ((span w.from_ t).toNat / patGrains * w.ftw) else w.acc

/-- The accumulator of a unit at time `t`. -/
def Bridge.accAt (b : Bridge) (t : Time) : BitVec 32 :=
  match b.spanAt t with
  | some w => w.accAt t
  | none => 0

/-- The lookup phase at time `t`: the accumulator plus PHASE; 0 in DC. -/
def Bridge.phaseAt (b : Bridge) (t : Time) : BitVec 32 :=
  match b.spanAt t with
  | some w => if w.on then w.accAt t + BitVec.ofNat 32 (at_ w.phase 16) else 0
  | none => 0

/-- The spans from the one in force 10 µs before `t` on. -/
def wavesFrom (t : Time) : List WaveSpan → List WaveSpan
  | [] => []
  | w :: ws => if elapsed w.from_ t 5120000 then [w] else w :: wavesFrom t ws

/-- The sine generator of a unit from the CK_PAT edge at `t` on, with accumulator `acc`, as its form in force and BU_SINE say. -/
def State.waveFrom (s : State) (i : Fin 64) (u : Fin 2) (t : Time) (acc : BitVec 32) : State :=
  let v := s.buSine i u
  s.modBridge i u fun b =>
    let w : WaveSpan := { from_ := t, on := b.wave != 0, acc := acc, ftw := if s.fastClocks then field v 31 0 else 0,
                          phase := field v 63 48 }
    { b with waves := w :: wavesFrom t (b.waves.filter fun x => before x.from_ t) }

/-- The same, the accumulator going on. -/
def State.waveSet (s : State) (i : Fin 64) (u : Fin 2) (t : Time) : State := s.waveFrom i u t ((s.bridge i u).accAt t)

/-- With WAVE = DC a sine ends when its amplitude has reached 0 (R161). -/
def State.waveEnd (s : State) (i : Fin 64) (u : Fin 2) : State :=
  let b := s.bridge i u
  if s.buWave i u = 0 ∧ b.wave ≠ 0 ∧ b.ampl = .still 0 then
    (s.modBridge i u fun b => { b with wave := 0 }).waveSet i u s.clock
  else s

/-- The sample that the built-in quarter-wave table gives for a phase, in units of 1 ÷ (2^17 − 1): bits [31:30] give the
quadrant, bits [29:20] the entry, counted backwards in the second and the fourth quadrant (DESIGN CHOICE, log entry 704). -/
def sineSample (phase : BitVec 32) : Int :=
  let k := field phase.toNat 29 20
  let quad := field phase.toNat 31 30
  let q : Int := ((Config.quarterWave (BitVec.ofNat 10 (if quad % 2 = 0 then k else 1023 - k))).toNat : Nat)
  if 2 ≤ quad then -q else q

/-- A quotient rounded to nearest, ties away from zero (R159). -/
def roundAway (n : Int) (d : Nat) : Int := (if n < 0 then -1 else 1) * (((2 * n.natAbs + d) / (2 * d) : Nat) : Int)

/-- The user-table entry that a phase addresses in a table of 256 × 2^`len` entries. -/
def Bridge.userSample (b : Bridge) (len : Nat) (phase : BitVec 32) : Int :=
  toInt (sparseGet b.table (phase.toNat / 2 ^ (24 - len)) 0).toNat 16

/-- The code at the DAC input of a unit at time `t` (R159): the working offset plus the working amplitude times the sample. -/
def State.dacCode (s : State) (i : Fin 64) (u : Fin 2) (t : Time) : Int :=
  let b := s.bridge i u
  let off := b.offset.code t
  let amp := b.ampl.code t
  match b.wave with
  | 0 => off
  | 1 => roundAway (off * 131071 + amp * sineSample (b.phaseAt t)) 131071
  | _ => roundAway (off * 32000 + amp * b.userSample (field (s.buCtrl i u) 5 3) (b.phaseAt t)) 32000

/-! ## Connection (R154, R155) -/

/-- The unit moves to what its objects ask: SETPOINT and AMPL. -/
def State.buFollow (s : State) (i : Fin 64) (u : Fin 2) : State :=
  (s.modBridge i u fun b =>
    { b with offset := s.buMove i u b.offset (s.buSetpoint i u), ampl := s.buMove i u b.ampl (s.buAmpl i u) }).waveEnd i u

/-- The unit starts to connect: its switches close at the preset code (R155). -/
def State.buConnect (s : State) (i : Fin 64) (u : Fin 2) : State :=
  if s.rst.railsAbsent then s else s.modBridge i u fun b =>
    { b with closing := true, opening := none, offset := .still (s.buPreset i u), ampl := .still 0 }

/-- The switches of a unit have closed: it is connected and moves to its setpoint; in CAL its output follows at the end of CAL
(R172). -/
def State.buClosed (s : State) (i : Fin 64) (u : Fin 2) : State :=
  if (s.bridge i u).closing then
    let s := s.modBridge i u fun b => { b with closing := false, connected := true }
    if s.siteState i = .cal then s else s.buFollow i u
  else s

/-- The isolation switches open at once; the working code becomes `code`, a range change ends with the stage that BU_RANGE
selects, and a sine that WAVE has left ends. -/
def State.buOpen (s : State) (i : Fin 64) (u : Fin 2) (code : Int) : State :=
  (s.modBridge i u fun b =>
    { b with connected := false, closing := false, opening := none, offset := .still code, ampl := .still 0, range := none,
             gain := bitOf (s.buRange i u) 1, limit := false, localSense := false, pEst := 0, iOut := 0 }).waveEnd i u

/-- A unit that is to open when it has reached a code opens when it stands there. After OUTPUT 1 → 0 the working code becomes
the preset code as the switches open (DESIGN CHOICE, log entry 703). -/
def State.buSettled (s : State) (i : Fin 64) (u : Fin 2) : State :=
  let b := s.bridge i u
  if b.opening.isSome && !b.slewBusy && b.range.isNone then s.buOpen i u (s.buPreset i u) else s

/-- The unit slews to a code and then opens. In a range change the hold value and the switch come first. -/
def State.buOpenAt (s : State) (i : Fin 64) (u : Fin 2) (code : Int) : State :=
  let s := s.modBridge i u fun b => { b with opening := some code }
  if (s.bridge i u).range.isSome then s
  else (s.modBridge i u fun b => { b with offset := s.buMove i u b.offset code, ampl := s.buMove i u b.ampl 0 }).buSettled i u

/-- The site is forced SAFE (R170). -/
def State.buSafeEntry (s : State) (i : Fin 64) (u : Fin 2) : State :=
  let b := s.bridge i u
  if b.connected then
    if bitOf (s.buSafe i u) 0 then
      let s := s.modBridge i u fun b => { b with opening := none }
      if b.range.isSome then s
      else s.modBridge i u fun b => { b with offset := s.buMove i u b.offset (s.buPreset i u), ampl := s.buMove i u b.ampl 0 }
    else s.buOpen i u 0
  else s.buOpen i u (s.buPreset i u)

/-- PARK or FENCE begins (R170): DISCONNECT opens at once; VALUE slews there and then opens. -/
def State.buPark (s : State) (i : Fin 64) (u : Fin 2) : State :=
  if !(s.bridge i u).connected then s.buOpen i u (s.buPreset i u)
  else if bitOf (s.buSafe i u) 0 then s.buOpenAt i u (s.buPreset i u)
  else s.buOpen i u 0

/-! ## Range changes (R171) -/

/-- The hold value of a GAIN change as codes of the old and the new range: the value nearest the present output that both
ranges can represent. A code of ×2 is two codes of ×1; `toTwo` says that the new range is ×2. Of two codes of ×2 equally near
an odd code of ×1 the higher is taken (DESIGN CHOICE, log entry 705). -/
def rangeHold (code : Int) (toTwo : Bool) : Int × Int :=
  if toTwo then (2 * ((code + 1) / 2), (code + 1) / 2)
  else (clampInt (-16000) 16000 code, 2 * clampInt (-16000) 16000 code)

/-- A committed GAIN change on a unit (R171). An open unit takes the new stage at once. -/
def State.buGain (s : State) (i : Fin 64) (u : Fin 2) : State :=
  let g := bitOf (s.buRange i u) 1
  let b := s.bridge i u
  if b.gain = g ∨ b.range.isSome then s
  else if b.connected then
    let now := b.offset.code s.cycle
    let h := rangeHold now g
    s.modBridge i u fun b =>
      { b with range := some { switching := decide (now = h.1), newHold := h.2 },
               offset := s.buMove i u (Level.still now) h.1 }
  else s.modBridge i u fun b => { b with gain := g }

/-! ## The current limit (R164, R165) -/

/-- Multiples of 1 ÷ 300 µA that make I_eff = m × min(ILIM, P_LIM ÷ 15 V) with the multiplier of the throttle step in force. -/
def State.buIeff (s : State) (i : Fin 64) (u : Fin 2) : Nat :=
  throttleMul (s.throttleStep i) * min (300 * field (s.buRange i u) 15 8) (200 * field (s.buRange i u) 23 16)

/-- MODE = CURRENT. -/
def State.buCurrent (s : State) (i : Fin 64) (u : Fin 2) : Bool := bitOf (s.buRange i u) 0

/-- The largest code whose current does not exceed I_eff, in the stage in force: a code is 390.625 nA in ×1 and twice that in
×2 (Table 7.1). -/
def State.buLimitCode (s : State) (i : Fin 64) (u : Fin 2) : Int :=
  (s.buIeff i u * 16 / (if (s.bridge i u).gain then 3750 else 1875) : Nat)

/-- The sign of `v` with the magnitude of at most `m`. -/
def boundInt (m v : Int) : Int := clampInt (-m) m v

/-- The code that a unit is to stand at: its safe value in SAFE, the code it opens at, else SETPOINT. -/
def State.buGoal (s : State) (i : Fin 64) (u : Fin 2) : Int :=
  if s.siteState i = .safe then s.buPreset i u else (s.bridge i u).opening.getD (s.buSetpoint i u)

/-- A flag of BU_STATUS is caused in the CK_SEQ cycle `cy`. -/
def Bridge.setFlag (b : Bridge) (cy : Time) (bit : Nat) : Bridge :=
  { b with flags := b.flags ||| (1#4 <<< bit), caused := (cy, (if b.caused.1 = cy then b.caused.2 else 0) ||| (1#4 <<< bit)) }

/-- The limit acts; without a sine and outside a range change the working code follows the output to `code`. -/
def State.buLimited (s : State) (i : Fin 64) (u : Fin 2) (code : Int) : State :=
  s.modBridge i u fun b =>
    { b.setFlag s.cycle 3 with limit := true, offset := if b.wave = 0 ∧ b.range.isNone then .still code else b.offset }

/-- Where the unit is to go from where it stands: to its safe value in SAFE, to where it opens, else to its objects. -/
def State.buResume (s : State) (i : Fin 64) (u : Fin 2) : State :=
  if s.siteState i = .safe then s.buSafeEntry i u
  else match (s.bridge i u).opening with
    | some code => s.buOpenAt i u code
    | none => s.buFollow i u

/-- The limit stops acting: the working code slews to its target. A range change goes on. -/
def State.buUnlimited (s : State) (i : Fin 64) (u : Fin 2) : State :=
  let s := s.modBridge i u fun b => { b with limit := false }
  if (s.bridge i u).range.isSome then s else s.buResume i u

/-- The peak of what a unit presents: its working code, with the working amplitude in a sine form. -/
def Bridge.peak (b : Bridge) (t : Time) : Int :=
  ((b.offset.code t).natAbs + (if b.wave = 0 then 0 else (b.ampl.code t).natAbs) : Nat)

/-- A new I_eff on a connected unit in CURRENT mode, where the codes alone say what it limits (R164): a present or held current
above it is limited to it, and a limit that no longer lies below the target is released. In VOLTAGE mode the load decides, and
LIMIT_ONSET and LIMIT_RELEASE tell. -/
def State.buJudge (s : State) (i : Fin 64) (u : Fin 2) : State :=
  let b := s.bridge i u
  let m := s.buLimitCode i u
  if ¬ (b.connected ∧ s.buCurrent i u) then s
  else if m < b.peak s.cycle then s.buLimited i u (boundInt m (b.offset.code s.cycle))
  else if b.limit then
    if ((s.buGoal i u).natAbs : Int) ≤ m ∨ b.range.isSome ∨ b.wave ≠ 0 then s.buUnlimited i u
    else s.buLimited i u (boundInt m (s.buGoal i u))
  else s

/-! ## Out of SAFE or CAL -/

/-- The site leaves SAFE for READY, or leaves CAL (R170, R172): a unit with OUTPUT = 1 slews to its setpoint, reconnecting first
when it was disconnected; a connected unit whose OUTPUT has become 0 slews to 0 and opens, one that is closing opens (R155). A
range change in progress completes first. -/
def State.buRelease (s : State) (i : Fin 64) (u : Fin 2) : State :=
  let b := s.bridge i u
  if s.buOutput i u then
    if b.connected then
      let s := s.modBridge i u fun b => { b with opening := none }
      if b.range.isSome then s
      else if b.limit then s.buGain i u
      else (s.buFollow i u).buGain i u
    else s.buConnect i u
  else if b.connected then s.buOpenAt i u 0
  else s.buOpen i u (s.buPreset i u)

/-! ## Acquisition (R175, R180) -/

/-- The first CK_MOD edge after the present CK_SEQ cycle. -/
def State.nextMod (s : State) : Time :=
  let c := addGrains s.cycle s.seqLen
  addGrains c (((modGrains - grains c % modGrains) % modGrains : Nat) : Int)

/-- Acquisition of a unit starts at the next CK_MOD edge; T_START lies 130 CK_MOD cycles later. -/
def State.acqStart (s : State) (i : Fin 64) (u : Fin 2) : State :=
  s.modBridge i u fun b =>
    { b with acq := .starting, tStart := addGrains s.nextMod (130 * modGrains : Nat), outputs := 0, stopAfter := false,
             cfgChange := false, seq := 0, acqHeld := false }

/-- Acquisition of a unit stops. -/
def State.acqStop (s : State) (i : Fin 64) (u : Fin 2) : State :=
  s.modBridge i u fun b => { b with acq := .stopped, stopAfter := false, acqHeld := false }

/-- Acquisition stops as the site enters PARKED or FENCED. -/
def State.acqLeave (s : State) (i : Fin 64) (u : Fin 2) : State :=
  let going := (s.bridge i u).acq != .stopped
  (s.acqStop i u).modBridge i u fun b => { b with acqHeld := going }

/-- The site returns to READY (R180): a unit in CONTINUOUS acquires, and one in MSE whose acquisition the site's leaving had
stopped acquires again (DEDUCED, log entry 801). -/
def State.acqReady (s : State) (i : Fin 64) (u : Fin 2) : State :=
  let mode := field (s.adcCfg i u) 1 0
  let b := s.bridge i u
  if b.acq = .stopped ∧ (mode = 1 ∨ (mode = 2 ∧ b.acqHeld)) then s.acqStart i u else s

/-- The site enters CAL, or leaves it: its units' samples are excluded meanwhile (R185). -/
def State.acqSuspend (s : State) (i : Fin 64) (on : Bool) : State :=
  s.forEach allUnits fun u s => s.modBridge i u fun b =>
    match b.acq, on with
    | .running, true => { b with acq := .suspended }
    | .suspended, false => { b with acq := .running }
    | _, _ => b

/-- A unit released to PPMU measurements (R190). -/
def State.pairReleased (s : State) (i : Fin 64) (u : Fin 2) : Bool :=
  bitOf (s.adcCfg i u) 11 && field (s.adcCfg i u) 1 0 == 0

end Sys2Proof.Machine
end

