-- ==== Sys2Proof/Machine/PsqOps.lean ====
section
/-! DEFINITION. Segments, marker lines, and how the PSQ starts, advances and stops (R115–R117, R135–R140, R146, R148). -/
namespace Sys2Proof.Machine

/-! ## Segments -/

/-- The segment of a vector address. -/
def segOf (a : BitVec 15) : Nat := a.toNat / 4096

/-- The address of offset `off` of segment `g`. -/
def vecAddr (g off : Nat) : BitVec 15 := BitVec.ofNat 15 (g * 4096 + off)

/-- Segment `g` of a PSQ. -/
def Psq.seg (p : Psq) (g : Nat) : Segment := vgetN p.segs g Segment.reset

/-- `p` with segment `g` changed. -/
def Psq.modSeg (p : Psq) (g : Nat) (f : Segment → Segment) : Psq := { p with segs := vmodN p.segs g f }

/-- The vector at an address (0 where nothing has been filled). -/
def Psq.vector (p : Psq) (a : BitVec 15) : BitVec 64 := sparseGet (p.seg (segOf a)).mem (a.toNat % 4096) 0

/-- PSQ_SEG_CHAIN of a segment. -/
def State.segChain (s : State) (i : Fin 64) (g : Nat) : Nat := s.siteCfg i 0x63 (g + 1)

/-- The chain successor of a segment. -/
def State.segNext (s : State) (i : Fin 64) (g : Nat) : Option Nat :=
  if bitOf (s.segChain i g) 3 then some (field (s.segChain i g) 2 0) else none

/-- The ACTIVE segments (R135): none while the PSQ is stopped. -/
def Psq.active (p : Psq) : List Nat := if p.state = .idle then [] else segOf p.pc :: p.stack.map segOf

/-- Segment `g` is ARMED. -/
def State.segArmed (s : State) (i : Fin 64) (g : Nat) : Bool :=
  let p := (s.site i).psq
  p.state != .idle && s.segNext i (segOf p.pc) == some g && !p.active.contains g && (p.seg g).filled && !(p.seg g).filling

/-- Segment `g` is ACTIVE or ARMED. -/
def State.segInUse (s : State) (i : Fin 64) (g : Nat) : Bool := (s.site i).psq.active.contains g || s.segArmed i g

/-- PSQ_SEG_STATE.STATE. -/
def State.segState (s : State) (i : Fin 64) (g : Nat) : Nat :=
  if (s.site i).psq.active.contains g then 2 else if s.segArmed i g then 1 else 0

/-- The segments that are ACTIVE or ARMED. -/
def State.segMask (s : State) (i : Fin 64) : BitVec 8 :=
  BitVec.ofNat 8 (((List.range 8).map fun g => at_ (b2n (s.segInUse i g)) g).sum)

/-- The segments in use were `old` until time `t`. -/
def State.segNoted (s : State) (i : Fin 64) (t : Time) (old : BitVec 8) : State :=
  if s.segMask i = old then s else s.modPsq i fun p => { p with used := noteOld p.used t old }

/-- Segment `g` serves at the boundary `t` (R136, R137): it is ACTIVE or ARMED at the decision point, in the CK_PAT cycle 8
cycles before the boundary. -/
def State.segServes (s : State) (i : Fin 64) (g : Nat) (t : Time) : Bool :=
  (heldAt (s.site i).psq.used (s.segMask i) (addGrains (edgeAt patGrains t) (-8961))).getLsbD g

/-- The sequentially next address at the boundary `t` (R136, R138): none where the successor of offset 4,095 cannot serve. -/
def State.psqLink (s : State) (i : Fin 64) (t : Time) : Option (BitVec 15) :=
  let p := (s.site i).psq
  if p.pc.toNat % 4096 = 4095 then
    match s.segNext i (segOf p.pc) with
    | none => none
    | some g => if s.segServes i g t then some (vecAddr g 0) else none
  else some (p.pc + 1)

/-- Changes a PSQ at the boundary `t`; a segment with CONSUME = 1 that leaves ACTIVE loses FILLED (R140). -/
def State.psqTrack (s : State) (i : Fin 64) (t : Time) (f : Psq → Psq) : State :=
  let old := (s.site i).psq.active
  let mask := s.segMask i
  let s := s.modPsq i f
  let new := (s.site i).psq.active
  if new = old then s
  else
    (s.forEach (old.filter fun g => !new.contains g) fun g s =>
      if bitOf (s.segChain i g) 4 then s.modPsq i fun p => p.modSeg g fun m => { m with filled := false } else s).segNoted i t mask

/-- `s` with segment `g` changed now. -/
def State.segChange (s : State) (i : Fin 64) (g : Nat) (f : Segment → Segment) : State :=
  (s.modPsq i fun p => p.modSeg g f).segNoted i s.clock (s.segMask i)

/-- A fill or a host write of segment `g` is accepted (R139). -/
def State.segAccept (s : State) (i : Fin 64) (g : Nat) (src : Nat) (f : Option Fill) : State :=
  s.segChange i g fun m => { m with filled := false, filling := true, fill := f, src := src }

/-- Vectors land in segment `g` from offset 0, and the write or fill completes without error (R140). -/
def State.segLand (s : State) (i : Fin 64) (g : Nat) (vs : List (BitVec 64)) : State :=
  s.segChange i g fun m =>
    { m with filled := true, filling := false, fill := none, fillErr := 0, mem := sparseSetRun m.mem 0 vs 0 }

/-- A write or fill of segment `g` ends in error: 1 ABORTED, 2 SOURCE_ERR. -/
def State.segFail (s : State) (i : Fin 64) (g : Nat) (err : Nat) : State :=
  s.segChange i g fun m => { m with filled := false, filling := false, fill := none, fillErr := err }

/-- Execution goes to an address; an entry from another segment is counted (Table 6.11). -/
def Psq.goTo (p : Psq) (a : BitVec 15) : Psq :=
  let p' := { p with pc := a }
  if segOf a = segOf p.pc then p' else p'.modSeg (segOf a) fun m => { m with entries := m.entries + 1 }

/-! ## Marker lines and MARK balls (R115–R117)

A MARK ball shows 40,960 grains later what its marker line and its subindex of MARK_PIN_MAP ask for, so both are kept in the
time of the lines. -/

/-- Nothing asks for a pulse or a level. -/
def MarkSpan.rest (cfg : Nat) : MarkSpan := { from_ := 0, cfg := cfg, line := false, pulseEnd := none }

/-- What a ball follows at a time of the lines; `cfg` is its subindex while nothing has been noted. -/
def MarkBall.at_ (b : MarkBall) (cfg : Nat) (t : Time) : MarkSpan :=
  match b.spans.find? fun m => !before t m.from_ with
  | some m => m
  | none => b.spans.getLast?.getD (MarkSpan.rest cfg)

/-- What a ball follows from the latest change on. -/
def MarkBall.latest (b : MarkBall) (cfg : Nat) : MarkSpan := b.spans.head?.getD (MarkSpan.rest cfg)

/-- The spans from the one in force at `t` on. -/
def spansFrom (t : Time) : List MarkSpan → List MarkSpan
  | [] => []
  | m :: ms => if before t m.from_ then m :: spansFrom t ms else [m]

/-- A further span; `old` is the subindex that was in force. What the ball has passed goes. -/
def MarkBall.add (b : MarkBall) (old : Nat) (m : MarkSpan) : MarkBall :=
  let l := b.latest old
  if l.cfg = m.cfg ∧ l.line = m.line ∧ l.pulseEnd = m.pulseEnd then b
  else { spans := m :: spansFrom (addGrains m.from_ (-40960)) (if b.spans = [] then [{ l with from_ := m.from_ }] else b.spans) }

/-- A MARK ball after the four lines of site `i` take `lines` at time `t`; `starts`: a vector's time zero, which starts or
extends a pulse. -/
def markBallNext (cfg : Nat) (i : Fin 64) (lines : BitVec 4) (starts : Bool) (t : Time) (b : MarkBall) : MarkBall :=
  if field cfg 7 2 = i.val then
    let bit := lines.getLsbD (field cfg 1 0)
    let stop := if field cfg 9 8 = 2 ∧ bit ∧ starts then some (addGrains t (field cfg 23 16 * patGrains : Nat)) else (b.latest cfg).pulseEnd
    b.add cfg { from_ := t, cfg := cfg, line := bit, pulseEnd := stop }
  else b

/-- The marker lines of a site take new values at time `t`. -/
def State.setLines (s : State) (i : Fin 64) (lines : BitVec 4) (starts : Bool) (t : Time) : State :=
  let s := s.modPsq i fun p =>
    if p.lines = lines then p else { p with lines := lines, lineHist := noteOld p.lineHist t p.lines }
  { s with balls := Vector.ofFn fun n => markBallNext (s.cfg 0x2A01 (n.val + 1)) i lines starts t s.balls[n.val] }

/-- A committed MARK_PIN_MAP subindex, `old` before: from the commit cycle the ball follows the new mapping, a pulse in progress
completes, and a LEVEL output takes the state of its new source (R117). -/
def State.markMapEffect (s : State) (sub old : Nat) : State :=
  let cfg := s.cfg 0x2A01 sub
  let src := Fin.ofNat 64 (field cfg 7 2)
  { s with balls := vmodN s.balls (sub - 1) fun b =>
      b.add old { from_ := s.cycle, cfg := cfg, line := (s.site src).psq.lines.getLsbD (field cfg 1 0),
                  pulseEnd := (b.latest old).pulseEnd } }

/-! ## What a vector does to its cells -/

/-- The edges of a drive subindex of a timing set: D0, D1, D2. -/
def driveEdges (v : Nat) : Nat × Nat × Nat := (field v 20 0, field v 41 21, field v 62 42)

/-- SO and SC. -/
def strobeEdges (v : Nat) : Nat × Nat := (field v 20 0, field v 41 21)

/-- The value of a timing-set subindex for a vector whose time zero is `zero` (R107). -/
def State.tsetVal (s : State) (i : Fin 64) (off sub : Nat) (zero : Time) : Nat :=
  let addr := siteAddr i off sub
  let late := (s.site i).psq.tsetOld.filter fun e => e.1 == addr && !elapsed (addGrains e.2.2 10240) zero 0
  match late.getLast? with
  | some e => e.2.1
  | none => s.val addr

/-- The code a cell acts on: KEEP repeats the last other code, and is MASK where the run has brought none, or none since an
underrun (R125; DEDUCED, log entry 606, for the vectors after the first). -/
def Psq.code (p : Psq) (v : BitVec 64) (c : Fin 8) : Nat :=
  if vPin v c = 0xC then
    match p.lastCode[c.val] with
    | some k => k.toNat
    | none => 0xB
  else vPin v c

/-- One used drive edge of a cell at its pad (R106, R112). A PPMU keeps its ball; the pattern's driver state is tracked. A
collision falls in the CK_SEQ cycle before the one that holds the pad time of the edge it cancels (DESIGN CHOICE, log entry
601). -/
def State.driveEdge (s : State) (i : Fin 64) (c : Fin 8) (t : Time) (st : DrvState) : State :=
  let s := s.modCell i c fun q => { q with pattern := st }
  if s.ppmuOwns i c then s
  else
    s.modCell i c fun q =>
      match q.edge t st with
      | (q, some ta) => q.collided (addGrains (s.cycleAt ta) (-(s.seqLen : Nat)))
      | (q, none) => q

/-- The end of a vector that a safe state cuts short. -/
def within (cut : Option Time) (t : Time) : Bool :=
  match cut with
  | some x => !before x t
  | none => true

/-- The drive edges of a cell in the vector that begins at `zero`, up to the cut of a safe state. -/
def State.vecDrive (s : State) (i : Fin 64) (v : BitVec 64) (zero : Time) (cut : Option Time) (c : Fin 8) : State :=
  let e := driveEdges (s.tsetVal i (0x40 + vTset v) (c.val + 2) zero)
  s.forEach (codeDrives ((s.site i).psq.code v c) e.1 e.2.1 e.2.2) fun a s =>
    let t := addGrains zero (4 * a.1 : Nat)
    if within cut t then s.driveEdge i c t a.2 else s

/-- The strobe of a cell at its pad: open and close. -/
def State.vecStrobe (s : State) (i : Fin 64) (v : BitVec 64) (zero : Time) (c : Fin 8) : Time × Time :=
  let e := strobeEdges (s.tsetVal i (0x40 + vTset v) (c.val + 10) zero)
  (addGrains zero (4 * e.1 : Nat), addGrains zero (4 * e.2 : Nat))

/-- A stamp-enable window of STMP. Windows are kept for 25 CK_SEQ cycles, longer than a captured edge waits for its stamp
(R248). -/
def State.vecStamp (s : State) (i : Fin 64) (v : BitVec 64) (zero : Time) (c : Fin 8) : State :=
  if (s.site i).psq.code v c = 0xE then
    s.modCell i c fun q =>
      { q with stampWin := s.vecStrobe i v zero c :: q.stampWin.filter fun w => !elapsed w.2 zero 64000 }
  else s

/-- The marker lines of a vector, and a MARKER mark when they differ from those of the previous vector (R115, R281). -/
def State.vecMarkers (s : State) (i : Fin 64) (v : BitVec 64) (zero : Time) : State :=
  let old := (s.site i).stream.markBits
  let new := vMark v
  let s := s.setLines i new true zero
  let s := if new = old then s else s.queueMark i 0x0D zero (new.toNat + at_ old.toNat 4)
  s.modStream i fun m => { m with markBits := new }

/-- A vector begins at `zero`: its markers, the pulse of TRIG, its drive edges and its stamp windows, up to the cut of a safe
state. -/
def State.vecBegin (s : State) (i : Fin 64) (v : BitVec 64) (zero : Time) (cut : Option Time) : State :=
  let s := s.vecMarkers i v zero
  let s := if vOp v = 0x0A then s.modPsq i fun p =>
      { p with trigPulses := (field (vArg v) 1 0, zero) :: p.trigPulses.filter fun g => !elapsed g.2 zero 5120000 } else s
  s.forEach allCells fun c s => (s.vecDrive i v zero cut c).vecStamp i v zero c

/-! ## External conditions (R127) -/

/-- MSE_FLAG, DSP_FLAG or RTRIG of a site (COND 3, 4, 5) has changed from `old`. -/
def State.extChanged (s : State) (i : Fin 64) (cond : Nat) (old : Bool) : State :=
  s.modPsq i fun p => { p with ext := (cond, s.clock, old) :: p.ext.filter fun e => !elapsed e.2.1 s.clock 5120000 }

/-- What a list of changes says that a signal, `now` at present, was at time `t`. -/
def valueAt (l : List (Nat × Time × Bool)) (k : Nat) (now : Bool) (t : Time) : Bool :=
  match (l.filter fun e => e.1 == k && before t e.2.1).getLast? with
  | some e => e.2.2
  | none => now

/-- The RTRIG latch of a site becomes `v`. -/
def State.rtrigTo (s : State) (i : Fin 64) (v : Bool) : State :=
  if (s.site i).stream.rtrig = v then s else (s.modStream i fun m => { m with rtrig := v }).extChanged i 5 (!v)

/-- The MSE flag, which the PSQ tests as COND 3 (R192), becomes `v`. -/
def State.mseFlagTo (s : State) (i : Fin 64) (v : Bool) : State :=
  if (s.site i).mse.flag = v then s else (s.modMse i fun m => { m with flag := v }).extChanged i 3 (!v)

/-! ## Stopping -/

/-- PARK and FENCE move the outputs: bridge units to their safe values, then open; pin cells Z (Table 1.9). -/
def State.parkOutputs (s : State) (i : Fin 64) : State :=
  (s.forEach allUnits fun u s => s.buPark i u).forEach allCells fun c s => s.cellZ i s.clock c

/-- RUNNING becomes READY in the first cycle in which the PSQ is halted and the MSE is idle (R29). A PARK or FENCE in progress,
which waits for the routine (R209), moves the outputs then, and never shows READY. -/
def State.engineIdle (s : State) (i : Fin 64) : State :=
  let t := s.site i
  if t.psq.state = .idle ∧ t.mse.state = .idle then
    match t.ctl.state, t.ctl.trans with
    | .running, none => s.modCtl i fun c => c.goto .ready .engineIdle s.clock
    | .running, some .park => s.parkOutputs i
    | .safe, some .fence => s.parkOutputs i
    | _, _ => s
  else s

/-- The compares of one vector become visible (R128): fails first, then a CLRF of that vector. -/
def Psq.applyFails (p : Psq) (v : VecFails) : Psq :=
  if v.clr then { p with cellFail := 0, fail := false }
  else { p with cellFail := p.cellFail ||| v.cells, fail := p.fail || v.fail }

/-- The compares of every vector executed as FLAGS shows them while no vector executes; conditions still see them four vectors
later (R128). -/
def Psq.drained (p : Psq) : Psq := { p.pipe.reverse.foldl Psq.applyFails p with pipe := [] }

/-- The PSQ stops with a cause: PC keeps the last vector, marker lines read 0, every segment becomes INACTIVE (R135, R148). A
GOTO that is still pending is dropped, and GOTO_RESULT keeps its value (DESIGN CHOICE, log entry 606). The drivers are the
caller's. -/
def State.psqHalt (s : State) (i : Fin 64) (cause : StopCause) : State :=
  if (s.site i).psq.state = .idle then s
  else
    let s := s.resultsStop i
    let s := s.psqTrack i s.clock fun p =>
      { p.drained with state := .idle, stopCause := cause, wait := none, stopAt := none, goto := none, resume := none,
                       pc := p.prev, passes := [], reps := 0 }
    (s.setLines i 0 false s.clock).modStream i fun m => { m with markBits := 0 }

/-- A stop at a boundary at time `t`: the drivers take IDLE from the end of the last vector's period (R87). -/
def State.psqStop (s : State) (i : Fin 64) (cause : StopCause) (t : Time) : State :=
  ((s.psqHalt i cause).forEach allCells fun c s => s.cellHalt i t c).engineIdle i

/-- The first point of the run's vector grid that lies at least `d` grains after `t` (R132, R144). -/
def gridAfter (zero t : Time) (d : Nat) : Time :=
  let gap := span zero (addGrains t d)
  if gap ≤ 0 then zero else addGrains zero ((gap + (patGrains - 1 : Nat)) / (patGrains : Nat) * (patGrains : Nat))

end Sys2Proof.Machine
end

