-- ==== Sys2Proof/Machine/MseOps.lean ====
section
/-! DEFINITION. How an MSE routine starts, ends and is abandoned (R200, R204–R208). -/
namespace Sys2Proof.Machine

/-- RESULT codes, Table 9.15. -/
def MseResult.code : MseResult → Nat
  | .none => 0 | .completed => 1 | .abandoned => 2 | .stopped => 3 | .fault => 4 | .timeout => 5 | .restartLimit => 6

/-- STATE codes, Table 9.15. -/
def MseState.code : MseState → Nat
  | .idle => 0 | .run => 1 | .wait => 2 | .committed => 3 | .restartPending => 4

/-- A routine is running, waiting or in its committed window. -/
def MseState.busy : MseState → Bool
  | .run => true | .wait => true | .committed => true | _ => false

/-- The stop micro-op (R180): acquisition ends after the result in progress, and the cycle is remembered (Table 8.7). -/
def State.acqStopAfter (s : State) (i : Fin 64) (u : Fin 2) : State :=
  let t := s.cycle
  s.modBridge i u fun b => if b.acq = .stopped then b else { b with stopAfter := true, stopCycle := some t }

/-- The acquisitions that the invocation started end as by the stop micro-op: after the result in progress (R180, R204). -/
def State.mseStopAcq (s : State) (i : Fin 64) : State :=
  (s.forEach allUnits fun u s =>
    if (s.site i).mse.acqUnits.getLsbD u.val then
      s.acqStopAfter i u
    else s).modMse i fun m => { m with acqUnits := 0 }

/-- RESULT of an abandonment by a cause of Table 9.9 when the routine is not restarted. -/
def abandonResult (cause : Nat) : MseResult :=
  match cause with
  | 1 => .stopped | 6 => .timeout | _ => .abandoned

/-- A routine is abandoned (R204): STATE reads RESTART_PENDING when it is to be restarted, IDLE otherwise. -/
def State.mseAbandon (s : State) (i : Fin 64) (cause : Nat) (restart : Bool) (result : MseResult) : State :=
  (s.mseStopAcq i).modMse i fun m =>
    { m with state := if restart then .restartPending else .idle, waiting := none, window := false, staging := [],
             result := if restart then m.result else result, cause := cause, deferred := none,
             pendCause := if restart then cause else 0 }

/-- The microword at an address (Table 9.1); none at a reserved address. -/
def Mse.fetch (m : Mse) (a : BitVec 14) : Option (BitVec 24) :=
  if a.toNat < 0x2000 then some (sparseGet m.store a.toNat 0)
  else if a.toNat < 0x2800 then some (romWord a.toNat)
  else none

/-- The microword that is due has opcode `op`, and `n` CK_SEQ cycles lie between its cycle and the present one. -/
def State.mseAt (s : State) (i : Fin 64) (op n : Nat) : Bool :=
  let m := (s.site i).mse
  m.state == .run && m.waiting.isNone && (m.fetch m.upc).any (fun w => uOp w == op) &&
    s.cycle == addGrains (s.cycleAt m.dueAt) (n * s.seqLen : Nat)

/-- The present cycle is the one in which END executes (Table 9.12). -/
def State.mseEnds (s : State) (i : Fin 64) : Bool := s.mseAt i 0x18 0

/-- The present cycle is the apply cycle of a COMMIT (R201, R203). -/
def State.mseCommits (s : State) (i : Fin 64) : Bool := s.mseAt i 0x17 2 && !(s.site i).mse.staging.isEmpty

/-- The committed window of the invocation is open, or opens in this cycle (Table 9.12). -/
def State.mseShut (s : State) (i : Fin 64) : Bool := (s.site i).mse.window || s.mseCommits i

/-- A cause is deferred: in the committed window (R208), in the apply cycle of a COMMIT, and, for STOP and the timeout, in the
cycle of END (Table 9.12). -/
def State.mseDefers (s : State) (i : Fin 64) (cause : Nat) : Bool :=
  s.mseShut i || (s.mseEnds i && (cause == 1 || cause == 6))

/-- A cause of Table 9.9 reaches the MSE, which may defer it. A pending restart is cancelled by STOP, PARK and FENCE (R205). -/
def State.mseCause (s : State) (i : Fin 64) (cause : Nat) : State :=
  let m := (s.site i).mse
  if m.state.busy then
    if s.mseDefers i cause then
      (if m.deferred.isSome then s else s.modMse i fun m => { m with deferred := some cause, deferFrom := s.clock })
    else
      let restart := cause = 2 ∨ (cause = 3 ∧ bitOf (s.siteCfg i 0xA0 7) 4)
      s.mseAbandon i cause restart (abandonResult cause)
  else if m.state = .restartPending ∧ (cause = 1 ∨ cause = 4 ∨ cause = 5) then
    s.modMse i fun m => { m with state := .idle, result := abandonResult cause, cause := cause, pendCause := 0 }
  else s

/-- The loading steps of R200 at an entry with the captured parameters; a START empties the DSP-to-MSE mailbox (R233). -/
def Mse.loaded (m : Mse) (entry : BitVec 14) : Mse :=
  { m with state := .run, waiting := none, window := false, upc := entry, g := #v[m.params[0], m.params[1], m.params[2],
             m.params[3], 0, 0, 0, 0], z := false, n := false, c := false, v := false, rj := false, tmo := false, inw := false,
           stack := [], staging := [], deferred := none, pendCause := 0, acqUnits := 0, fromDsp := [] }

/-- MSE_ENTRY of a slot. -/
def State.mseEntry (s : State) (i : Fin 64) (slot : Nat) : BitVec 14 := BitVec.ofNat 14 (s.siteCfg i 0xA1 (slot + 1))

end Sys2Proof.Machine
end

