-- ==== Sys2Proof/Machine/TdcOps.lean ====
section
/-! DEFINITION. Stamp queues, interval channels and frequency channels (R245–R259). Fine times are in 1/256 grain. -/
namespace Sys2Proof.Machine

/-- A fine time rounded to the nearest grain, halves up (R245). -/
def roundFine (t : BitVec 76) : Time := BitVec.ofNat 68 ((t.toNat + 128) / 256)

/-- A time in grains as a fine time. -/
def fineOf (t : Time) : BitVec 76 := BitVec.ofNat 76 (t.toNat * 256)

/-- The fine time from `a` to `b`, signed. -/
def fineSpan (a b : BitVec 76) : Int := (b - a).toInt

/-- A fine time moved by `d` grains. -/
def fineMoved (t : BitVec 76) (d : Int) : BitVec 76 := t + BitVec.ofInt 76 (d * 256)

/-- The time of a stamp on the present time base: the steps since its edge are added (R254). -/
def Seen.now (e : Seen) : BitVec 76 := fineMoved e.t e.steps

/-- A stamp when the time base steps by `d` grains. -/
def Seen.step (d : Int) (e : Seen) : Seen := { e with steps := e.steps + d, stepN := e.stepN + 1 }

/-- TDC_CFG of a cell; sub 9 holds SPECIAL and REC_CELL. -/
def State.tdcCfg (s : State) (i : Fin 64) (sub : Nat) : Nat := s.siteCfg i 0xE0 sub

/-- The cell whose queue takes records and special stamps. -/
def State.recCell (s : State) (i : Fin 64) : Fin 8 := Fin.ofNat 8 (field (s.tdcCfg i 9) 10 8)

/-- TDC_INTERVAL of channel `k`. -/
def State.intCfg (s : State) (i : Fin 64) (k : Fin 4) : Nat := s.siteCfg i 0xE1 (k.val + 1)

/-- TDC_FREQ of channel `f`. -/
def State.freqCfg (s : State) (i : Fin 64) (f : Fin 2) : Nat := s.siteCfg i 0xE6 (f.val + 1)

/-- `s` with the stamp side of a cell changed. -/
def State.modTdcCell (s : State) (i : Fin 64) (c : Fin 8) (f : CellTdc → CellTdc) : State :=
  s.modTdc i fun t => { t with cells := vmod t.cells c f }

/-- `n` words or edges lost at a queue: counted for the LOSS word, OVF owed, STAMP_OVF set (R249). -/
def State.stampLoss (s : State) (i : Fin 64) (c : Fin 8) (n : Nat) : State :=
  (s.modTdcCell i c fun q => { q with loss := min 0xFFFFFFFF (q.loss + n), ovfNext := true }).modCell i c fun p => p.setFlag s.cycle 4

/-- A LOSS word: SRC from 0x80 (Table 11.2). -/
def QueueWord.isLoss (w : QueueWord) : Bool := w.word.getLsbD 63

/-- The LOSS words at the end of a queue belong to the epoch of the word that follows them (R253). -/
def relabelLoss (q : List QueueWord) (epoch : BitVec 16) : List QueueWord :=
  match q with
  | [] => []
  | w :: q => (if w.isLoss && q.all (·.isLoss) then { w with epoch := epoch } else w) :: relabelLoss q epoch

/-- The queue has a word to give: its LOSS words wait until the word that gives them their epoch follows (R253; DEDUCED, log
entry 1103). -/
def CellTdc.gives (q : CellTdc) : Bool := q.queue.any fun w => !w.isLoss

/-- Stores words in a queue whole, the first with OVF when it is owed, or drops them and counts (R249, R251). -/
def State.queueWords (s : State) (i : Fin 64) (c : Fin 8) (first : Nat) (rest : List Nat) (epoch : Nat) : State :=
  let q := (s.site i).tdc.cells[c.val]
  let n := 1 + rest.length
  if q.queue.length + n ≤ 64 then
    let mk (w : Nat) : QueueWord := { word := BitVec.ofNat 64 w, epoch := BitVec.ofNat 16 epoch }
    s.modTdcCell i c fun q =>
      { q with queue := relabelLoss q.queue (BitVec.ofNat 16 epoch) ++ (mk (first + at_ (b2n q.ovfNext) 54) :: rest.map mk),
               ovfNext := false }
  else (s.modTdcCell i c fun q => { q with drops := min 0xFFFFFF (q.drops + n) }).stampLoss i c n

/-- COMP and EDGE of a source selector (Table 11.3) at their places in a stream word. -/
def selBits (sel : Nat) : Nat := if sel < 32 then at_ (field sel 1 1) 53 + at_ (field sel 0 0) 52 else 0

/-- A stamp word of Table 11.2. -/
def stampWord (src : Nat) (est : Bool) (sel : Nat) (t : Time) : Nat := at_ src 56 + at_ (b2n est) 55 + selBits sel + grains t

/-! ## Interval channels -/

/-- The value bits of a record that ends with elapsed time `d` in 1/256 grain (R256). -/
def intervalValue (d : Int) (signed : Bool) : Nat :=
  if d.natAbs < 256 then at_ 1 52
  else if 0 ≤ d then ((d + 128) / 256).toNat % 2 ^ 48
  else if signed then ofInt ((d + 128) / 256) 48
  else at_ 1 53

/-- `s` with an interval channel changed. -/
def State.modInt (s : State) (i : Fin 64) (k : Fin 4) (f : Interval → Interval) : State :=
  s.modTdc i fun t => { t with ints := vmod t.ints k f }

/-- The earliest missed edge of a channel's two sources after the fine time `t` (R257). -/
def State.missAfter (s : State) (i : Fin 64) (k : Fin 4) (t : BitVec 76) : Option (BitVec 76) :=
  let cfg := s.intCfg i k
  let ms := (s.site i).tdc.missed.filter fun m =>
    (m.1 == field cfg 5 0 || m.1 == field cfg 11 6) && decide (0 < fineSpan t m.2)
  ms.foldl (fun (a : Option (BitVec 76)) m => match a with
    | none => some m.2
    | some x => some (if 0 < fineSpan m.2 x then m.2 else x)) none

/-- LOSS of a record that closes at the fine time `t`: an edge was missed while the channel was STARTED. -/
def Interval.lossAt (ch : Interval) (t : BitVec 76) : Bool := ch.miss.any fun m => decide (0 ≤ fineSpan m t)

/-- The channel becomes STARTED at the start edge `e`. -/
def State.intStarted (s : State) (i : Fin 64) (k : Fin 4) (e : Seen) : State :=
  let m := s.missAfter i k e.now
  s.modInt i k fun ch => { ch with state := .started e, miss := m }

/-- Writes a record of channel `k`: start word and record word to the queue of REC_CELL, the record word to RECORD. -/
def State.intRecord (s : State) (i : Fin 64) (k : Fin 4) (start : Seen) (est loss stepped : Bool) (bits : Nat) : State :=
  let rec_ := at_ (0x20 + k.val) 56 + at_ (b2n est) 55 + at_ (b2n loss) 49 + at_ (b2n stepped) 48 + bits
  let t := roundFine start.t
  (s.queueWords i (s.recCell i) (stampWord (0x28 + k.val) start.est start.sel t) [rec_] (epochOf t)).modInt i k
    fun ch => { ch with record := BitVec.ofNat 64 rec_ }

/-- What a channel does after a record (R257): `normal` gives the stop edge of a normal record, `closed` the instant after
which start edges count again. -/
def State.intAfter (s : State) (i : Fin 64) (k : Fin 4) (normal : Option Seen) (closed : BitVec 76) : State :=
  let cfg := s.intCfg i k
  let base (st : IntervalState) (ch : Interval) : Interval :=
    { ch with state := st, lastEnd := some closed, after := some closed, miss := none }
  if bitOf cfg 13 then
    match normal with
    | some e =>
      let s := s.modInt i k (base .armed)
      if field cfg 5 0 = field cfg 11 6 then s.intStarted i k e else s
    | none => s.modInt i k (base .armed)
  else (s.setVal (siteAddr i 0xE1 (k.val + 1)) (cfg - at_ 1 14)).modInt i k (base .idle)

/-- Closes the record of a started channel with the stop edge `e`: at that edge, or at once where it precedes the start edge. A
step of the time base counts where one edge has seen it and the other has not (R254). -/
def State.intClose (s : State) (i : Fin 64) (k : Fin 4) (start e : Seen) : State :=
  let d := fineSpan start.now e.now
  let v := intervalValue d (bitOf (s.intCfg i k) 12)
  let order := bitOf v 53
  let closed := if d ≤ 0 then start.now else e.now
  let loss := ((s.site i).tdc.ints[k.val]).lossAt closed
  (s.intRecord i k start (start.est || e.est) loss (start.stepN != e.stepN) v).intAfter i k (if order then none else some e) closed

/-- Closes an open record with TIMEOUT (R257); `loss` sets LOSS (R260). -/
def State.intTimeout (s : State) (i : Fin 64) (k : Fin 4) (loss : Bool) : State :=
  let ch := (s.site i).tdc.ints[k.val]
  match ch.state with
  | .started start =>
    let loss := loss || ch.lossAt (fineOf s.clock)
    (s.intRecord i k start start.est loss (start.stepN != 0) (at_ 1 54)).intAfter i k none (fineOf s.clock)
  | _ => s

/-- The look-back window of a channel in 1/256 grain: W_L of R256. -/
def lookBack (cfg : Nat) : Int := (if bitOf cfg 12 then max (field cfg 59 40) 2560 else 2560 : Nat) * 256

/-- Stop edge `p` precedes the start edge `e` of a channel: no earlier than W_L before it, and after the channel's previous
record (R256). -/
def Interval.precedes (ch : Interval) (cfg : Nat) (e p : Seen) : Bool :=
  p.sel == field cfg 11 6 && decide (0 ≤ fineSpan p.now e.now) && decide (fineSpan p.now e.now ≤ lookBack cfg) &&
    (match ch.lastEnd with
     | none => true
     | some l => decide (0 < fineSpan l p.now))

/-- The latest of some stamps; the list holds the last resolved first. -/
def latestSeen (l : List Seen) : Option Seen :=
  l.foldl (fun a p => match a with
    | none => some p
    | some q => some (if 0 < fineSpan q.now p.now then p else q)) none

/-- The earliest of some stamps after the fine time `t`. -/
def firstSeen (l : List Seen) (t : BitVec 76) : Option Seen :=
  (l.filter fun p => decide (0 < fineSpan t p.now)).foldl (fun a p => match a with
    | none => some p
    | some q => some (if 0 < fineSpan p.now q.now then p else q)) none

/-- An interval channel sees a resolved stamp (R256). Stamps of two cells, and of one cell's outputs, may be resolved out of the
order of their edges: a stop edge after the start edge may have been seen already, and one before it may be seen later. -/
def State.intSee (s : State) (i : Fin 64) (e : Seen) (k : Fin 4) : State :=
  let cfg := s.intCfg i k
  let ch := (s.site i).tdc.ints[k.val]
  match ch.state with
  | .idle => s
  | .armed =>
    let late : Bool := match ch.after with
      | none => true
      | some a => decide (0 < fineSpan a e.now)
    if e.sel = field cfg 5 0 ∧ late then
      match latestSeen ((s.site i).tdc.seen.filter (ch.precedes cfg e)) with
      | some p => s.intClose i k e p
      | none =>
        let s := s.intStarted i k e
        match firstSeen ((s.site i).tdc.seen.filter fun p => p.sel == field cfg 11 6) e.now with
        | some p => s.intClose i k e p
        | none => s
    else s
  | .started start =>
    if e.sel = field cfg 11 6 ∧ (0 < fineSpan start.now e.now ∨ ch.precedes cfg start e = true) then s.intClose i k start e else s

/-! ## Frequency channels -/

/-- `s` with a frequency channel changed. -/
def State.modFreq (s : State) (i : Fin 64) (f : Fin 2) (g : FreqChan → FreqChan) : State :=
  s.modTdc i fun t => { t with freqs := vmod t.freqs f g }

/-- Writes a record of channel `f` (R258, R259): T word, then N word. -/
def State.freqRecord (s : State) (i : Fin 64) (f : Fin 2) (est nosig stepped : Bool) (t : Nat) (n : BitVec 32) : State :=
  let ch := (s.site i).tdc.freqs[f.val]
  let seq := ch.seq + 1
  let tw := at_ (0x30 + f.val) 56 + at_ (b2n est) 55 + at_ (seq.toNat % 4) 52 + at_ (b2n nosig) 50 +
    at_ (b2n (ch.loss || ch.lossEnd)) 49 +
    at_ (b2n stepped) 48 + t % 2 ^ 48
  let nw := at_ (0x38 + f.val) 56 + at_ (b2n est) 55 + at_ (seq.toNat % 65536) 32 + n.toNat
  (s.queueWords i (s.recCell i) tw [nw] (epochOf s.clock)).modFreq i f fun ch =>
    { ch with seq := seq, tWord := BitVec.ofNat 64 tw, nWord := BitVec.ofNat 64 nw, loss := ch.lossEnd,
              lossEnd := false, steps := 0, stepN := 0 }

/-- A gate opens at the edge `e`, whose edge counter was `n`. -/
def FreqChan.opened (ch : FreqChan) (e : Seen) (n : BitVec 32) : FreqChan :=
  { ch with gate := some (e.t, n, e.est), steps := e.steps, stepN := e.stepN }

/-- What a channel does after a record: the next gate opens at the closing edge, where a miss before the closing edge was one
before its opening edge, it arms again, or ENABLE reads 0. -/
def State.freqAfter (s : State) (i : Fin 64) (f : Fin 2) (next : Option (Seen × BitVec 32)) : State :=
  let cfg := s.freqCfg i f
  if bitOf cfg 7 then
    s.modFreq i f fun ch => match next with
      | some (e, n) => ch.opened e n
      | none => { ch with gate := none, loss := false, armedAt := s.clock }
  else (s.setVal (siteAddr i 0xE6 (f.val + 1)) (cfg - at_ 1 6)).modFreq i f fun ch => { ch with gate := none, armed := false }

/-- A frequency channel sees a resolved stamp whose edge counter was `n` at the edge (R258): the first edge captured since the
channel was armed opens the gate, the first at or after GATE closes it; T is the difference of the two stamps' times. -/
def State.freqSee (s : State) (i : Fin 64) (e : Seen) (n : BitVec 32) (f : Fin 2) : State :=
  let cfg := s.freqCfg i f
  let ch := (s.site i).tdc.freqs[f.val]
  if ch.armed ∧ e.sel = field cfg 5 0 then
    match ch.gate with
    | none => if 0 ≤ fineSpan (fineOf ch.armedAt) e.now then s.modFreq i f (·.opened e n) else s
    | some (t0, n0, est0) =>
      let open_ := fineMoved t0 ch.steps
      if (field cfg 31 8 * usGrains * 256 : Nat) ≤ fineSpan open_ e.now then
        let t := (span (roundFine open_) (roundFine e.now)).toNat
        (s.freqRecord i f (est0 || e.est) false (ch.stepN != e.stepN) t (n - n0)).freqAfter i f (some (e, n))
      else s
  else s

/-- The table of a source (Table 11.3) is nominal. -/
def State.selEst (s : State) (i : Fin 64) (sel : Nat) : Bool :=
  if sel < 32 then ((s.site i).tdc.cells[(Fin.ofNat 8 (sel / 4)).val]).conv.table.isNone
  else (s.special.convs[(Fin.ofNat 5 (sel - 32)).val]).table.isNone

/-- A gate that saw no opening or no closing edge closes with NOSIG (R259); `loss` sets LOSS (R260). -/
def State.freqNosig (s : State) (i : Fin 64) (f : Fin 2) (loss : Bool) : State :=
  let ch := (s.site i).tdc.freqs[f.val]
  if ch.armed then
    let s := s.modFreq i f fun ch => { ch with loss := ch.loss || loss }
    match ch.gate with
    | none => (s.freqRecord i f (s.selEst i (field (s.freqCfg i f) 5 0)) true false 0 0).freqAfter i f none
    | some (_, n0, est) => (s.freqRecord i f est true (ch.stepN != 0) 0 (ch.count - n0)).freqAfter i f none
  else s

/-! ## Captures, parking and power -/

/-- A stamp has been resolved: the channels see it, and it joins the stamps that a look-back can reach. -/
def State.seeStamp (s : State) (i : Fin 64) (e : Seen) (n : Vector (BitVec 32) 2) : State :=
  let s := s.forEach (List.finRange 4) fun k s => s.intSee i e k
  let s := s.forEach allUnits fun f s => s.freqSee i e n[f.val] f
  s.modTdc i fun t => { t with seen := e :: t.seen.filter fun p => decide ((fineSpan p.now e.now).natAbs < 2 ^ 28) }

/-- A SPECIAL run is due or in progress. -/
def SpecialTdc.taken (t : SpecialTdc) : Bool := t.start.isSome

/-- A SPECIAL run has started at time `t`: it takes no edge of its sources (R263). -/
def SpecialTdc.runsAt (t : SpecialTdc) (now : Time) : Bool := t.start.any fun x => !before now x

/-- A source selector names a special source (Table 11.3). -/
def selSpecial (sel : Nat) : Bool := decide (32 ≤ sel)

/-- A SPECIAL run that has started closes the records and gates of its sources, with TIMEOUT or NOSIG and LOSS (R260, R263). -/
def State.specialBegun (s : State) : State :=
  if s.special.runsAt s.clock ∧ ¬ s.special.closed then
    let s := s.forEach allSites fun i s =>
      let s := s.forEach (List.finRange 4) fun k s =>
        let cfg := s.intCfg i k
        if selSpecial (field cfg 5 0) || selSpecial (field cfg 11 6) then s.intTimeout i k true else s
      s.forEach allUnits fun f s =>
        if ((s.site i).tdc.freqs[f.val]).gate.isSome && selSpecial (field (s.freqCfg i f) 5 0) then s.freqNosig i f true else s
    { s with special := { s.special with closed := true } }
  else s

/-- Open interval records close with TIMEOUT and open gates with NOSIG. -/
def State.tdcClose (s : State) (i : Fin 64) (loss : Bool) : State :=
  let s := s.forEach (List.finRange 4) fun k s => s.intTimeout i k loss
  s.forEach allUnits fun f s => if ((s.site i).tdc.freqs[f.val]).gate.isSome then s.freqNosig i f loss else s

/-- A TIME_STEP of `d` grains (R254): it falls after every edge captured so far, and inside every open interval and gate. -/
def Tdc.stepped (t : Tdc) (d : Int) : Tdc :=
  let cap (e : Capture) : Capture := { e with steps := e.steps + d, stepN := e.stepN + 1 }
  { t with
    cells := t.cells.map fun q => { q with capHi := q.capHi.map cap, capLo := q.capLo.map cap, resolved := q.resolved.map (addGrains · d) }
    seen := t.seen.map (Seen.step d)
    missed := t.missed.map fun m => (m.1, fineMoved m.2 d)
    ints := t.ints.map fun ch =>
      { ch with state := (match ch.state with
                  | .started e => .started (e.step d)
                  | x => x)
                lastEnd := ch.lastEnd.map (fineMoved · d), after := ch.after.map (fineMoved · d), miss := ch.miss.map (fineMoved · d) }
    freqs := t.freqs.map fun ch =>
      let ch := { ch with armedAt := addGrains ch.armedAt d }
      if ch.gate.isSome then { ch with steps := ch.steps + d, stepN := ch.stepN + 1 } else ch }

/-- The special-source captures at a step. -/
def SpecialTdc.stepped (t : SpecialTdc) (d : Int) : SpecialTdc :=
  { t with caps := t.caps.map (·.map fun e => { e with steps := e.steps + d, stepN := e.stepN + 1 }),
           start := t.start.map (addGrains · d), changes := t.changes.map fun e => (e.1, addGrains e.2.1 d, e.2.2) }

/-! ## Arming -/

/-- Start edges count from time `t` on. -/
def Interval.from_ (ch : Interval) (t : Time) : Interval := { ch with after := some (fineOf t - 1) }

/-- An interval channel under a new configuration, from time `t` on (Table 11.4). -/
def Interval.rearmed (ch : Interval) (on : Bool) (t : Time) : Interval :=
  { ch with state := if on then .armed else .idle, lastEnd := none, miss := none }.from_ t

/-- A frequency channel under a new configuration, from time `t` on. -/
def FreqChan.rearmed (ch : FreqChan) (on : Bool) (t : Time) : FreqChan :=
  { ch with armed := on, armedAt := t, gate := none, loss := false, lossEnd := false, steps := 0, stepN := 0 }

/-- A channel whose ENABLE is 1 is ARMED (R256, R258): the channels of a site whose objects have been loaded. -/
def State.tdcArm (s : State) (i : Fin 64) : State :=
  let s := s.forEach (List.finRange 4) fun k s => s.modInt i k (·.rearmed (bitOf (s.intCfg i k) 14) s.clock)
  s.forEach allUnits fun f s => s.modFreq i f (·.rearmed (bitOf (s.freqCfg i f) 6) s.clock)

/-- The site has become READY from PARKED: its armed channels wait for a start or opening edge from now on (Table 11.4). -/
def State.tdcReady (s : State) (i : Fin 64) : State :=
  let s := s.forEach (List.finRange 4) fun k s => s.modInt i k fun ch => ch.from_ s.clock
  s.forEach allUnits fun f s => s.modFreq i f fun ch => { ch with armedAt := s.clock }

/-- The channels of a site work: it is neither OFF nor isolated. -/
def State.tdcOn (s : State) (i : Fin 64) : Bool :=
  match s.siteState i with
  | .off => false
  | .parked => false
  | .fenced => false
  | _ => true

end Sys2Proof.Machine
end

