-- ==== Sys2Proof/Machine/Outputs.lean ====
section
/-! DEFINITION. What entering and leaving a site state does to the site's outputs and engines (R29–R31, R87, R154, R170,
R276, R470): SAFE, the release from SAFE, isolation, power-down. -/
namespace Sys2Proof.Machine

/-! ## Bushel by site state (Table 12.3) -/

/-- The comparator outputs of a site as a Bushel entry: bit 2c CMP_LO, bit 2c + 1 CMP_HI (R275). -/
def cmpWord (cells : Vector PinCell 8) : BitVec 16 :=
  BitVec.ofNat 16 ((allCells.map fun c => at_ (b2n cells[c.val].cmpLo) (2 * c.val) + at_ (b2n cells[c.val].cmpHi) (2 * c.val + 1)).sum)

/-- BUSHEL_CFG. -/
def State.bushelCfg (s : State) (i : Fin 64) : Nat := s.siteCfg i 0xE3 1

/-- The entry of a site at time `t`, from what its comparators have done of late. -/
def cmpWordAt (cells : Vector PinCell 8) (t : Time) : BitVec 16 :=
  cmpWord (cells.map fun q => let v := heldAt q.cmpHist (q.cmpHi, q.cmpLo) t; { q with cmpHi := v.1, cmpLo := v.2 })

/-- The entry recorded at a plane sample has the time of the signals that it shows (R275). -/
def entryGrains : Nat := 6400

/-- Entry into ARMED: PRE and OUT are latched, recording begins with the first plane sample. -/
def State.bushelArmed (s : State) (i : Fin 64) : State :=
  let first := addGrains (edgeFrom patGrains s.clock) (-(entryGrains : Int))
  s.modSite i fun t => { t with stream := { t.stream with bushel := { t.stream.bushel with
    state := .armed, pre := field (s.bushelCfg i) 12 0, out := bitOf (s.bushelCfg i) 20, armedAt := first,
    hist := (List.range 6).map fun k =>
      let e := addGrains first ((5 - k) * patGrains : Nat)
      (e, cmpWordAt t.cells e) } } }

/-- A list of entry changes, newest first, as far back as a capture can reach: everything after `limit`, and the one before it. -/
def pruneHist (limit : Time) : List (Time × BitVec 16) → List (Time × BitVec 16)
  | [] => []
  | p :: rest => if before limit p.1 then p :: pruneHist limit rest else [p]

/-- The comparator word of a site changed at `t`: the first entry that shows it is that of the next plane sample (R275). -/
def State.bushelEdge (s : State) (i : Fin 64) (t : Time) : State :=
  let e := edgeFrom patGrains t
  let w := cmpWord (s.site i).cells
  s.modBushel i fun b =>
    match b.hist with
    | [] => b
    | p :: rest =>
      let h := if before p.1 e then (e, w) :: p :: rest else (p.1, w) :: rest
      { b with hist := if b.state = .armed then pruneHist (addGrains e (-(8192 * (patGrains : Int)))) h else h }

/-- A DISARMED Bushel arms when ARM = 1 and its site records; one that was armed without recording begins to record. -/
def State.bushelSite (s : State) (i : Fin 64) : State :=
  let b := (s.site i).stream.bushel
  let idle := b.state = .disarmed ∨ (b.state = .armed ∧ b.hist = [])
  if idle ∧ bitOf (s.bushelCfg i) 21 ∧ (s.siteState i).connected then s.bushelArmed i else s

/-- The site leaves the states in which a Bushel records. -/
def State.bushelLeave (s : State) (i : Fin 64) : State :=
  s.modBushel i fun b => match b.state with
    | .armed => { b with state := .disarmed, hist := [] }
    | .capturing => { b with state := .disarmed, hist := [] }
    | _ => b

/-- The time of the latest entry at or before `t`: entries lie on the CK_PAT grid (R275). -/
def entryTime (t : Time) : Time := edgeAt patGrains t

/-- A trigger reaches a Bushel with its source (Table 12.4) and the time of its trigger entry (R276, R277). -/
def Bushel.triggered (b : Bushel) (src : Nat) (t : Time) : Bushel :=
  match b.state with
  | .armed =>
    if b.hist = [] then b else
    { b with state := .capturing, tTrig := t, stepBy := 0, src := src, step := false,
             preValid := min b.pre ((span b.armedAt t).toNat / patGrains), missedH0 := b.missed, missed := 0,
             captures := b.captures + 1 }
  | .disarmed => b
  | _ => if b.state = .capturing ∧ b.tTrig = t then { b with src := min b.src src } else { b with missed := satInc 0xFFFF b.missed }

/-- A trigger from a source whose SRC bit is set. -/
def State.bushelTrigger (s : State) (i : Fin 64) (src : Nat) (t : Time) : State :=
  let bit := if src = 5 then 18 else if src = 4 then 17 else 16
  if bitOf (s.bushelCfg i) bit then s.modBushel i fun b => b.triggered src t else s

/-! ## The vector that a safe state cuts short (R122) -/

/-- BCAP: one Bushel trigger for the vector, at its earliest SO (R275), unless a safe state has come before it. -/
def State.vecBcap (s : State) (i : Fin 64) (v : BitVec 64) (zero : Time) (cut : Option Time) : State :=
  let so := (allCells.filter fun c => (s.site i).psq.code v c == 0xD).map fun c => (s.vecStrobe i v zero c).1
  match so with
  | [] => s
  | t :: ts =>
    let first := ts.foldl (fun a b => if before b a then b else a) t
    if within cut first then s.bushelTrigger i 4 (entryTime first) else s

/-- CMP_MODE = CONTINUOUS. -/
def State.cmpLive (s : State) (i : Fin 64) (c : Fin 8) : Bool := field (s.pcMode i c) 7 6 == 0

/-- Cells of the vector due whose compare strobes have closed at the present time. -/
def State.judgedCells (s : State) (i : Fin 64) (v : BitVec 64) (zero : Time) : BitVec 8 :=
  BitVec.ofNat 8 ((allCells.map fun c =>
    at_ (b2n (codeCompares ((s.site i).psq.code v c) && s.cmpLive i c && !before s.clock (s.vecStrobe i v zero c).2)) c.val).sum)

/-- The address of the vector whose time zero is `zero`: none while the PSQ waits, or where no vector begins there. -/
def State.psqAhead (s : State) (i : Fin 64) : Option (BitVec 15) :=
  let p := (s.site i).psq
  match p.state, p.resume with
  | .idle, _ => none
  | _, some (some a) => some a
  | _, some none => s.psqLink i p.zero
  | .run, none => some p.pc
  | _, none => none

/-- A safe state falls inside the vector due, which has begun: its edges stop there (R122). What its closed strobes judged is
not told: a free value. -/
def State.vecCut (s : State) (i : Fin 64) : State :=
  let a := (s.psqAhead i).getD 0
  let zero := (s.site i).psq.zero
  let v := (s.site i).psq.vector a
  if (s.psqAhead i).isSome ∧ before zero s.clock ∧ vLegal v then
    let s := s.psqTrack i zero fun p => { p.goTo a with state := .run, resume := none }
    let p := (s.site i).psq
    let s := (s.vecBegin i v p.zero (some s.clock)).vecBcap i v p.zero (some s.clock)
    let judged := s.judgedCells i v p.zero
    let fails := if vOp v = 0x08 then 0 else judged &&& s.fresh 8
    let mask := BitVec.ofNat 8 (field (s.siteCfg i 0x60 7) 15 8)
    let s := if judged = 0 then s else s.drawn
    s.modPsq i fun p => { p with pipe := { cells := fails, fail := fails &&& mask != 0, clr := false } :: p.pipe, prev := p.pc }
  else s

/-! ## Calibration given up (R31, Table 19.5) -/

/-- A procedure, or a code-density run, in progress is abandoned: nothing is applied and it stays pending. -/
def State.calAbandon (s : State) (i : Fin 64) : State :=
  (s.modCal i fun c => { c with running := 0, proc := 0, step := 0, second := false, again := false, firstRun := [], found := [],
                                pinsOut := false, reserved := 0, sweepDone := false, swept := false }).modTdc i
    fun t => if t.run = .running then { t with run := .pending } else t

/-! ## Into SAFE -/

/-- A site enters SAFE with a cause (Table 1.10): PSQ stopped, MSE routine abandoned or deferred, cells and units at their
safe values, SAFE_ENTRY queued. -/
def State.siteToSafe (s : State) (i : Fin 64) (cause : SiteCause) : State :=
  let from_ := s.siteState i
  let s := if from_ = .cal then (s.calAbandon i).acqSuspend i false else s
  let s := (s.vecCut i).psqHalt i .safe
  let s := s.mseCause i 3
  let s := s.forEach allCells fun c s => s.cellSafe i s.clock c
  let s := s.forEach allUnits fun u s => s.buSafeEntry i u
  let s := s.modCtl i fun c =>
    { c.goto .safe cause s.clock with safeFrom := if from_ = .parked then .parked else .ready, trans := none }
  (s.bushelSite i).queueMark i 0x08 s.clock cause.code

/-- A force of a scope reaches a site (R17, R470). POWER_UP and UNFENCE in progress complete first and the site enters SAFE
then; a site that is leaving by POWER_DOWN or FENCE, or is OFF or FENCED, is not forced; UNPARK and PARK are abandoned. -/
def State.forceSite (s : State) (sc : Scope) (cause : SiteCause) (i : Fin 64) : State :=
  let c := (s.site i).ctl
  let held := s.modCtl i fun c => { c with forces := if c.forces.contains sc then c.forces else sc :: c.forces }
  match c.state, c.trans with
  | .off, some _ => held
  | .off, none => s
  | .fenced, some .unfence => held
  | .fenced, _ => s
  | _, some .powerDown => s
  | _, some .fence => s
  | .safe, _ => held
  | _, some _ => (held.modCtl i fun c => { c with reqResult := .overriddenSafe }).siteToSafe i cause
  | _, none => held.siteToSafe i cause

/-- The outputs of a site are isolated as PARK and FENCE leave them: cells Z, switches open at the preset code, acquisition
stopped, capture stopped. -/
def State.siteIsolate (s : State) (i : Fin 64) : State :=
  let s := s.forEach allCells fun c s => s.cellZ i s.clock c
  let s := s.forEach allUnits fun u s => (s.buOpen i u (s.buPreset i u)).acqLeave i u
  (s.tdcClose i false).bushelLeave i

/-! ## Out of SAFE -/

/-- A site leaves SAFE (Table 1.9): PARKED when it entered from PARKED, READY otherwise, with a SAFE_EXIT mark. -/
def State.siteRelease (s : State) (i : Fin 64) (cause : SiteCause) : State :=
  let c := (s.site i).ctl
  if c.state = .safe ∧ c.trans.isNone ∧ c.forces = [] then
    let s :=
      if c.safeFrom = .parked then
        ((s.modCtl i fun c => c.goto .parked cause s.clock).siteLevels i).siteIsolate i
      else
        let s := (s.modCtl i fun c => c.goto .ready cause s.clock).siteLevels i
        let s := s.forEach allCells fun c s => s.cellIdle i s.clock c
        s.forEach allUnits fun u s => (s.buRelease i u).acqReady i u
    s.queueMark i 0x09 s.clock cause.code
  else s

/-! ## Isolation and power -/

/-- A site's memories, engines and queues as they stand after its domains have been gated (R29, R216, R246): everything but
its state machine. -/
def Site.gated (t : Site) : Site := { Site.reset with ctl := t.ctl, test := t.test }

/-- Every subindex of a site's block and every trim of its units and cells, at its value in the base configuration in force;
trims at their factory values (R471, R403). -/
def siteOwns (i : Fin 64) (addr : Nat) : Bool :=
  let ix := indexOf addr
  let sub := subOf addr
  (ix / 256 == 0x40 + i.val) ||
  (ix == 0x2606 && decide (1 ≤ sub) && (sub - 1) / 2 == i.val) ||
  (decide (0x2610 ≤ ix) && decide (ix ≤ 0x2613) && decide (1 ≤ sub) && ((ix - 0x2610) * 128 + (sub - 1)) / 8 == i.val)

/-- The trims of a site, by address. -/
def trimsOf (i : Fin 64) : List Nat :=
  (List.range 2).map (fun u => addrOf 0x2606 (2 * i.val + u + 1)) ++
  (List.range 8).map fun c => addrOf (0x2610 + (8 * i.val + c) / 128) ((8 * i.val + c) % 128 + 1)

/-- The safe value of a unit (by global number) as RNVM will hold it: a record that waits counts already. -/
def State.safeOf (s : State) (n : Nat) : Nat :=
  match s.nvm.jobs.reverse.find? fun j => match j with
    | .safeValue m _ => m == n
    | _ => false with
  | some (.safeValue _ v) => v.toNat
  | _ => (vgetN s.nvm.safe n 0).toNat

/-- The site's objects reloaded from the base configuration. Safe values come from RNVM; trims read 0 when the factory area is
unreadable (R403). -/
def State.siteReload (s : State) (i : Fin 64) : State :=
  let mine := s.commit.baseInForce.filter fun e => siteOwns i e.1 && !isTrimAddr e.1
  let s := { s with dict := s.dict.filter fun e => !siteOwns i e.1 }
  let s := s.forEach mine fun e s => s.setVal e.1 e.2
  let s := if s.nvm.trimsValid then s else s.forEach (trimsOf i) fun a s => s.setVal a 0
  s.forEach allUnits fun u s =>
    s.setVal (siteAddr i 0x84 (u.val + 1)) (s.safeOf (2 * i.val + u.val))

end Sys2Proof.Machine
end

