-- ==== Sys2Proof/Machine/Gauntlet.lean ====
section
/-! DEFINITION. Gauntlet (chapter 18): classification of a presented kind, records, escalation, notification, forcing,
acknowledgement, clearing and release. -/
namespace Sys2Proof.Machine

/-! ## Kinds and classes -/

/-- The class of a kind, Table 18.1. -/
def gtClass (kind : Nat) : Nat :=
  if kind < 0x18 then 0x01
  else if kind = 0x20 then 0x02
  else if kind = 0x21 then 0x03
  else if kind < 0x40 then 0x04
  else if kind < 0x50 then 0x05
  else if kind < 0x60 then 0x06
  else if kind < 0x64 then 0x07
  else if kind = 0x64 then 0x08
  else if kind = 0x70 then 0x09
  else if kind < 0x80 then 0x0A
  else if kind < 0x82 then 0x0B
  else if kind < 0x90 then 0x0C
  else if kind < 0xA0 then 0x0D
  else if kind < 0xA8 then 0x0E
  else if kind < 0xB0 then 0x0F
  else if kind < 0xC0 then 0x10
  else if kind < 0xC4 then 0x11
  else if kind < 0xC8 then 0x12
  else if kind < 0xD0 then 0x13
  else if kind = 0xD0 then 0x14
  else if kind = 0xD1 then 0x15
  else 0x16

/-- A kind of type E: gone in the cycle of presentation. -/
def gtEvent (kind : Nat) : Bool :=
  [0x13, 0x14, 0x21, 0x30, 0x31, 0x32, 0x33, 0x50, 0x51, 0x52, 0x53, 0x54, 0x55, 0x60, 0x61, 0x62, 0x63, 0x64, 0x70, 0x71,
   0x72, 0x81, 0x82, 0x90, 0xB1, 0xC4, 0xC5, 0xD0, 0xD1].contains kind

/-- The EMCY error code of a kind, Table 18.1; CAN_DUP_NODE has none. -/
def gtEmcy (kind : Nat) : Option Nat :=
  match kind with
  | 0x20 => some 0x2310 | 0x82 => some 0x8200 | 0x83 => some 0x8120 | 0x84 => some 0x8140 | 0x85 => none
  | 0xA0 => some 0x4200 | 0xA1 => some 0x4210 | 0xA8 => some 0x4220 | 0xA9 => some 0x4230 | 0xAA => some 0x4240
  | 0xC0 => some 0x3200
  | k => some (0xFF00 + k)

/-- The accepted levels of a class, Table 18.2; a fixed class accepts none. -/
def gtLevels (cls : Nat) : Option (Nat × Nat) :=
  match cls with
  | 0x01 => some (0, 4) | 0x02 => some (0, 4) | 0x03 => some (0, 1) | 0x04 => some (0, 3) | 0x05 => some (0, 4)
  | 0x06 => some (0, 3) | 0x07 => some (0, 3) | 0x08 => some (0, 1) | 0x0D => some (0, 2) | 0x0F => none
  | 0x11 => some (1, 4) | 0x15 => none | 0x16 => none | _ => some (0, 1)

/-- The ERR_REG bit of a class, Table 18.2. -/
def gtErrBit (cls : Nat) : Nat :=
  match cls with
  | 0x02 => 1 | 0x05 => 1 | 0x09 => 4 | 0x0A => 4 | 0x0B => 4 | 0x0C => 4 | 0x0E => 3 | 0x0F => 3 | 0x11 => 2 | 0x16 => 0
  | _ => 7

/-- GT_CLASS_CFG of a class: LEVEL, ESC_EN, AUTO_REC. -/
def State.gtCfg (s : State) (cls : Nat) : Nat := s.cfg 0x2403 cls

/-- The level that a kind's class applies without escalation (R384); `flevel` is that of the firing Mitten rule. -/
def State.gtBase (s : State) (kind flevel : Nat) : Nat :=
  match kind with
  | 0xA8 => 2 | 0xA9 => 3 | 0xAA => 4
  | 0xD1 => flevel
  | 0xE0 => 1
  | k => field (s.gtCfg (gtClass k)) 2 0

/-! ## Origins and scopes -/

/-- A cell, unit or sensor of a site. -/
def Origin.ofCell (i : Fin 64) (c : Nat) : Origin := { level := .cell, site := i.val, cell := c }
/-- A site. -/
def Origin.ofSite (i : Fin 64) : Origin := { level := .site, site := i.val, cell := 0 }
/-- A region: SITE holds 16 × region. -/
def Origin.ofRegion (q : Fin 4) : Origin := { level := .region, site := 16 * q.val, cell := 0 }
/-- The chip. -/
def Origin.ofChip : Origin := { level := .chip, site := 0, cell := 0 }
/-- The chain. -/
def Origin.ofChain : Origin := { level := .chain, site := 0, cell := 0 }

/-- LEVEL of a fault message, Table 18.4. -/
def OriginLevel.code : OriginLevel → Nat
  | .cell => 0 | .site => 1 | .region => 2 | .chip => 3 | .chain => 4

/-- The site of an origin, as a site number. -/
def Origin.siteOf (o : Origin) : Fin 64 := Fin.ofNat 64 o.site

/-- The escalation scope of an origin (R391). -/
def Origin.home (o : Origin) : Scope :=
  match o.level with
  | .cell => .site o.siteOf
  | .site => .site o.siteOf
  | .region => .region (regionOf o.siteOf)
  | _ => .chip

/-- The scopes that a level forces for an origin (R385). -/
def Origin.scopes (o : Origin) (level : Nat) : List Scope :=
  match level, o.level with
  | 2, .cell => [.site o.siteOf]
  | 2, .site => [.site o.siteOf]
  | 2, .region => (sitesOf (regionOf o.siteOf)).map .site
  | 2, _ => allSites.map .site
  | 3, .chip => [.region 0, .region 1, .region 2, .region 3]
  | 3, .chain => [.region 0, .region 1, .region 2, .region 3]
  | 3, _ => [.region (regionOf o.siteOf)]
  | 4, _ => [.chip]
  | _, _ => []

/-- The sites of a scope. -/
def Scope.sites : Scope → List (Fin 64)
  | .site i => [i]
  | .region q => sitesOf q
  | .chip => allSites

/-- An origin lies in a scope. -/
def Scope.holds (sc : Scope) (o : Origin) : Bool :=
  match sc, o.level with
  | .chip, _ => true
  | .site i, .cell => o.site == i.val
  | .site i, .site => o.site == i.val
  | .region q, .cell => o.site / 16 == q.val
  | .region q, .site => o.site / 16 == q.val
  | .region q, .region => o.site / 16 == q.val
  | _, _ => false

/-- The place of a scope in GT_RECOVERY_COUNT, from 0. -/
def Scope.place : Scope → Nat
  | .site i => i.val
  | .region q => 64 + q.val
  | .chip => 68

/-- SITE_STATE.CAUSE of a force (R385): THERMAL for the thermal kinds. -/
def forceCause (kind : Nat) (sc : Scope) : SiteCause :=
  if gtClass kind = 0x0F ∨ gtClass kind = 0x0E then .thermal
  else match sc with
    | .site _ => .fault
    | .region _ => .region
    | .chip => .chip

/-! ## Records -/

/-- The fault message of Table 18.4. -/
def gtMessage (o : Origin) (kind : Nat) (detail : BitVec 32) : BitVec 64 :=
  BitVec.ofNat 64 (at_ o.level.code 60 + at_ o.site 54 + at_ o.cell 50 + at_ kind 40 + at_ (gtClass kind) 32 + detail.toNat)

/-- W3 of a record, Table 18.5. -/
def GtRecord.w3 (r : GtRecord) : Nat :=
  r.count + at_ r.applied 32 + at_ (b2n r.gone) 35 + at_ (b2n r.acked) 36 + at_ (b2n r.escalated) 37 +
    at_ (b2n !r.scopes.isEmpty) 38 + at_ 1 39 + at_ r.rseq.toNat 48

/-- A record as 32 bytes, W0 lowest (R389). -/
def GtRecord.value (r : GtRecord) : Nat :=
  (gtMessage r.origin r.kind r.detail).toNat + at_ r.tFirst.toNat 64 + at_ r.tLast.toNat 128 + at_ r.w3 192

/-- Slot `n` (1–64). -/
def State.gtSlot (s : State) (n : Nat) : Option GtRecord :=
  if n = 64 then s.gauntlet.overflow else if n = 0 then none else vgetN s.gauntlet.slots (n - 1) none

/-- `s` with slot `n` set. -/
def State.gtSet (s : State) (n : Nat) (r : Option GtRecord) : State :=
  if n = 64 then { s with gauntlet := { s.gauntlet with overflow := r } }
  else if n = 0 then s
  else { s with gauntlet := { s.gauntlet with slots := vmodN s.gauntlet.slots (n - 1) fun _ => r } }

/-- Every valid record, by slot. -/
def State.gtRecords (s : State) : List GtRecord := s.gauntlet.slots.toList.filterMap id ++ s.gauntlet.overflow.toList

/-- A record with this identity (R388), by its slot. -/
def State.gtFind (s : State) (o : Origin) (kind : Nat) : Option Nat :=
  ((List.range 63).find? fun k => match s.gtSlot (k + 1) with
    | some r => r.kind == kind && decide (r.origin = o)
    | none => false).map (· + 1)

/-- The lowest free slot. -/
def State.gtFree (s : State) : Option Nat := ((List.range 63).find? fun k => (s.gtSlot (k + 1)).isNone).map (· + 1)

/-- A record forces a scope that has not been released. -/
def State.gtForced (s : State) (sc : Scope) : Bool := s.gtRecords.any fun r => r.scopes.contains sc

/-- An L3 force holds the region: its trigger units do not fire (Table 18.3). -/
def State.regionHeld (s : State) (q : Fin 4) : Bool := s.gtForced (.region q)

/-- What MARKn shows now: its marker line of 40,960 grains ago (R116). -/
def State.markSpan (s : State) (n : Fin 16) : MarkSpan :=
  s.balls[n.val].at_ (s.cfg 0x2A01 (n.val + 1)) (addGrains s.clock (-40960))

/-- MARKn is active (R116, R117): in LEVEL as its line says, and within a pulse. A force of the chip holds it inactive (Table
18.3). -/
def State.markActive (s : State) (n : Fin 16) : Bool :=
  let m := s.markSpan n
  !s.gtForced .chip && (field m.cfg 9 8 == 1 && m.line || match m.pulseEnd with
    | some t => before (addGrains s.clock (-40960)) t
    | none => false)

/-- The level of MARKn: inverted when POL = 1. -/
def State.markHigh (s : State) (n : Fin 16) : Bool := s.markActive n != bitOf (s.markSpan n).cfg 10

/-- TRIG_OUTn is active (R272): a force of the chip holds it inactive (Table 18.3). -/
def State.trigOutActive (s : State) (n : Fin 4) : Bool :=
  !s.gtForced .chip && (s.chipTrig.outs[n.val]).any fun p => !before s.clock p.1 && before s.clock p.2

/-- The level of TRIG_OUTn: inverted when POL = 1. -/
def State.trigOutHigh (s : State) (n : Fin 4) : Bool := s.trigOutActive n != bitOf (s.cfg 0x2A00 (n.val + 1)) 5

/-- 0x1001 (R384). -/
def State.errReg (s : State) : Nat :=
  s.gtRecords.foldl (fun v r => v ||| 1 ||| (1 <<< gtErrBit (gtClass r.kind))) 0

/-- A PIN_EVENT or BU_EVENT flag that is enabled is set (R92, R168). -/
def State.eventFlags (s : State) : Bool :=
  allSites.any fun i =>
    (allCells.any fun c => (s.cell i c).flags.toNat &&& field (s.pcMode i c) 25 16 != 0) ||
    (allUnits.any fun u => (s.bridge i u).flags.getLsbD 3 && bitOf (s.buCtrl i u) 9)

/-- `n` CK_SEQ cycles have passed from the one in which `t` lies to the present one. -/
def State.cyclesPast (s : State) (t : Time) (n : Nat) : Bool := !before s.cycle (addGrains (s.cycleAt t) (n * s.seqLen : Nat))

/-- ERR_N is low (R392): from 3 CK_SEQ cycles after a presentation to the cycle after the last record clears. -/
def State.errNLow (s : State) : Bool :=
  (s.gtRecords.any fun r => s.cyclesPast r.since 3) || match s.gauntlet.cleared with
    | some t => !s.cyclesPast t 1
    | none => false

/-- IRQ_N is low (R393): for a record, from 3 CK_SEQ cycles after its presentation, as ERR_N (Table 1.10, step 2 of the
example of chapter 18). -/
def State.irqNLow (s : State) : Bool :=
  (s.gtRecords.any fun r => decide (1 ≤ r.applied) && !r.acked && s.cyclesPast r.called 3) || s.eventFlags

/-! ## Notification (R394) -/

/-- An EMCY of a kind, and a FAULT packet when FAULT_PKT = 1. CAN_BUS_OFF's EMCY goes before the queue at recovery (R345). -/
def State.gtNotify (s : State) (o : Origin) (kind : Nat) (detail : BitVec 32) (time : BitVec 64) : State :=
  let msg := gtMessage o kind detail
  let s := match gtEmcy kind with
    | none => s
    | some code => if kind = 0x84 then s.oweEmcy code s.errReg msg time else s.pushEmcy code s.errReg msg time
  if bitOf (s.cfg 0x2400 1) 0 then s.sendChip 6 (s.cfg 0x2400 2) [msg, time] else s

/-- A new record or an escalation in slot `n`: notified at L1 and above, logged to RNVM from NVLOG_MIN on. -/
def State.gtAnnounce (s : State) (n : Nat) : State :=
  match s.gtSlot n with
  | none => s
  | some r =>
    if 1 ≤ r.applied then
      let s := s.gtNotify r.origin r.kind r.detail r.tFirst
      if field (s.cfg 0x2400 1) 3 1 ≤ r.applied then s.queueEvent (BitVec.ofNat 256 r.value) else s
    else s

/-! ## Forcing and release -/

/-- A thermal shutdown holds the site, its region or the chip (R372–R374). -/
def State.thermalHeld (s : State) (i : Fin 64) : Bool :=
  (s.siteThermal i).latched || s.thermal.regions[(regionOf i).val].shut || s.thermal.chipShut

/-- Every site of each scope is forced. -/
def State.gtForce (s : State) (kind : Nat) (scopes : List Scope) : State :=
  s.forEach scopes fun sc s => s.forEach sc.sites fun i s => s.forceSite sc (forceCause kind sc) i

/-- A site drops the scopes that no record forces, and leaves SAFE when nothing holds it any longer (R397). -/
def State.settleSite (s : State) (cause : SiteCause) (i : Fin 64) : State :=
  let s := s.modCtl i fun c => { c with forces := c.forces.filter s.gtForced }
  if s.thermalHeld i then s else s.siteRelease i cause

/-- Every site after records have changed. -/
def State.settleSites (s : State) (cause : SiteCause) : State := s.forEach allSites fun i s => s.settleSite cause i

/-! ## Clearing (R396) -/

/-- Slot `n` becomes free: noted for ERR_N (R392). -/
def State.gtDrop (s : State) (n : Nat) : State :=
  let s := s.gtSet n none
  { s with gauntlet := { s.gauntlet with cleared := some s.clock } }

/-- GT_OVERFLOW goes when a slot is free, and clears when it is acknowledged. While every slot holds a record its condition is
present; its return alone is no presentation, because COUNT counts the lost ones (R388; DEDUCED, log entry 1805). -/
def State.gtOverflowCheck (s : State) : State :=
  match s.gauntlet.overflow with
  | none => s
  | some r =>
    if s.gtFree.isSome then
      if r.acked then (s.gtDrop 64).pushEmcy 0 (s.gtDrop 64).errReg 0 (time64 s.clock)
      else s.gtSet 64 (some { r with gone := true })
    else s.gtSet 64 (some { r with gone := false })

/-- Slot `n` clears when its record is gone and acknowledged: an EMCY 0x0000 at L1 and above, and sites whose last force it
was are released with CAUSE = ACK. -/
def State.gtClear (s : State) (n : Nat) : State :=
  match s.gtSlot n with
  | none => s
  | some r =>
    if r.gone && r.acked then
      let t := s.gtDrop n
      let t := if 1 ≤ r.applied then t.pushEmcy 0 t.errReg 0 (time64 t.clock) else t
      t.gtOverflowCheck.settleSites .ack
    else s

/-- The condition of a kind is no longer present. -/
def State.gone (s : State) (o : Origin) (kind : Nat) : State :=
  match s.gtFind o kind with
  | none => s
  | some n =>
    match s.gtSlot n with
    | none => s
    | some r => (s.gtSet n (some { r with gone := true })).gtClear n

/-- A record of a kind from an origin stands with GONE = 1: a return of its condition is a new presentation (R388). -/
def State.standsGone (s : State) (o : Origin) (kind : Nat) : Bool :=
  s.gtRecords.any fun r => r.kind == kind && decide (r.origin = o) && r.gone

/-- A record's source still reports its condition: BU_COMPLIANCE, BU_OPEN_LOAD and BU_SENSE_OPEN are supervised only while
their SUP_EN bit is 1 and the unit is connected (R166). -/
def State.supervised (s : State) (r : GtRecord) : Bool :=
  if 0x40 ≤ r.kind ∧ r.kind ≤ 0x42 ∧ r.origin.level = .cell then
    let u := Fin.ofNat 2 r.origin.cell
    (s.bridge r.origin.siteOf u).connected && bitOf (s.buCtrl r.origin.siteOf u) (r.kind - 0x40 + 6)
  else true

/-- The conditions whose supervision has ended are gone (R166, R382). -/
def State.superviseEnd (s : State) : State :=
  s.forEach (s.gtRecords.filter fun r => !r.gone && !s.supervised r) fun r s => s.gone r.origin r.kind

/-- Acknowledges slot `n` (R395), not from a presentation to the cycle of its classification, 2 CK_SEQ cycles later; the counts
of the scopes that it forces or has forced are reset (R398; DEDUCED, log entry 1804). -/
def State.gtAck (s : State) (n : Nat) : State :=
  match s.gtSlot n with
  | none => s
  | some r =>
    if !s.cyclesPast r.heard 3 then s
    else
    let s := s.gtSet n (some { r with acked := true })
    let s := s.forEach r.reached fun sc s =>
      { s with gauntlet := { s.gauntlet with
          recovery := vmodN s.gauntlet.recovery sc.place fun _ => { count := 0, latched := false } } }
    s.gtClear n

/-! ## Presentation (R382, R388, R391) -/

/-- The records' times after a step of the time base by `d` grains. -/
def Gauntlet.shift (g : Gauntlet) (d : Int) : Gauntlet :=
  let move (r : GtRecord) : GtRecord :=
    { r with since := addGrains r.since d, heard := addGrains r.heard d, called := addGrains r.called d }
  { g with slots := g.slots.map (Option.map move), overflow := g.overflow.map move,
           loud := g.loud.map (Option.map (addGrains · d)), cleared := g.cleared.map (addGrains · d) }

/-- The highest APPLIED among the unacknowledged records of a class in a scope, when there is one. -/
def State.gtPeers (s : State) (cls : Nat) (home : Scope) : Option Nat :=
  match s.gtRecords.filter fun r => gtClass r.kind == cls && !r.acked && decide (r.origin.home = home) with
  | [] => none
  | r :: rs => some (rs.foldl (fun m r => max m r.applied) r.applied)

/-- The level a presentation applies, and whether it is escalated (R386, R391). -/
def State.gtLevel (s : State) (o : Origin) (kind flevel : Nat) : Nat × Bool :=
  let base := s.gtBase kind flevel
  let cls := gtClass kind
  let fenced := (o.level = .cell ∨ o.level = .site) ∧ s.siteState o.siteOf = .fenced
  if fenced then (min base 1, false)
  else if bitOf (s.gtCfg cls) 3 then
    match s.gtPeers cls o.home with
    | none => (base, false)
    | some m => (min (max base (m + 1)) (match gtLevels cls with | some r => r.2 | none => 4), true)
  else (base, false)

/-- The scopes of a presentation joined to those of its record. -/
def joinScopes (old new : List Scope) : List Scope := old ++ new.filter fun sc => !old.contains sc

/-- The GT_OVERFLOW record counts a lost presentation (R388). -/
def State.gtLost (s : State) (kind level : Nat) (scopes : List Scope) : State :=
  let now := time64 s.clock
  match s.gauntlet.overflow with
  | none =>
    (({ s with gauntlet := { s.gauntlet with rseq := s.gauntlet.rseq + 1 } }).gtSet 64 (some
      { origin := .ofChip, kind := 0xE0, detail := BitVec.ofNat 32 kind, tFirst := now, tLast := now, since := s.clock,
        heard := s.clock, called := s.clock, count := 1, applied := max 1 level, gone := false, acked := false,
            escalated := false, scopes := scopes, reached := scopes,
        rseq := s.gauntlet.rseq })).gtAnnounce 64
  | some r =>
    s.gtSet 64 (some { r with
      detail := BitVec.ofNat 32 kind, tLast := now, heard := s.clock, called := if r.acked then s.clock else r.called,
      count := satInc 0xFFFFFFFF r.count, applied := max r.applied level, gone := false, acked := false,
          scopes := joinScopes r.scopes scopes, reached := joinScopes r.reached scopes })

/-- The scopes that an origin lies in. -/
def Origin.around (o : Origin) : List Scope :=
  match o.level with
  | .cell => [.site o.siteOf, .region (regionOf o.siteOf), .chip]
  | .site => [.site o.siteOf, .region (regionOf o.siteOf), .chip]
  | .region => [.region (regionOf o.siteOf), .chip]
  | _ => [.chip]

/-- A presentation at a level restarts the quiet period of the scopes around its origin, from L1 on (R397). -/
def State.gtLoud (s : State) (o : Origin) (level : Nat) : State :=
  if level = 0 then s
  else { s with gauntlet := { s.gauntlet with
    loud := o.around.foldl (fun v sc => vmodN v sc.place fun _ => some s.clock) s.gauntlet.loud } }

/-- A kind presented with its origin and detail is recorded and forces its scopes; `flevel` is the level of a firing Mitten
rule. A site that is OFF presents nothing (R386). -/
def State.raise (s : State) (o : Origin) (kind : Nat) (detail : Nat) (flevel : Nat) : State :=
  if (o.level = .cell ∨ o.level = .site) ∧ s.siteState o.siteOf = .off then s
  else
    let detail := BitVec.ofNat 32 detail
    let now := time64 s.clock
    let (level, esc) := s.gtLevel o kind flevel
    let scopes := o.scopes level
    let s := s.gtLoud o level
    let s :=
      match s.gtFind o kind with
      | some n =>
        match s.gtSlot n with
        | none => s
        | some r =>
          let s := s.gtSet n (some { r with
            detail := detail, tLast := now, heard := s.clock,
            called := if r.acked ∨ r.applied = 0 then s.clock else r.called, count := satInc 0xFFFFFFFF r.count,
                applied := max r.applied level,
            gone := gtEvent kind, acked := false, escalated := r.escalated || esc,
            scopes := joinScopes r.scopes scopes, reached := joinScopes r.reached scopes })
          if esc then s.gtAnnounce n else s
      | none =>
        match s.gtFree with
        | some n =>
          (({ s with gauntlet := { s.gauntlet with rseq := s.gauntlet.rseq + 1 } }).gtSet n (some
            { origin := o, kind := kind, detail := detail, tFirst := now, tLast := now, since := s.clock, heard := s.clock,
              called := s.clock, count := 1, applied := level, gone := gtEvent kind, acked := false, escalated := esc,
              scopes := scopes, reached := scopes, rseq := s.gauntlet.rseq })).gtAnnounce n |>.gtOverflowCheck
        | none =>
          let s := s.gtLost kind level scopes
          if 1 ≤ level then s.gtNotify o kind detail now else s
    s.gtForce kind scopes

/-- A source presents a kind (R382). A force that opens a bridge unit ends the unit's supervision. -/
def State.present (s : State) (o : Origin) (kind : Nat) (detail : Nat) (flevel : Nat) : State :=
  (s.raise o kind detail flevel).superviseEnd

/-- A kind whose detail is the object that reports it: index << 8 | subindex (R383). -/
def State.presentObj (s : State) (o : Origin) (kind index sub : Nat) : State := s.present o kind (addrOf index sub) 0

/-! ## Release by RECOVERY (R397, R398) -/

/-- The conditions of RECOVERY on a scope, but for the quiet period. -/
def State.mayRecover (s : State) (sc : Scope) : Bool :=
  let rs := s.gtRecords.filter fun r => r.scopes.contains sc
  s.gtForced sc && s.cfg 0x2406 1 != 0 && !(vgetN s.gauntlet.recovery sc.place { count := 0, latched := false }).latched &&
    rs.all fun r => r.gone && bitOf (s.gtCfg (gtClass r.kind)) 4

/-- The end of the quiet period: QUIET after the latest presentation at L1 or above with its origin in the scope. -/
def State.quietEnd (s : State) (sc : Scope) : Time :=
  match vgetN s.gauntlet.loud sc.place none with
  | some t => laterOf s.clock (addGrains t (s.cfg 0x2404 1 * msGrains : Nat))
  | none => s.clock

/-- The scope is released by RECOVERY: its records stay, and its COUNT rises. -/
def State.gtRecover (s : State) (sc : Scope) : State :=
  let free (r : GtRecord) : GtRecord := { r with scopes := r.scopes.filter fun x => decide (x ≠ sc) }
  let g := s.gauntlet
  let limit := s.cfg 0x2406 1
  { s with gauntlet := { g with
      slots := g.slots.map fun r => r.map free
      overflow := g.overflow.map free
      recovery := vmodN g.recovery sc.place fun c =>
        { count := satInc 255 c.count, latched := c.latched || decide (limit ≤ c.count + 1) } } }

/-- Every condition with its origin in a site goes, because its sources are no longer powered. -/
def State.goneSite (s : State) (i : Fin 64) : State :=
  s.forEach (s.gtRecords.filter fun r => (Scope.site i).holds r.origin && !r.gone) fun r s => s.gone r.origin r.kind

end Sys2Proof.Machine
end

