-- ==== Sys2Proof/Machine/Assize.lean ====
section
/-! DEFINITION. The Assize log (chapter 21): entries, counter, links, checkpoints, capacity. -/
namespace Sys2Proof.Machine

/-! ## Capacity (R435–R438) -/

/-- UNIQUE_ID; the fuses never hold 0 (Table 2.8). -/
def uniqueId : BitVec 64 := if Config.dieSerial = 0 then 1 else Config.dieSerial

/-- ASZ_COUNTER: ERA in [63:48], N in [47:0] (R433). -/
def State.aszCounter (s : State) : BitVec 64 := BitVec.ofNat 64 (at_ s.assize.era 48 + s.assize.n.toNat)

/-- ASZ_EXPORTED's N. -/
def State.aszExportedN (s : State) : Nat := s.assize.exported.toNat % 2 ^ 48

/-- U = ASZ_COUNTER − ASZ_EXPORTED, over N (R435). -/
def State.aszU (s : State) : Nat := s.assize.n.toNat - s.aszExportedN

/-- Counter values taken by a checkpoint that is being signed and by the entries queued behind it (R434). -/
def State.aszOwed (s : State) : Nat := if s.assize.signing then 2 + s.assize.held.length else 0

/-- Counter values that `m` ordinary entries take from counter value `pos` on, checkpoints included: every entry with
N mod 256 = 253 is followed by two (R434). -/
def aszNeeded (pos m : Nat) : Nat := m + 2 * ((min (pos % 256) 253 + m) / 254)

/-- Ordinary entries reserved by held groups, PENDING trim records, code-density runs, calibration and sweeps (R436). -/
def State.aszReserved (s : State) : Nat :=
  (s.commit.groups.toList.map (·.reserved)).sum +
  (s.sites.toList.map fun t =>
    t.tdc.reserved + (t.mse.trims.toList.filter fun r => r.status == 1).length).sum +
  s.special.reserved + (s.cal.sites.toList.map (·.reserved)).sum + s.cal.sweep.reserved

/-- Counter values that U, the reservations and `k` further entries take together, checkpoints included. -/
def State.aszFill (s : State) (k : Nat) : Nat :=
  s.aszU + s.aszOwed + aszNeeded (s.assize.n.toNat + s.aszOwed) (s.aszReserved + k)

/-- ASZ_POLICY.POLICY = WRAP. -/
def State.aszWrap (s : State) : Bool := bitOf (s.cfg 0x2903 1) 0

/-- A write that produces `k` entries is accepted (R436, R437); none is while the log is DEAD or RNVM cannot be read. -/
def State.aszTakes (s : State) (k : Nat) : Bool :=
  k == 0 || (!s.assize.dead && s.nvm.readable && (s.aszWrap || decide (s.aszFill k ≤ 4080)))

/-- ASZ_NEAR_FULL is present (R438). -/
def State.aszNear (s : State) : Bool := decide (s.cfg 0x2903 2 ≤ s.aszU)

/-- ASZ_FULL is present (R438). -/
def State.aszFull (s : State) : Bool := if s.aszWrap then decide (4096 ≤ s.aszU) else decide (4080 ≤ s.aszFill 0)

/-- Presents ASZ_NEAR_FULL and ASZ_FULL as they rise and go. -/
def State.aszWatch (s : State) : State :=
  let near := s.aszNear
  let full := s.aszFull
  let wasNear := s.assize.nearIn
  let wasFull := s.assize.fullIn
  let s := { s with assize := { s.assize with nearIn := near, fullIn := full } }
  let s := if near && !wasNear then s.presentObj .ofChip 0xC8 0x2901 3 else if !near && wasNear then s.gone .ofChip 0xC8 else s
  if full && !wasFull then s.presentObj .ofChip 0xC9 0x2901 3 else if !full && wasFull then s.gone .ofChip 0xC9 else s

/-- Reservations have been released: ASZ_FULL goes when the free count is above 0 again (R438). -/
def State.aszFreed (s : State) : State :=
  if s.assize.fullIn && !s.aszFull then ({ s with assize := { s.assize with fullIn := false } }).gone .ofChip 0xC9 else s

/-! ## Making an entry (R430, R431) -/

/-- Bytes 48–63 of the latest entry, or the link that the first entry of an era takes. -/
def State.aszPrevLink (s : State) : List Byte :=
  match s.assize.entries with
  | e :: _ => bytesLE (e.bytes.toNat / 2 ^ 384) 16
  | [] => (sha256 (bytesLE uniqueId.toNat 8 ++ bytesLE s.assize.era 2)).take 16

/-- Appends the entry with these bytes 4–47 at the next counter value. -/
def State.aszAppend (s : State) (d : AszDraft) : State :=
  let c := s.aszCounter
  let head := field c.toNat 31 0 + at_ d.body.toNat 32
  let link := natLE ((sha256 (bytesLE head 48 ++ s.aszPrevLink)).take 16)
  { s with assize := { s.assize with
      entries := ({ counter := c, bytes := BitVec.ofNat 512 (head + at_ link 384) } :: s.assize.entries).take 4096
      n := s.assize.n + 1
      queued := min 64 (s.assize.queued + 1) } }

/-- An entry is made, or waits behind the checkpoint being signed; the entry with N mod 256 = 253 starts a signature (R434). -/
def State.aszMake (s : State) (d : AszDraft) : State :=
  if s.assize.signing then { s with assize := { s.assize with held := s.assize.held ++ [d] } }
  else
    let last := s.assize.n.toNat % 256 == 253
    let s := s.aszAppend d
    { s with assize := { s.assize with signing := last } }

/-- TOUCHDOWN_INDEX in force. -/
def State.touchdown (s : State) : Nat := s.cfg 0x2010 2

/-- The die of unit `u` of a site, X in [15:0] and Y in [31:16]; none when either coordinate reads 0x8000 (R57). -/
def State.dieOf (s : State) (i : Fin 64) (u : Nat) : Option Nat :=
  let v := s.cfg 0x2010 (3 + i.val)
  let xy := if u = 0 then field v 31 0 else field v 63 32
  if field xy 15 0 = 0x8000 ∨ field xy 31 16 = 0x8000 then none else some xy

/-- Whom an entry concerns: SITE, UNIT with HAS_DIE, DIE (Table 21.2). -/
structure AszPlace where
  site : Nat
  unit : Nat
  die  : Nat
  deriving DecidableEq, Repr

/-- A chip-level entry. -/
def AszPlace.chip : AszPlace := { site := 0xFF, unit := 0xF, die := 0x80008000 }

/-- An entry of a site. -/
def AszPlace.ofSite (i : Fin 64) : AszPlace := { AszPlace.chip with site := i.val }

/-- An entry of a cell. -/
def AszPlace.ofCell (i : Fin 64) (c : Nat) : AszPlace := { site := i.val, unit := c, die := 0x80008000 }

/-- An entry of a bridge unit, with its die. -/
def State.aszUnit (s : State) (i : Fin 64) (u : Nat) : AszPlace :=
  match s.dieOf i u with
  | some xy => { site := i.val, unit := u + 16, die := xy }
  | none => { site := i.val, unit := u, die := 0x80008000 }

/-- What a subindex concerns (R430). -/
def State.aszPlaceOf (s : State) (addr : Nat) : AszPlace :=
  let ix := indexOf addr
  let sub := subOf addr
  if ix = 0x2606 then s.aszUnit (Fin.ofNat 64 ((sub - 1) / 2)) ((sub - 1) % 2)
  else if 0x2610 ≤ ix ∧ ix ≤ 0x2613 then
    let p := (ix - 0x2610) * 128 + (sub - 1)
    .ofCell (Fin.ofNat 64 (p / 8)) (p % 8)
  else match placeOf ix with
    | .site i off =>
      if off = 0xA3 then s.aszUnit i (sub - 1)
      else if off = 0xE8 then (if 5 ≤ sub ∧ sub ≤ 12 then .ofCell i (sub - 5) else .chip)
      else .ofSite i
    | _ => .chip

/-- The draft of an entry: time, kind with its source, place, context in force, payload (byte 26 lowest). -/
def State.aszDraft (s : State) (kind : Nat) (src : Source) (p : AszPlace) (payload : Nat) : AszDraft :=
  { body := BitVec.ofNat 352
      ((time64 s.clock).toNat + at_ (kind + at_ src.code 12) 64 + at_ p.site 80 + at_ p.unit 88 + at_ (s.touchdown % 2 ^ 32) 96 +
       at_ p.die 128 + at_ s.commit.generation.toNat 160 + at_ payload 176) }

/-- An entry of an accepted write, group, load or procedure. -/
def State.aszEntry (s : State) (kind : Nat) (src : Source) (p : AszPlace) (payload : Nat) : State :=
  if s.assize.dead || !s.nvm.readable then s else (s.aszMake (s.aszDraft kind src p payload)).aszWatch

/-- An entry that the device makes by itself; under HALT it is lost and counted when the sixteen slots are used (R436). -/
def State.aszDevice (s : State) (kind : Nat) (p : AszPlace) (payload : Nat) : State :=
  if s.assize.dead || !s.nvm.readable || (!s.aszWrap && decide (4096 < s.aszFill 1)) then
    { s with assize := { s.assize with lost := satInc 0xFFFF s.assize.lost } }
  else (s.aszMake (s.aszDraft kind .device p payload)).aszWatch

/-- A CHANGE entry (R43, R429): address, length in bytes, old and new value. -/
def State.aszChange (s : State) (src : Source) (addr len old new : Nat) : State :=
  s.aszEntry 0x001 src (s.aszPlaceOf addr) (addr + at_ len 24 + at_ (old % 2 ^ 64) 32 + at_ (new % 2 ^ 64) 96)

/-! ## Checkpoints (R434) -/

/-- The message that a checkpoint signs: the entry, UNIQUE_ID, its counter. -/
def State.aszMessage (s : State) : List Byte :=
  match s.assize.entries with
  | e :: _ => bytesLE e.bytes.toNat 64 ++ bytesLE uniqueId.toNat 8 ++ bytesLE e.counter.toNat 8
  | [] => []

/-- A checkpoint half: bytes 4–15 as every entry, bytes 16–47 the half of the signature. -/
def State.aszHalf (s : State) (kind half : Nat) : AszDraft :=
  { body := BitVec.ofNat 352
      ((time64 s.clock).toNat + at_ (kind + at_ 7 12) 64 + at_ 0xFF 80 + at_ 0xF 88 + at_ (half % 2 ^ 256) 96) }

/-- CKPT_R and CKPT_S are made, then the entries queued behind them. -/
def State.aszSigned (s : State) : State :=
  if s.assize.signing then
    let sig := (Config.sign s.aszMessage).toNat
    let s := (s.aszAppend (s.aszHalf 0x0FE sig)).aszAppend (s.aszHalf 0x0FF (sig / 2 ^ 256))
    let held := s.assize.held
    let s := { s with assize := { s.assize with signing := false, held := [] } }
    (s.forEach held fun d s => s.aszMake d).aszWatch
  else s

end Sys2Proof.Machine
end

