-- ==== Sys2Proof/Machine/Arbiter.lean ====
section
/-! DEFINITION. Arbitration: the starvation rule of R22 and R24, the weighted round robin of R25. -/
namespace Sys2Proof.Machine

/-- The position that R22 grants: the lowest starving requester, else the lowest requester. `counts` are the starvation
counters and `reqs` the requests, by position. -/
def starveWinner (counts : List Nat) (reqs : List Bool) : Option Nat :=
  match (counts.zip reqs).findIdx? fun p => p.2 && decide (16 ≤ p.1) with
  | some n => some n
  | none => reqs.findIdx? id

/-- The starvation counters after a grant to position `w`: those of the other requesters rise, the rest return to 0. -/
def starveGrant {n : Nat} (counts : Vector Nat n) (reqs : List Bool) (w : Nat) : Vector Nat n :=
  Vector.ofFn fun p => if p.val = w then 0 else if reqs.getD p.val false then counts[p.val] + 1 else 0

/-- The local site that a weighted round robin grants next (R25): the site of the round while its weight lasts, else the next
requesting site in ascending order. -/
def Wrr.winner (a : Wrr) (weight : Nat → Nat) (reqs : List Nat) : Option Nat :=
  if reqs.contains a.pos && decide (a.used < weight a.pos) then some a.pos
  else match reqs.find? fun k => decide (a.pos < k) with
    | some k => some k
    | none => reqs.head?

/-- The round after a grant to local site `k`. -/
def Wrr.granted (a : Wrr) (weight : Nat → Nat) (k : Nat) : Wrr :=
  if a.pos = k ∧ a.used < weight k then { a with used := a.used + 1 } else { pos := k, used := 1 }

/-- RG_ARB_WEIGHT of a local site: field [hi:lo]. -/
def State.arbWeight (s : State) (q : Fin 4) (hi lo : Nat) (k : Nat) : Nat := field (s.regionCfg q 0x02 (k + 1)) hi lo

/-- The local sites of a region that ask for a resource, ascending; sites in OFF or FENCED do not take part. -/
def State.requesters (s : State) (q : Fin 4) (asks : Fin 64 → Bool) : List Nat :=
  (List.range 16).filter fun k =>
    let i := siteAt q (Fin.ofNat 16 k)
    asks i && s.siteState i != .off && s.siteState i != .fenced

/-- Conversions of the housekeeping round of a region: RQ, 15 supply and reference monitors, and five sensors of each site that
is powered and not in the hot class (R364). They go ahead of the sites' requests (R26). -/
def State.hkRound (s : State) (q : Fin 4) : Nat :=
  16 + 5 * ((sitesOf q).filter fun i => s.siteState i != .off && !(s.siteThermal i).hot).length

/-- A conversion of the present 2.048 ms round of 2,048 is left for a site's request (R26). -/
def State.adcRoom (s : State) (q : Fin 4) : Bool := decide ((s.thermal.regions[q.val]).granting + s.hkRound q < 2048)

end Sys2Proof.Machine
end

