-- ==== Sys2Proof/Machine/PatMem.lean ====
section
/-! DEFINITION. Region pattern memory: its reads for segment fills, granted by weighted round robin (R25, R141, R142). -/
namespace Sys2Proof.Machine

/-- Segments of a PSQ that a region fill equal to `f` fills (R142). -/
def equalFills (p : Psq) (f : Fill) : List (Fin 8) := (List.finRange 8).filter fun g => (p.seg g.val).fill == some f

/-- Sites of a region with a fill equal to `f`: one broadcast read, but for a site that has gone OFF (R142). -/
def State.fillSites (s : State) (q : Fin 4) (f : Fill) : List (Fin 64) :=
  (sitesOf q).filter fun j => s.siteState j != .off && !(equalFills (s.site j).psq f).isEmpty

/-- The read is granted in the turn of its lowest participant that takes part in R25. -/
def State.fillLeads (s : State) (i : Fin 64) (f : Fill) : Bool :=
  (s.fillSites (regionOf i) f).find? (fun j => s.siteState j != .fenced) == some i

/-- The read for which a site asks: of several, the one committed first, then that of the lowest segment (DESIGN CHOICE, log
entry 103). -/
def State.memAsk (s : State) (i : Fin 64) : Option Fill :=
  (List.finRange 8).foldl (fun a g =>
    match ((s.site i).psq.seg g.val).fill with
    | some f =>
      if f.xip || f.left == 0 || !s.fillLeads i f then a
      else match a with
        | some b => if before f.t0 b.t0 then some f else a
        | none => some f
    | none => a) none

/-- A grant of up to 64 vectors, one in each CK_PAT cycle from `memT` on; none where no site asks. -/
def State.memGrant (s : State) (q : Fin 4) : Option State :=
  let r := s.region q
  let w := s.arbWeight q 3 0
  match r.memArb.winner w (s.requesters q fun j => (s.memAsk j).isSome) with
  | none => none
  | some k =>
    match s.memAsk (siteAt q (Fin.ofNat 16 k)) with
    | none => none
    | some f =>
      let n := min 64 f.left
      let t := addGrains r.memT (n * patGrains : Nat)
      let f' : Fill := { f with left := f.left - n, ends := if f.left = n then some t else none }
      let s := s.modRegion q fun r => { r with memArb := r.memArb.granted w k, memT := t }
      some (s.forEach (s.fillSites q f) fun j s =>
        s.forEach (equalFills (s.site j).psq f) fun g s =>
          s.modPsq j fun p => p.modSeg g.val fun m => { m with fill := some f' })

/-- Grants while `more` holds, at most `n`. -/
def State.memRun (s : State) (q : Fin 4) (more : State → Bool) : Nat → State
  | 0 => s
  | n + 1 =>
    if more s then
      match s.memGrant q with
      | some s' => s'.memRun q more n
      | none => s
    else s

/-- Grants of 64 vectors that eight segments of 16 sites can ask for. -/
def memFuel : Nat := 8192

/-- The grants of a region that have begun by now; none while CK_PAT is gated. -/
def State.memServe (s : State) (q : Fin 4) : State :=
  let now := s.clock
  let s := if s.fastClocks then s.memRun q (fun s => before (s.region q).memT now) memFuel else s
  s.modRegion q fun r => { r with memT := laterOf r.memT now }

/-- The grants of every region. -/
def State.memSync (s : State) : State := s.forEach (List.finRange 4) fun q s => s.memServe q

/-- The grants that a read of site `i` waits for, to its last (R142): it waits while no participant takes part in R25. -/
def State.memFinish (s : State) (i : Fin 64) (g : Fin 8) : State :=
  if s.fastClocks then
    s.memRun (regionOf i) (fun s => match ((s.site i).psq.seg g.val).fill with
      | some f => f.ends.isNone
      | none => false) memFuel
  else s

end Sys2Proof.Machine
end

