-- ==== Sys2Proof/Machine/Clock.lean ====
section
/-! DEFINITION. The main PLL, holdover and return, clock outputs, SYNC_IN and the time base (chapter 03). -/
namespace Sys2Proof.Machine

/-! ## Steps of the time base (R84, R188, R254) -/

/-- A list of what ended when. -/
def shiftOld {α : Type} (d : Int) (l : List (Time × α)) : List (Time × α) := l.map fun e => (addGrains e.1 d, e.2)

/-- A move that keeps its instants when the time base steps by `d`. -/
def Level.shift (d : Int) : Level → Level
  | .still c => .still c
  | .moving m => .moving { m with t0 := addGrains m.t0 d }

/-- A cell whose instants are expressed on the new time base. -/
def PinCell.shift (d : Int) (c : PinCell) : PinCell :=
  { c with recent := c.recent.map (fun p => { p with t := addGrains p.t d }), undriven := addGrains c.undriven d,
           caused := (addGrains c.caused.1 d, c.caused.2), collAt := c.collAt.map (addGrains · d),
           collClear := c.collClear.map (addGrains · d),
           vih := c.vih.shift d, vil := c.vil.shift d, vtt := c.vtt.shift d, force := c.force.shift d,
           cmpLeft := c.cmpLeft.map (addGrains · d), cmpHist := shiftOld d c.cmpHist,
               stampWin := c.stampWin.map fun p => (addGrains p.1 d, addGrains p.2 d) }

/-- A PSQ whose vector grid is expressed on the new time base. -/
def Psq.shift (d : Int) (p : Psq) : Psq :=
  { p with zero := addGrains p.zero d, waitFrom := addGrains p.waitFrom d, goto := p.goto.map (fun g => (g.1, addGrains g.2 d)),
           stopAt := p.stopAt.map (addGrains · d), stopped := p.stopped.map (addGrains · d),
           used := p.used.map (fun e => (addGrains e.1 d, e.2)), ext := p.ext.map (fun e => (e.1, addGrains e.2.1 d, e.2.2)),
           trigPulses := p.trigPulses.map (fun g => (g.1, addGrains g.2 d)), lineHist := shiftOld d p.lineHist,
           tsetOld := p.tsetOld.map (fun e => (e.1, e.2.1, addGrains e.2.2 d)),
           segs := p.segs.map fun g => { g with fill := g.fill.map fun f => { f with t0 := addGrains f.t0 d,
                                                                                     ends := f.ends.map (addGrains · d) } } }

/-- A bridge unit; T_START moves with the step (R188). -/
def Bridge.shift (d : Int) (b : Bridge) : Bridge :=
  { b with offset := b.offset.shift d, ampl := b.ampl.shift d, waves := b.waves.map (fun w => { w with from_ := addGrains w.from_ d }),
           caused := (addGrains b.caused.1 d, b.caused.2), cleared := (addGrains b.cleared.1 d, b.cleared.2),
           hist := shiftOld d b.hist, stopCycle := b.stopCycle.map (addGrains · d), tStart := addGrains b.tStart d,
           t0 := addGrains b.t0 d }

/-- A Bushel; a step inside a capture is reported, and T_TRIG as it reads stays (Table 12.4). -/
def Bushel.shift (d : Int) (b : Bushel) : Bushel :=
  { b with armedAt := addGrains b.armedAt d, hist := b.hist.map (fun e => (addGrains e.1 d, e.2)), tTrig := addGrains b.tTrig d,
           stepBy := b.stepBy + d, step := b.step || (b.state == .capturing) }

/-- An MSE. -/
def Mse.shift (d : Int) (m : Mse) : Mse :=
  { m with deferFrom := addGrains m.deferFrom d, dueAt := addGrains m.dueAt d, began := addGrains m.began d,
           landed := m.landed.map (addGrains · d) }

/-- A DSP. -/
def Dsp.shift (d : Int) (p : Dsp) : Dsp :=
  { p with due := addGrains p.due d, flags := shiftOld d p.flags, pubs := p.pubs.map fun e => e.map fun w => (addGrains w.1 d, w.2),
           crcFrom := p.crcFrom.map (addGrains · d), tableFrom := p.tableFrom.map (addGrains · d) }

/-- A site whose instants are expressed on the new time base. -/
def Site.shift (d : Int) (t : Site) : Site :=
  { t with ctl := { t.ctl with hist := shiftOld d t.ctl.hist }, cells := t.cells.map (PinCell.shift d), psq := t.psq.shift d,
           mse := t.mse.shift d, bridges := t.bridges.map (Bridge.shift d),
           dsp := t.dsp.shift d, tdc := t.tdc.stepped d,
           stream := { t.stream with bushel := t.stream.bushel.shift d, rtrigAt := t.stream.rtrigAt.map (addGrains · d) } }

/-- A region: the holdoffs of its match units, and the cycles in which matcher slots were changed. -/
def Region.shift (d : Int) (r : Region) : Region :=
  { r with memT := addGrains r.memT d, spare := r.spare.shift d,
           units := r.units.map (fun u => { u with holdoff := u.holdoff.map (addGrains · d), matchedAt := addGrains u.matchedAt d }),
           slotsNew := r.slotsNew.map fun e => (e.1, addGrains e.2 d) }

/-- The settings of a clock output. -/
def CkoSetting.shift (d : Int) (c : CkoSetting) : CkoSetting := { c with rise := addGrains c.rise d }

/-- A clock output. -/
def Cko.shift (d : Int) (c : Cko) : Cko :=
  { c with from_ := addGrains c.from_ d, cur := c.cur.shift d, next := c.next.map fun n => (addGrains n.1 d, n.2.shift d) }

/-- A MARK ball. -/
def MarkBall.shift (d : Int) (b : MarkBall) : MarkBall :=
  { b with spans := b.spans.map fun m => { m with from_ := addGrains m.from_ d, pulseEnd := m.pulseEnd.map (addGrains · d) } }

/-- The times that thermal steps, the budget and deferrals count from. -/
def Thermal.shift (d : Int) (t : Thermal) : Thermal :=
  { t with
    sites := t.sites.map fun x =>
      { x with downFrom := x.downFrom.map (addGrains · d), upFrom := x.upFrom.map (addGrains · d), calm := x.calm.map (addGrains · d),
               stepMark := x.stepMark.map (fun m => (addGrains m.1 d, m.2)), hotAt := x.hotAt.map (addGrains · d) }
    pAt := addGrains t.pAt d
    lowSince := t.lowSince.map (addGrains · d) }

/-- When procedures became pending. -/
def Cal.shift (d : Int) (c : Cal) : Cal :=
  { c with sites := c.sites.map fun x => { x with since := x.since.map (addGrains · d), stepFrom := addGrains x.stepFrom d,
                                                  hist := shiftOld d x.hist } }

/-- When frames were last sent. -/
def Can.shift (d : Int) (c : Can) : Can :=
  { c with lastEmcy := c.lastEmcy.map (addGrains · d), beat := addGrains c.beat d
           session := c.session.map fun u => { u with last := addGrains u.last d }
           tpdos := c.tpdos.map fun x => { x with lastSent := x.lastSent.map (addGrains · d) } }

/-- Apply cycles of queued transfers. -/
def Spm.shift (d : Int) (m : Spm) : Spm :=
  let mv (j : XipJob) : XipJob := { j with t := addGrains j.t d }
  { m with queue := m.queue.map mv, current := m.current.map mv }

/-- When packets that wait or that have been consumed were stamped (R328). -/
def Furlong.shift (d : Int) (f : Furlong) : Furlong :=
  { f with ports := f.ports.map fun (q : Port) =>
             { q with txWait := q.txWait.map (fun w => { w with stamp := addGrains w.stamp d }), since := addGrains q.since d },
           transfers := f.transfers.map fun t => { t with last := addGrains t.last d },
           inbox := f.inbox.map fun p => { p with time := addGrains p.time d } }

/-- A wake in progress. -/
def WakeState.shift (d : Int) : WakeState → WakeState
  | .idle => .idle
  | .lock t => .lock (addGrains t d)

/-- A group at a time-base step of `d` grains from `t`: what is counted in cycles or in ms moves with the time base, and a
scheduled group whose T the step passes is STEPPED (R296). -/
def Group.passed (g : Group) (t : Time) (d : Int) : Group :=
  let g := { g with applyCycle := g.applyCycle.map (addGrains · d), prepFrom := addGrains g.prepFrom d, heard := addGrains g.heard d }
  match g.due with
  | some (.at x) => if g.state = .scheduled ∧ before t x ∧ ¬ before (addGrains t d) x then { g with stepped := true } else g
  | some (.asap c) => { g with due := some (.asap (addGrains c d)) }
  | none => g

/-- The pulses of TRIG_OUT, of the bus lines and of the chain slots. -/
def ChipTrig.shift (d : Int) (c : ChipTrig) : ChipTrig :=
  { c with outs := c.outs.map fun l => l.map fun p => (addGrains p.1 d, addGrains p.2 d),
           bus := c.bus.map (fun p => (p.1, addGrains p.2 d)), slots := c.slots.map fun p => (p.1, addGrains p.2 d) }

/-- The time base steps by `d` grains: LAST_STEP reads `reported`, TIME_STEP enters every active stream, and a step into
another epoch sends an EPOCH packet. -/
def State.timeStep (s : State) (d reported : Int) : State :=
  let old := epochOf s.clock
  let s := { s with
    clock := addGrains s.clock d,
    access := { s.access with cycle := s.access.cycle.map (addGrains · d) },
    sites := s.sites.map (Site.shift d),
    regions := s.regions.map (Region.shift d),
    ckos := s.ckos.map (Cko.shift d),
    balls := s.balls.map (MarkBall.shift d),
    thermal := s.thermal.shift d,
    cal := s.cal.shift d,
    can := s.can.shift d,
    spm := s.spm.shift d,
    furlong := s.furlong.shift d,
    mitten := { s.mitten with wake := s.mitten.wake.shift d, outAt := s.mitten.outAt.map (addGrains · d) },
    gauntlet := s.gauntlet.shift d,
    special := s.special.stepped d,
    commit := { s.commit with groups := s.commit.groups.map fun (g : Group) => g.passed s.clock d },
    chipTrig := s.chipTrig.shift d,
    pll := { s.pll with lastStep := BitVec.ofInt 64 reported, slewFrom := addGrains s.pll.slewFrom d,
                        absorbFrom := s.pll.absorbFrom.map (addGrains · d) } }
  let s := s.markAll 0x05 s.clock (BitVec.ofInt 64 reported).toNat
  if epochOf s.clock = old then s else s.epochPacket

/-! ## Clock outputs (R74–R77) -/

/-- The delay of CKOn in grains: FINE × 4 plus WHOLE × 80. -/
def ckoDelay (v : Nat) : Nat := 4 * field v 8 0 + 80 * field v 31 16

/-- The output period in grains (R74). -/
def CkoSetting.period (c : CkoSetting) : Int := (80 * c.div : Nat)

/-- The high phase in grains. -/
def CkoSetting.high (c : CkoSetting) : Int := (80 * ((c.div + 1) / 2) : Nat)

/-- The half-period in grains. -/
def CkoSetting.half (c : CkoSetting) : Int := (80 * (c.div / 2) : Nat)

/-- The first rising edge at or after `t`: the end of a low phase, the divider's terminal count. -/
def CkoSetting.nextRise (c : CkoSetting) (t : Time) : Time := addGrains t ((span t c.rise) % c.period)

/-- The end of the high phase that holds `t`; `t` itself in a low phase. -/
def CkoSetting.highEnd (c : CkoSetting) (t : Time) : Time :=
  let e := addGrains (c.nextRise (addGrains t 1)) (c.high - c.period)
  if before t e then e else t

/-- The output at `t`: settings whose terminal count has come are in force. -/
def Cko.settled (c : Cko) (t : Time) : Cko :=
  match c.next with
  | some n => if before t n.1 then c else { c with cur := n.2, next := none }
  | none => c

/-- A new DIV or delay takes over at the next terminal count (R75): an increase stretches the low phase by it, a decrease by one
period less the decrease. DESIGN CHOICE (log entry 305): a decrease of more than one period stretches it to the same phase. -/
def Cko.retuned (c : Cko) (t : Time) (div delay : Nat) : Cko :=
  let c := c.settled t
  if c.cur.div = div ∧ c.cur.delay = delay then { c with next := none }
  else
    let d : Int := (delay : Int) - c.cur.delay
    let at_ := c.cur.nextRise t
    { c with next := some (at_, { div := div, delay := delay, rise := addGrains at_ (if d < 0 then d % c.cur.period else d) }) }

/-- The output is to run or to be held low from `t` on (R75): it starts at the next terminal count, and completes a high phase
before it is held. A change taken back before its instant leaves the output as it was. -/
def Cko.switched (c : Cko) (t : Time) (on : Bool) : Cko :=
  let c := c.settled t
  if c.running = on then c
  else if before t c.from_ then { c with running := on, from_ := t }
  else { c with running := on, from_ := if on then c.cur.nextRise t else c.cur.highEnd t }

/-- RUNNING at `t`. -/
def Cko.runs (c : Cko) (t : Time) : Bool := if before t c.from_ then !c.running else c.running

/-- Output `n` after a commit or a change of the PLL: settings, RUNNING, HELD_RELOCK, ECON_STOPPED (R73, R75, R77). -/
def State.ckoUpdate (s : State) (n : Fin 4) : State :=
  let cfg := s.cfg (0x2110 + n.val)
  let div := cfg 2 + 1
  let econ := s.pll.economy && (div % 4 != 0 || field (cfg 3) 31 16 % 4 != 0)
  let held := s.pll.relocking
  { s with ckos := vmod s.ckos n fun c =>
      { (c.retuned s.clock div (ckoDelay (cfg 3))).switched s.clock (cfg 1 == 1 && !econ && !held) with
        heldRelock := held, econStopped := econ } }

/-- Every output. -/
def State.ckoAll (s : State) : State := s.forEach (List.finRange 4) fun n s => s.ckoUpdate n

/-- An output restarts at a DIV_RESET edge at corrected time `t` (R76): a rising edge that would follow the end of a high
phase in progress by less than one half-period is skipped. Settings that wait for a terminal count take over at the restart. -/
def Cko.restarted (c : Cko) (t now : Time) : Cko :=
  let c := c.settled now
  let highEnd := c.cur.highEnd now
  let upd := match c.next with
    | some n => n.2
    | none => c.cur
  let rise := addGrains t (81920 + upd.delay : Nat)
  let late := c.runs now && before now highEnd && decide (span highEnd rise < upd.half)
  { c with cur := { upd with rise := if late then addGrains rise upd.period else rise }, next := none }

/-- STATUS of an output at `t`. -/
def Cko.status (c : Cko) (t : Time) : Nat := b2n (c.runs t) + at_ (b2n c.heldRelock) 1 + at_ (b2n c.econStopped) 2

/-! ## States of the PLL (Table 3.5) -/

/-- STATE codes, Table 3.4. -/
def PllState.code : PllState → Nat
  | .bypass => 0 | .acquire => 1 | .locked => 2 | .holdover => 3 | .ret => 4 | .slew => 5 | .resyncWait => 6 | .unlocked => 7

/-- FLAGS.LOCKED (R63). -/
def Pll.locked (p : Pll) : Bool := p.state == .locked || p.state == .slew

/-- FLAGS. -/
def Pll.flags (p : Pll) : Nat :=
  b2n p.locked + at_ (b2n p.economy) 1 + at_ (b2n p.linkLocked) 2 + at_ (b2n p.refPresent) 3 + at_ (b2n p.jUnknown) 4

/-- In FULL and locked, as UNPARK and FENCE ask (Table 1.9). -/
def State.pllReady (s : State) : Bool := s.pll.locked && !s.pll.economy

/-- The moves of a site whose CK_SEQ cycle takes `cyc` grains from `t` on, and its sine generators when CK_PAT stops or runs
again. -/
def State.siteReclocked (s : State) (i : Fin 64) : State :=
  let s := s.forEach allCells fun c s => s.modCell i c fun q => q.reclocked s.seqLen s.cycle
  s.forEach allUnits fun u s =>
    (s.modBridge i u fun b => { b with offset := b.offset.reclocked s.seqLen s.cycle, ampl := b.ampl.reclocked s.seqLen s.cycle }).waveSet
      i u s.clock

/-- `s` with the PLL changed. Where that changes the length of the CK_SEQ cycle, or stops or starts CK_PAT, what counts their
cycles goes on from where it stands. -/
def State.modPll (s : State) (f : Pll → Pll) : State :=
  let t : State := { s with pll := f s.pll }
  if t.seqLen = s.seqLen ∧ t.fastClocks = s.fastClocks then t
  else
    let u := s.memSync
    ({ u with pll := f u.pll }).forEach allSites fun i t => t.siteReclocked i

/-- The PLL enters ACQUIRE: a transfer in progress ends and will restart from its beginning (R360). -/
def State.xipRestart (s : State) : State :=
  match s.spm.current with
  | none => s
  | some j =>
    { s with spm := { s.spm with current := none, queue := j :: s.spm.queue, restarts := satInc 0xFFFF s.spm.restarts } }

/-- The PLL, LOCKED, takes up a MODE that differs from the active one (R61, R73): ACQUIRE, with the clock outputs held. -/
def State.modeEffect (s : State) : State :=
  if s.pll.state = .locked ∧ decide (s.cfg 0x2100 1 = 1) ≠ s.pll.economy then
    ((s.modPll fun p => { p with state := .acquire, lostInAcquire := false, jLost := false }).ckoAll).xipRestart
  else s

/-- W of PLL_LOCK_CFG. -/
def State.lockWindow (s : State) : Int := (s.cfg 0x2101 1 : Nat)

/-- SLEW_REMAIN at the present time: the correction runs at 512 grains per millisecond (R68). -/
def State.slewLeft (s : State) : Int :=
  let r := s.pll.slewRemain
  let done := (span s.pll.slewFrom s.clock).toNat / 1000000
  if r.natAbs ≤ done then 0 else if 0 < r then r - done else r + done

/-- The instant at which the correction is complete. -/
def State.slewEnds (s : State) : Time := addGrains s.pll.slewFrom (s.pll.slewRemain.natAbs * 1000000 : Nat)

/-- The PLL enters LOCKED: PLL_LOCK_LOST goes; a SLEW_END is placed when `endMark` holds. A base MODE that found the PLL not
LOCKED is taken up now (DESIGN CHOICE, log entry 306). -/
def State.pllLocked (s : State) (endMark : Bool) : State :=
  let s := (s.modPll fun p => { p with state := .locked, slewBegun := false, stepped := false, slewRemain := 0,
                                       lostInAcquire := false, jLost := false }).gone .ofChip 0x10
  (if endMark then s.markAll 0x04 s.clock 0 else s).modeEffect

/-- PHASE_ERR at the present time: an error that the loop absorbs leaves it at 512 grains per millisecond (R67). -/
def State.phaseNow (s : State) : BitVec 16 :=
  match s.pll.absorbFrom with
  | none => s.pll.phaseErr
  | some t =>
    let done := (span t s.clock).toNat / 1000000
    let e := s.pll.phaseErr.toInt
    if e.natAbs ≤ done then 0 else BitVec.ofInt 16 (if 0 < e then e - done else e + done)

/-- A phase error as PHASE_ERR holds it. -/
def phaseField (j : Int) : BitVec 16 := BitVec.ofInt 16 (clampInt (-32768) 32767 j)

/-- J_LAST: 0x8000_0000 when J is unknown (Table 3.4). -/
def jWord : Option Int → BitVec 32
  | some v => BitVec.ofInt 32 (clampInt (-2147483647) 2147483647 v)
  | none => 0x80000000#32

/-- J is decided (R67). `atEdge` tells that it was measured at a SYNC_IN edge on the grid. -/
def State.decideJ (s : State) (j : Option Int) (atEdge : Bool) : State :=
  let s := s.modPll fun p => { p with phaseAtReturn := none, jUnknown := j.isNone, jLast := jWord j }
  let resync (s : State) : State := s.modPll fun p => { p with state := .resyncWait, stepped := false }
  match j with
  | none => resync s
  | some j =>
    if j.natAbs ≤ s.lockWindow.natAbs then
      (s.modPll fun p => { p with phaseErr := phaseField j, absorbFrom := some s.clock }).pllLocked true
    else if j.natAbs ≤ 51200 ∧ s.cfg 0x2103 1 = 0 then
      (s.modPll fun p => { p with state := .slew, slewRemain := -j, slewFrom := s.clock, slewBegun := true }).markAll 0x03 s.clock
        (BitVec.ofInt 64 j).toNat
    else if atEdge then (s.timeStep (-j) (-j)).modPll fun p => { p with state := .resyncWait, stepped := true, jLost := false }
    else resync s

/-- A phase error folded into −2,560 to +2,560 grains (R66). -/
def foldPhase (p : Int) : Int :=
  let m := (p + 2560) % 5120 - 2560
  if m = -2560 ∧ 0 < p then 2560 else m

/-! ## The grid (R80) -/

/-- P in grains. -/
def State.gridPeriod (s : State) : Int := (s.cfg 0x2120 3 * 5120 : Nat)

/-- The grid point nearest `t`; half-way counts to the lower one. -/
def gridPoint (anchor t : Time) (p : Int) : Time :=
  let g := span anchor t
  addGrains anchor ((g + (p - 1) / 2) / p * p)

/-- The armed actions of an accepted edge at corrected time `t` (R76, R79), and the RESYNC step that an EPOCH edge makes.
DESIGN CHOICE (log entry 302): an EPOCH edge sets the anchor to 0 (R80) also where it is the first edge after a qualification
without an anchor, which under R66 sets none. -/
def State.syncActions (s : State) (t : Time) : State :=
  let arm := s.cfg 0x2120 2
  let s := s.setVal (addrOf 0x2120 2) 0
  let s : State := if bitOf arm 1 then
      { s with ckos := Vector.ofFn fun n =>
          if s.cfg (0x2110 + n.val) 4 = 1 then s.ckos[n.val].restarted t s.clock else s.ckos[n.val] }
    else s
  if bitOf arm 0 then
    let d : Int := -(t.toNat : Int)
    let s := s.timeStep d (-(grains t : Int))
    let s : State := { s with sync := { s.sync with anchor := if s.gridPeriod = 0 then none else some 0 } }
    if s.pll.state = .resyncWait then s.modPll fun p => { p with stepped := true, jLost := false } else s
  else s

/-- An edge accepted under R78 with its corrected time. The first one after a qualification without an anchor neither measures
J nor sets an anchor (R66). A RESYNC step at the edge takes the corrected time with it. -/
def State.syncEdge (s : State) (t : Time) : State :=
  let s := { s with sync := { s.sync with last := time64 t, count := s.sync.count + 1 } }
  let p := s.gridPeriod
  if s.pll.skipEdge then (s.modPll fun q => { q with skipEdge := false }).syncActions t
  else if p = 0 then s.syncActions t
  else match s.sync.anchor with
    | some a =>
      let dev := span (gridPoint a t p) t
      if s.pll.state = .ret then
        let s := s.decideJ (some dev) true
        s.syncActions (if s.pll.stepped then addGrains t (-dev) else t)
      else if s.pll.state = .locked then
        let s := if s.lockWindow.natAbs < dev.natAbs then s.presentObj .ofChip 0x14 0x2120 6 else s
        ({ s with sync := { s.sync with anchor := some (gridPoint a t p) } }).syncActions t
      else s.syncActions t
    | none =>
      if s.pll.state = .locked then ({ s with sync := { s.sync with anchor := some t } }).syncActions t else s.syncActions t

/-! ## Effects of committed writes -/

/-- A committed PERIOD_M: the anchor is set afresh (R80). -/
def State.periodEffect (s : State) : State := { s with sync := { s.sync with anchor := none } }

/-- Effects of the committed chip objects of chapter 03. -/
def State.clockEffect (s : State) (index sub : Nat) : State :=
  if index = 0x2100 then s.modeEffect
  else if 0x2110 ≤ index ∧ index ≤ 0x2113 then s.ckoUpdate (Fin.ofNat 4 (index - 0x2110))
  else if index = 0x2120 ∧ sub = 3 then s.periodEffect
  else s

/-! ## Reads -/

/-- The status objects of chapter 03. -/
def State.clockRead (s : State) (index sub : Nat) : Option Nat :=
  let p := s.pll
  match index, sub with
  | 0x2102, 1 => some p.state.code
  | 0x2102, 2 => some p.flags
  | 0x2102, 3 => some s.phaseNow.toNat
  | 0x2102, 4 => some p.jLast.toNat
  | 0x2102, 5 => some (ofInt s.slewLeft 32)
  | 0x2102, 6 => some p.lastStep.toNat
  | 0x2102, 7 => some p.holdovers
  | 0x2110, 5 => some (s.ckos[0].status s.clock)
  | 0x2111, 5 => some (s.ckos[1].status s.clock)
  | 0x2112, 5 => some (s.ckos[2].status s.clock)
  | 0x2113, 5 => some (s.ckos[3].status s.clock)
  | 0x2120, 6 => some s.sync.last.toNat
  | 0x2120, 7 => some s.sync.count.toNat
  | 0x2121, 1 => some (time64 s.clock).toNat
  | 0x2122, 1 => some (epochOf s.clock)
  | _, _ => none

/-! ## The clock's events -/

/-- The reference is lost (R65): HOLDOVER; a slew correction is discarded (R70). -/
def State.refLost (s : State) : State :=
  match s.pll.state with
  | .bypass => { s with pll := { s.pll with refPresent := false }, rst := { s.rst with refQualified := false } }
  | .holdover => s
  | st =>
    let e := s.phaseNow
    let s := s.modPll fun p => { p with
      state := .holdover, refPresent := false, phaseErr := e, absorbFrom := none, holdovers := satInc 65535 p.holdovers,
          slewRemain := 0, slewBegun := false,
      stepped := false, phaseAtReturn := none, skipEdge := false, lostInAcquire := p.lostInAcquire || decide (st = .acquire),
      jLost := p.jLost || decide (st = .acquire) }
    (s.markAll 0x02 s.clock 0).presentObj .ofChip 0x11 0x2102 1

/-- REFCLK qualifies in HOLDOVER: RETURN, and J is decided or awaits a SYNC_IN edge (R66). `phase` is the phase error of the
first qualified edge. -/
def State.refReturned (s : State) (phase : Int) : State :=
  let s := (s.gone .ofChip 0x11).gone .ofChip 0x12
  let s := s.modPll fun p => { p with state := .ret, refPresent := true, phaseErr := phaseField phase, absorbFrom := none }
  if s.pll.jLost then s.decideJ none false
  else if s.gridPeriod = 0 then s.decideJ (some (foldPhase phase)) false
  else if s.sync.anchor.isNone then
    (s.modPll fun p => { p with skipEdge := true }).decideJ (some (foldPhase phase)) false
  else s.modPll fun p => { p with phaseAtReturn := some phase }

/-- The lock criterion is met (R62, Table 3.5). -/
def State.lockMet (s : State) : State :=
  match s.pll.state with
  | .acquire =>
    let s := s.modPll fun p => { p with economy := decide (s.cfg 0x2100 1 = 1) }
    (s.pllLocked false).ckoAll
  | .unlocked =>
    if s.slewLeft = 0 then s.pllLocked s.pll.slewBegun
    else (s.modPll fun p => { p with state := .slew }).gone .ofChip 0x10
  | .resyncWait =>
    if s.pll.stepped then
      let s := s.modPll fun p => { p with economy := if p.lostInAcquire then decide (s.cfg 0x2100 1 = 1) else p.economy }
      (s.pllLocked false).ckoAll
    else s
  | _ => s

/-- Lock is lost (R62). -/
def State.lockLost (s : State) : State :=
  if s.pll.locked then (s.modPll fun p => { p with state := .unlocked }).presentObj .ofChip 0x10 0x2102 1 else s

/-- One CK_SEQ cycle passes with nothing commanded: the time base advances (R81); a SPECIAL run due starts (R263). -/
def State.tick (s : State) : State := (s.advance (addGrains s.clock s.seqLen)).specialBegun

end Sys2Proof.Machine
end

