-- ==== Sys2Proof/Machine/PinCells.lean ====
section
/-! DEFINITION. Pin cells and edge timing as the dictionary sees them, and their events (chapters 04 and 05). -/
namespace Sys2Proof.Machine

/-- The values a transaction leaves: the applied values overlaid with its own. -/
abbrev View := Nat → Nat

/-! ## Checks -/

/-- Values that fit their fields but are refused with RANGE: level codes above 60,000 (R85), LVL_SLEW 3, VCL above VCH (R89),
PPMU setpoints and MV with current (R94), edges above 1,310,719 or out of order (R105). -/
def pinRange (off sub v : Nat) : Bool :=
  if off = 0x20 then decide (field v 15 0 ≤ 60000) && decide (field v 31 16 ≤ 60000) && decide (field v 47 32 ≤ 60000)
  else if off = 0x21 then decide (field v 27 16 ≤ field v 11 0)
  else if off = 0x22 then field v 9 8 != 3
  else if off = 0x23 then
    match field v 1 0 with
    | 0 => decide (field v 31 16 ≤ 60000)
    | 1 => decide ((toInt (field v 31 16) 16).natAbs ≤ 32000)
    | _ => !bitOf v 5
  else if 0x40 ≤ off ∧ off ≤ 0x4F then
    if sub = 1 then true
    else if sub ≤ 9 then
      let e := driveEdges v
      decide (e.1 ≤ e.2.1) && decide (e.2.1 ≤ e.2.2) && decide (e.2.2 ≤ 1310719)
    else
      let e := strobeEdges v
      decide (e.1 ≤ e.2) && decide (e.2 ≤ 1310719)
  else true

/-- The last edge of a drive or strobe subindex. -/
def lastEdge (sub v : Nat) : Nat := if sub ≤ 9 then (driveEdges v).2.2 else (strobeEdges v).2

/-- Every edge of a timing set lies inside its period (R105). -/
def tsetFits (view : View) (i : Fin 64) (off : Nat) : Bool :=
  let n := view (siteAddr i off 1)
  (List.range 16).all fun k => decide (lastEdge (k + 2) (view (siteAddr i off (k + 2))) ≤ 320 * n - 1)

/-- Dependencies: START needs OWNER = PPMU (R100); edges lie inside the period (R105). -/
def pinDep (view : View) (i : Fin 64) (off sub v : Nat) : Bool :=
  if off = 0x23 then !bitOf v 8 || field (view (siteAddr i 0x22 sub)) 1 0 == 1
  else if 0x40 ≤ off ∧ off ≤ 0x4F then
    if sub = 1 then tsetFits view i off else decide (lastEdge sub v ≤ 320 * view (siteAddr i off 1) - 1)
  else true

/-- The subindices that `pinDep` reads. -/
def pinReads (i : Fin 64) (off sub v : Nat) : List Nat :=
  if off = 0x23 then (if bitOf v 8 then [siteAddr i 0x22 sub] else [])
  else if 0x40 ≤ off ∧ off ≤ 0x4F then
    if sub = 1 then (List.range 16).map fun k => siteAddr i off (k + 2) else [siteAddr i off 1]
  else []

/-! ## Effects of committed writes -/

/-- VCL equals VCH, so that the ball is never between the thresholds (R89). -/
def State.cmpEqual (s : State) (i : Fin 64) (c : Fin 8) : Bool :=
  let v := s.siteCfg i 0x21 (c.val + 1)
  field v 11 0 == field v 27 16

/-- CMP_HI and CMP_LO of two free bits as R89 lets them stand: CMP_HI only above VCL, and never apart on equal thresholds. -/
def cmpPair (equal : Bool) (v : BitVec 2) : Bool × Bool :=
  (v.getLsbD 0, v.getLsbD 0 || (v.getLsbD 1 && !equal))

/-- CMP_MODE changed (R91): on return to CONTINUOUS the outputs as they stand are the baseline; nothing in the chip fixes
them, so they are free values. When it leaves, the commit's cycle ends what an open strobe still judges (Table 4.7). -/
def State.applyCmpMode (s : State) (i : Fin 64) (c : Fin 8) (old : Nat) : State :=
  if field old 7 6 ≠ 0 ∧ field (s.pcMode i c) 7 6 = 0 then
    let v := cmpPair (s.cmpEqual i c) (s.fresh 2)
    (s.drawn.modCell i c fun q => { q with cmpHi := v.1, cmpLo := v.2, cmpLeft := none, cmpHist := [] }).bushelEdge i s.cycle
  else if field old 7 6 = 0 ∧ field (s.pcMode i c) 7 6 ≠ 0 then s.modCell i c fun q => { q with cmpLeft := some s.cycle }
  else s

/-- A PPMU measurement begins with the settings of its cell (R99). -/
def State.measBegin (s : State) (i : Fin 64) (c : Fin 8) : State :=
  let v := s.pcPpmu i c
  let m : PpmuMeas :=
    { converting := false, route := field v 7 6 == 1, total := 2 ^ field v 11 9, done := 0, sum := 0, limited := false,
      saturated := false, pair := none }
  s.modCell i c fun q => { q with meas := some m }

/-- A committed START (R100). START reads 0. It is ignored while MEAS_BUSY is 1; a safe state forced in the same cycle gives
ABORTED (Table 4.7). Where the PPMU is not connected the measurement waits for its connection (R99). -/
def State.ppmuStart (s : State) (i : Fin 64) (c : Fin 8) : State :=
  let v := s.pcPpmu i c
  if bitOf v 8 then
    let s := s.setVal (siteAddr i 0x23 (c.val + 1)) (v - at_ 1 8)
    if (s.cell i c).meas.isSome then s
    else if !s.safeNow i then s.measBegin i c
    else s.modCell i c fun q => { q.setFlag s.cycle 8 with err := 3 }
  else s

/-- A committed change of a timing set: the previous value stays in force for vectors whose time zero lies less than 10,240
grains after the commit's cycle (R107). -/
def State.tsetEffect (s : State) (i : Fin 64) (off sub old : Nat) : State :=
  s.modPsq i fun p => { p with tsetOld :=
    ((siteAddr i off sub, old, s.cycle) :: p.tsetOld).filter fun e => !elapsed (addGrains e.2.2 10240) p.zero 0 }

/-- PC_FLAG_CLR: the flags written 1 clear, but those caused in the cycle of the clear (R92). -/
def State.pinFlagClear (s : State) (i : Fin 64) (c : Fin 8) (v : Nat) : State :=
  s.modCell i c fun q =>
    let keep : BitVec 10 := if q.caused.1 = s.cycle then q.caused.2 else 0
    { q with flags := q.flags &&& ~~~ (BitVec.ofNat 10 v &&& ~~~ keep) }

/-- TIMING_FLAG_CLR (R114): with a collision in the cycle of the clear the flag stays set and COUNT reads 1. -/
def State.timingClear (s : State) (i : Fin 64) (c : Fin 8) (v : Nat) : State :=
  if bitOf v 0 then
    s.modCell i c fun q =>
      if q.collision ∧ q.collAt = some s.cycle then { q with collCount := 1 }
      else { q with collision := false, collCount := 0, collClear := if q.collision then some s.cycle else q.collClear }
  else s

/-! ## Converters lent to PPMU measurements (R190) -/

/-- A bridge-unit converter pair of the site is released to PPMU measurement. -/
def State.pairFree (s : State) (i : Fin 64) : Bool := allUnits.any fun u => s.pairReleased i u

/-- A cell on ROUTE 1 waits for a pair to convert for it. -/
def State.pairWants (s : State) (i : Fin 64) (c : Fin 8) : Bool :=
  match (s.cell i c).meas with
  | some m => m.converting && m.route && m.pair.isNone
  | none => false

/-- Unit `u` converts for a cell. -/
def State.pairBusy (s : State) (i : Fin 64) (u : Fin 2) : Bool :=
  allCells.any fun c => match (s.cell i c).meas with
    | some m => m.pair == some u
    | none => false

/-- A PPMU measurement ends (R99, R100). When ERR is not 0 PC_MEAS keeps RESULT, and SAMPLES, QTY and LIMITED with it (DESIGN
CHOICE, log entry 403). -/
def State.measEnd (s : State) (i : Fin 64) (c : Fin 8) (err : Nat) (result : BitVec 32) (samples : Nat) (limited : Bool) : State :=
  let qty := bitOf (s.pcPpmu i c) 5
  s.modCell i c fun q =>
    let q := { q.setFlag s.cycle 8 with meas := none, err := err }
    if err = 0 then { q with result := result, samples := samples, qty := qty, resLimited := limited } else q

/-- A released pair that converts for no cell takes the waiting cell that R24 grants. -/
def State.lendPair (s : State) (i : Fin 64) (u : Fin 2) : State :=
  let reqs := allCells.map (s.pairWants i)
  match starveWinner (s.site i).stream.measStarve.toList reqs with
  | none => s
  | some k =>
    if s.pairReleased i u && !s.pairBusy i u then
      (s.modStream i fun m => { m with measStarve := starveGrant m.measStarve reqs k }).modCell i (Fin.ofNat 8 k) fun q =>
        { q with meas := q.meas.map fun m => { m with pair := some u } }
    else s

/-- Released pairs take waiting cells, the lowest unit first. Where no pair is released, a measurement that needs a further
conversion ends with ABORTED. -/
def State.lend (s : State) (i : Fin 64) : State :=
  if s.pairFree i then s.forEach allUnits fun u s => s.lendPair i u
  else s.forEach allCells fun c s => if s.pairWants i c then s.measEnd i c 3 0 0 false else s

/-- Effects of the committed site objects of chapters 04 and 05. -/
def State.pinEffect (s : State) (i : Fin 64) (off sub old v : Nat) : State :=
  let c : Fin 8 := Fin.ofNat 8 (sub - 1)
  if off = 0x20 then s.applyLevels i c
  else if off = 0x22 then ((s.applyCmpMode i c old).applyMode i c old).lend i
  else if off = 0x23 then ((s.applyPpmu i c old).ppmuStart i c).lend i
  else if off = 0x26 then s.pinFlagClear i c v
  else if off = 0x52 then s.timingClear i c v
  else if 0x40 ≤ off ∧ off ≤ 0x4F then s.tsetEffect i off sub old
  else s

/-! ## Reads -/

/-- PC_STATUS (Table 4.12). In SAMPLED mode CMP_HI and CMP_LO are those last captured. Every ball is Z while VPOS or VNEG is
absent (R461). -/
def State.pcStatus (s : State) (i : Fin 64) (c : Fin 8) : Nat :=
  let q := s.cell i c
  let sampled := field (s.pcMode i c) 7 6 == 1
  q.flags.toNat + at_ (b2n (if sampled then q.capHi else q.cmpHi)) 16 + at_ (b2n (if sampled then q.capLo else q.cmpLo)) 17 +
    at_ (b2n (q.levelBusy s.clock)) 18 + at_ (b2n q.meas.isSome) 19 + at_ (b2n q.held.isSome) 20 + at_ (if s.rst.railsAbsent then
        DrvState.z else q.drvAt s.clock).code 21

/-- PC_MEAS (Table 4.13). -/
def PinCell.measWord (q : PinCell) : Nat :=
  q.result.toNat + at_ q.samples 32 + at_ q.err 40 + at_ (b2n q.qty) 42 + at_ (b2n q.resLimited) 43

/-- The status objects of chapters 04 and 05. -/
def State.pinRead (s : State) (i : Fin 64) (off sub : Nat) : Option Nat :=
  let c : Fin 8 := Fin.ofNat 8 (sub - 1)
  if sub = 0 then none
  else if off = 0x24 then some (s.pcStatus i c)
  else if off = 0x25 then some (s.cell i c).measWord
  else if off = 0x51 then some (b2n (s.cell i c).collision + at_ (s.cell i c).collCount 16)
  else none

/-! ## Events -/

/-- A condition kind can rise: no record of it stands with its condition present. -/
def State.mayRise (s : State) (o : Origin) (kind : Nat) : Bool :=
  match s.gtFind o kind with
  | none => true
  | some n => match s.gtSlot n with
    | some r => r.gone
    | none => true

/-- A slewed level reaches its target (R86): 0 VIH, 1 VIL, 2 VTT, 3 the PPMU force voltage. -/
def PinCell.levelDone (q : PinCell) (which : Fin 4) : PinCell :=
  match which with
  | 0 => { q with vih := q.vih.done }
  | 1 => { q with vil := q.vil.done }
  | 2 => { q with vtt := q.vtt.done }
  | 3 => { q with force := q.force.done }

/-- One of the four slewed levels of a cell. -/
def PinCell.levelAt (q : PinCell) (which : Fin 4) : Level :=
  match which with
  | 0 => q.vih
  | 1 => q.vil
  | 2 => q.vtt
  | 3 => q.force

/-- LEVEL_MOVE_DONE (R86): the level stands at its target, and LEVEL_BUSY falls in the cycle after its last step (Table 4.2). -/
def execLevelMoveDone (i : Fin 64) (c : Fin 8) (which : Fin 4) (s : State) : Host.Outcome State Fault Refusal :=
  let l := (s.cell i c).levelAt which
  if l.isMoving then .next ((s.advance (l.restTime s.clock)).modCell i c fun q => q.levelDone which) else .next s

/-- DRV_OVERLOAD (R88): a connected driver reaches its limit, is held there, and presents PIN_OVERLOAD. -/
def execDrvOverload (i : Fin 64) (c : Fin 8) (s : State) : Host.Outcome State Fault Refusal :=
  let d := (s.cell i c).drvAt s.clock
  if d = .z ∨ d = .ppmu then .next s
  else
    let s := s.modCell i c fun q => q.setFlag s.cycle 5
    if s.mayRise (.ofCell i c.val) 0x20 then
      .next (s.presentObj (.ofCell i c.val) 0x20 (0x4024 + 0x100 * i.val) (c.val + 1))
    else .next s

/-- PPMU_CLAMP (R95): a clamp of a connected PPMU acts. -/
def execPpmuClamp (i : Fin 64) (c : Fin 8) (s : State) : Host.Outcome State Fault Refusal :=
  if (s.cell i c).connected then .next (s.modCell i c fun q => q.setFlag s.cycle 6) else .next s

/-- PPMU_RANGE_DONE (R97): the switch completes and the output moves to its setpoint. -/
def execPpmuRangeDone (i : Fin 64) (c : Fin 8) (s : State) : Host.Outcome State Fault Refusal :=
  if (s.cell i c).held.isSome then
    let v := s.pcPpmu i c
    let st := s.levelStep i c
    .next ((s.modCell i c fun q =>
      { q with held := none, force := if field v 1 0 = 0 then s.levelTo q.force (field v 31 16) st 1 else q.force }).ppmuLimit i c)
  else .next s

/-- PPMU_SETTLE_DONE (R99): the settle time, which counts from the PPMU's connection, ends; without a released pair a
measurement on ROUTE 1 ends with NO_CONVERTER.
Otherwise the cell waits for its first conversion, its starvation count at 0 (R22). -/
def execPpmuSettleDone (i : Fin 64) (c : Fin 8) (s : State) : Host.Outcome State Fault Refusal :=
  match (s.cell i c).meas with
  | none => .next s
  | some m =>
    if m.converting ∨ ¬ (s.cell i c).connected then .next s
    else if m.route && !s.pairFree i then .next (s.measEnd i c 1 0 0 false)
    else
      .next (((s.modCell i c fun q => { q with meas := some { m with converting := true } }).modStream i fun t =>
        { t with measStarve := vmod t.measStarve c fun _ => 0 }).lend i)

/-- A cell waits for a conversion of the housekeeping ADC. -/
def State.adcWants (s : State) (i : Fin 64) (c : Fin 8) : Bool :=
  match (s.cell i c).meas with
  | some m => m.converting && !m.route
  | none => false

/-- A PIN_DC holds the region's housekeeping ADC ahead of site requests (R407, R412). -/
def State.pinDcRuns (s : State) (q : Fin 4) : Bool := (sitesOf q).any fun j => (s.siteCal j).proc == 3

/-- The cell's converter is its own for a conversion: it has been lent a pair (R24, R190), or the region's housekeeping ADC,
which no PIN_DC holds, grants its site next (R25, R26). -/
def State.convGranted (s : State) (i : Fin 64) (c : Fin 8) (m : PpmuMeas) : Bool :=
  if m.route then m.pair.isSome
  else
    let q := regionOf i
    (s.region q).adcArb.winner (s.arbWeight q 7 4) (s.requesters q fun j => allCells.any (s.adcWants j)) ==
      some (localOf i).val && s.adcRoom q && !s.pinDcRuns q && s.adcWants i c

/-- The housekeeping ADC's arbiter takes note of its grant. -/
def State.convTook (s : State) (i : Fin 64) (route : Bool) : State :=
  if route then s
  else
    let q := regionOf i
    let w := s.arbWeight q 7 4
    let s := s.modRegion q fun r => { r with adcArb := r.adcArb.granted w (localOf i).val }
    { s with thermal := { s.thermal with regions := vmod s.thermal.regions q fun r => { r with granting := r.granting + 1 } } }

/-- The value of a conversion, in 1 µV or 1 pA, lies beyond the span within which a converter never saturates (R100): −1.65 V
to +6.15 V, or 1.05 × the full scale of IRANGE. -/
def State.beyondSpan (s : State) (i : Fin 64) (c : Fin 8) (value : Int) : Bool :=
  let v := s.pcPpmu i c
  if bitOf v 5 then decide (2100000 * 10 ^ field v 4 2 < value.natAbs)
  else decide (value < -1650000) || decide (6150000 < value)

/-- The mean of `n` conversions with sum `sum`: exact where it is a whole number, else one of the two neighbours, which the
specification does not choose between: a free bit. -/
def meanOf (sum : Int) (n : Nat) (up : Bool) : Int := if sum % n = 0 then sum / n else sum / n + (if up then 1 else 0)

/-- PPMU_CONVERSION_DONE (R99, R100): a conversion that was granted gives `value` in 1 µV or 1 pA; beyond the converter's span
it may saturate. After the last conversion the mean is written and MEAS_DONE is set. The pair that a cell was lent converts for
another cell next (R190). -/
def execPpmuConversionDone (i : Fin 64) (c : Fin 8) (value : BitVec 32) (saturated : Bool) (s : State) :
    Host.Outcome State Fault Refusal :=
  match (s.cell i c).meas with
  | none => .next s
  | some m =>
    if m.converting && s.convGranted i c m then
      let s := s.convTook i m.route
      let m := { m with
        done := m.done + 1, sum := m.sum + value.toInt, limited := m.limited || (s.cell i c).limited, pair := none,
        saturated := m.saturated || (saturated && s.beyondSpan i c value.toInt) }
      if m.done < m.total then .next ((s.modCell i c fun q => { q with meas := some m }).lend i)
      else if m.saturated then .next ((s.measEnd i c 2 0 0 false).lend i)
      else
        let mean := meanOf m.sum m.total ((s.fresh 1).getLsbD 0)
        .next ((s.drawn.measEnd i c 0 (BitVec.ofInt 32 mean) m.total m.limited).lend i)
    else .next s

end Sys2Proof.Machine
end

