-- ==== Sys2Proof/Machine/Pattern.lean ====
section
/-! DEFINITION. The pattern sequencer (chapter 06): how a vector executes, what follows it, waits and underrun, and its
events. A vector command names the site and the window states that its strobes met; the vector itself is fetched from the
segment memory, and a command that does not match the vector that is due changes nothing. -/
namespace Sys2Proof.Machine

/-- The PSQ of a site. -/
def State.psq (s : State) (i : Fin 64) : Psq := (s.site i).psq

/-! ## What the strobes of a vector judge -/

/-- A live comparator serves some of a strobe: CMP_MODE is CONTINUOUS, or left it after the window had opened (Table 4.7). -/
def State.cmpServes (s : State) (i : Fin 64) (c : Fin 8) (w : Time × Time) : Bool :=
  s.cmpLive i c || match (s.cell i c).cmpLeft with
    | some t => before w.1 t
    | none => false

/-- A live comparator serves a strobe to its close. -/
def State.cmpServesAll (s : State) (i : Fin 64) (c : Fin 8) (w : Time × Time) : Bool :=
  s.cmpLive i c || match (s.cell i c).cmpLeft with
    | some t => !before t w.2
    | none => false

/-- The cell fails its compare in a strobe (R111); without a live comparator the code acts as MASK (Table 4.4). The window
states are those of the part that a live comparator serves; with equal thresholds none of them is "inside" (R89). -/
def State.cellFails (s : State) (i : Fin 64) (v : BitVec 64) (zero : Time) (m : Strobe) (c : Fin 8) : Bool :=
  s.cmpServes i c (s.vecStrobe i v zero c) &&
    codeFails ((s.psq i).code v c) (m.below.getLsbD c.val) (m.inside.getLsbD c.val && !s.cmpEqual i c) (m.above.getLsbD c.val)

/-- The cells that fail, as a mask. -/
def State.vecFails (s : State) (i : Fin 64) (v : BitVec 64) (zero : Time) (m : Strobe) : BitVec 8 :=
  BitVec.ofNat 8 ((allCells.map fun c => at_ (b2n (s.cellFails i v zero m c)) c.val).sum)

/-- CMP_UNAVAIL for a compare code that no live comparator serves to the end of its strobe. -/
def State.vecUnavail (s : State) (i : Fin 64) (v : BitVec 64) (zero : Time) (c : Fin 8) : State :=
  if codeCompares ((s.psq i).code v c) ∧ ¬ s.cmpServesAll i c (s.vecStrobe i v zero c) then
      s.modCell i c fun q => q.setFlag s.cycle 9 else s

/-- The period of a vector in grains (R104). -/
def State.vecPeriod (s : State) (i : Fin 64) (v : BitVec 64) (zero : Time) : Nat :=
  s.tsetVal i (0x40 + vTset v) 1 zero * patGrains

/-- EDGE_COLLISION is presented for a cell whose flag the vector has set (R114): not where the flag was cleared in the cycle of
the collision, and so has stayed set. `old` are the cells before it. -/
def State.vecCollision (s : State) (i : Fin 64) (old : Vector PinCell 8) (c : Fin 8) : State :=
  let q := s.cell i c
  if q.collision && !old[c.val].collision && !(q.collClear.isSome && q.collClear == q.collAt) then
    s.presentObj (.ofCell i c.val) 0x21 (0x4051 + 0x100 * i.val) (c.val + 1)
  else s

/-- The codes of a vector that later KEEP codes repeat. -/
def Psq.codesAfter (p : Psq) (v : BitVec 64) : Vector (Option (BitVec 4)) 8 :=
  Vector.ofFn fun c : Fin 8 => if vPin v c = 0xC then p.lastCode[c.val] else some (BitVec.ofNat 4 (vPin v c))

/-- A PSQ that has executed vector `v`, which ends at `end_` and compared as `f` says: conditions see the vector four before it
from now on (R128). -/
def Psq.executed (p : Psq) (v : BitVec 64) (end_ : Time) (f : VecFails) : Psq :=
  let codes := p.codesAfter v
  let p := match p.pipe with
    | [a, b, c, d] => { p.applyFails d with pipe := [f, a, b, c] }
    | l => { p with pipe := f :: l }
  { p with lastCode := codes, prev := p.pc, vectors := p.vectors + 1, zero := end_,
           tsetOld := p.tsetOld.filter fun e => !elapsed (addGrains e.2.2 10240) end_ 0 }

/-- The compares of the vector due judge, and the time base reaches its end. `judged` is false in a MATCH repetition, whose
compares set no flag; `clr` is CLRF. -/
def State.vecEnd (s : State) (i : Fin 64) (v : BitVec 64) (m : Strobe) (judged clr : Bool) : State :=
  let zero := (s.psq i).zero
  let s := s.forEach allCells fun c s => s.vecUnavail i v zero c
  let s := s.vecBcap i v zero none
  let fails := if judged then s.vecFails i v zero m else 0
  let mask := BitVec.ofNat 8 (field (s.siteCfg i 0x60 7) 15 8)
  let end_ := addGrains zero (s.vecPeriod i v zero : Nat)
  let s := s.modPsq i fun p => p.executed v end_ { cells := fails, fail := fails &&& mask != 0, clr := clr }
  (s.resultsTick i fails).advance end_

/-- The vector due executes with its pins, edges, compares and markers; then `next` says what follows. The collisions that it
makes are presented at its time zero (DESIGN CHOICE, log entry 601); where one of them forces the site into SAFE the vector ends
there. -/
def State.vecThen (s : State) (i : Fin 64) (v : BitVec 64) (m : Strobe) (judged clr : Bool) (next : State → State) : State :=
  let old := (s.site i).cells
  let s := s.advance (s.psq i).zero
  let s := s.vecBegin i v (s.psq i).zero none
  let s := s.forEach allCells fun c s => s.vecCollision i old c
  if (s.psq i).state = .run then next (s.vecEnd i v m judged clr) else s

/-! ## What follows a vector -/

/-- What the ending vector asks for. -/
inductive Choice where
  | advance
  | jump (a : BitVec 15)
  | call (a : BitVec 15)
  | ret
  | back (a : BitVec 15)
  | wait (w : PsqWait)
  | halt
  | fault (kind : Nat)
  deriving DecidableEq, Repr

/-- The PSQ stops with FAULT and presents a kind, with the faulting address as its detail (R125, R383). -/
def State.psqFault (s : State) (i : Fin 64) (kind : Nat) (t : Time) : State :=
  let pc := (s.psq i).pc.toNat
  (s.psqStop i .fault t).present (.ofSite i) kind pc 0

/-- Execution goes on at an address from the boundary `t` on. -/
def State.psqGo (s : State) (i : Fin 64) (a : BitVec 15) (t : Time) : State := s.psqTrack i t fun p => p.goTo a

/-- The PSQ enters a state in which no vector executes: marker lines read 0. -/
def State.psqPause (s : State) (i : Fin 64) (st : PsqState) (w : Option PsqWait) (t : Time) : State :=
  let s := s.modPsq i fun p => { p with state := st, wait := w, waitFrom := t, reps := 0, passes := [] }
  (s.setLines i 0 false t).modStream i fun m => { m with markBits := 0 }

/-- An underrun at the boundary `t` (R144): the policy of the segment that is left. KEEP codes act as MASK after it (R125). -/
def State.psqUnderrun (s : State) (i : Fin 64) (t : Time) : State :=
  let p := s.psq i
  let pol := field (s.segChain i (segOf p.pc)) 6 5
  if pol = 3 then s.psqStop i .underrun t
  else
    let s := s.psqPause i .underrun none t
    let s := s.modPsq i fun p => { p with underrun := true, lastCode := Vector.replicate 8 none }
    let s := s.forEach allCells fun c s =>
      if pol = 2 then s.cellHalt i t c
      else if pol = 0 then
        let s := s.modCell i c fun q => { q with pattern := .z }
        if s.ppmuOwns i c then s else s.modCell i c fun q => q.change t .z
      else s
    (s.queueMark i 0x0B t p.pc.toNat).presentObj (.ofSite i) 0x34 (0x4061 + 0x100 * i.val) 4

/-- Ends the UNDERRUN condition of a site. -/
def State.underrunGone (s : State) (i : Fin 64) : State := s.gone (.ofSite i) 0x34

/-- The sequential advance at the boundary `t` (R136). -/
def State.psqAdvance (s : State) (i : Fin 64) (t : Time) : State :=
  match s.psqLink i t with
  | some a => s.psqGo i a t
  | none => if (s.segNext i (segOf (s.psq i).pc)).isSome then s.psqUnderrun i t else s.psqStop i .theEnd t

/-- A jump at the boundary `t` to an address whose segment serves, changing the PSQ by `f` besides; PSQ_TARGET where it does
not serve (R137). -/
def State.psqJump (s : State) (i : Fin 64) (a : BitVec 15) (t : Time) (f : Psq → Psq) : State :=
  if s.segServes i (segOf a) t then s.psqTrack i t fun p => (f p).goTo a else s.psqFault i 0x33 t

/-- The ending vector's own choice at the boundary `t`. A CALL that finds the stack full presents PSQ_STACK whatever its target
(DESIGN CHOICE, log entry 606). -/
def State.psqChoose (s : State) (i : Fin 64) (c : Choice) (t : Time) : State :=
  let p := s.psq i
  match c with
  | .advance => s.psqAdvance i t
  | .jump a => s.psqJump i a t id
  | .call a =>
    if 4 ≤ p.stack.length then s.psqFault i 0x32 t
    else match s.psqLink i t with
      | none => s.psqFault i 0x33 t
      | some r => s.psqJump i a t fun p => { p with stack := r :: p.stack }
  | .ret =>
    match p.stack with
    | [] => s.psqFault i 0x32 t
    | r :: rest => s.psqTrack i t fun p => { p with stack := rest }.goTo r
  | .back a => s.psqGo i a t
  | .wait w => s.psqPause i .wait (some w) t
  | .halt => s.psqStop i .halt t
  | .fault k => s.psqFault i k t

/-- A GOTO that has become effective goes to its target; one whose target is not ACTIVE or ARMED at the decision point is
discarded (R145). Answers whether the target stands. -/
def State.psqGotoNow (s : State) (i : Fin 64) (a : BitVec 15) (t : Time) : State × Bool :=
  if s.segServes i (segOf a) t then
    (s.psqTrack i t fun p => { p with goto := none, gotoResult := 1, stack := [], reps := 0, passes := [] }.goTo a, true)
  else (s.modPsq i fun p => { p with goto := none, gotoResult := 2 }, false)

/-- The GOTO that is effective at a boundary: the first at least 8 CK_PAT cycles after its applying cycle. -/
def Psq.gotoDue (p : Psq) (t : Time) : Option (BitVec 15) :=
  match p.goto with
  | some (a, t0) => if elapsed t0 t 10240 then some a else none
  | none => none

/-- What the boundary `t` does: an effective GOTO, else `choice`. -/
def State.psqTurn (s : State) (i : Fin 64) (t : Time) (choice : State → State) : State :=
  match (s.psq i).gotoDue t with
  | some a =>
    let r := s.psqGotoNow i a t
    if r.2 then r.1 else choice r.1
  | none => choice s

/-- A STOP is effective at a boundary (R146). -/
def Psq.stopDue (p : Psq) (t : Time) : Bool :=
  match p.stopAt with
  | some t0 => elapsed t0 t 10240
  | none => false

/-- A PARK waits for the next boundary. -/
def State.parking (s : State) (i : Fin 64) : Bool := (s.site i).ctl.trans == some .park

/-- A GOTO takes effect at the boundary `t`: one that is due, or one that has ended a wait. -/
def Psq.gotoAt (p : Psq) (t : Time) : Bool :=
  (p.gotoDue t).isSome || (p.state != .run && match p.resume with
    | some (some _) => true
    | _ => false)

/-- The PSQ stops by a STOP that becomes effective at `t`, and overrides a GOTO effective there (Table 6.8). -/
def State.psqStopped (s : State) (i : Fin 64) (t : Time) : State :=
  let p := s.psq i
  (s.modPsq i fun q => { q with gotoResult := if p.gotoAt t then 4 else q.gotoResult, stopped := p.stopAt }).psqStop i .stop t

/-- The stops that a boundary serves before anything else (R146, Table 6.8): the PARK, then the STOP. -/
def State.psqStops (s : State) (i : Fin 64) (t : Time) : Option State :=
  if s.parking i then some (s.psqStop i .park t)
  else if (s.psq i).stopDue t then some (s.psqStopped i t)
  else none

/-- The boundary that ends a vector: a fault found at its end, a stop, an effective GOTO, or the vector's own choice. A fault of
LOOP_BEGIN or LOOP_END goes before a stop and a GOTO that are effective there (DESIGN CHOICE, log entry 606). -/
def State.psqBoundary (s : State) (i : Fin 64) (c : Choice) : State :=
  let t := (s.psq i).zero
  match c with
  | .fault k => s.psqFault i k t
  | c =>
    match s.psqStops i t with
    | some s => s
    | none => s.psqTurn i t fun s => s.psqChoose i c t

/-- The boundary at which a run begins, or a wait, an underrun or CAL_HOLD ends, has come: the PSQ takes up its next vector
there. STATE, PC and the segment states change at that time zero (DEDUCED from Table 6.6, log entry 606). -/
def State.psqWake (s : State) (i : Fin 64) : State :=
  let p := s.psq i
  match p.resume with
  | none => s
  | some r =>
    if before s.clock p.zero then s
    else
      let t := p.zero
      let s := if p.state = .underrun then s.underrunGone i else s
      match s.psqStops i t with
      | some s => s
      | none =>
        (s.modPsq i fun p => { p with state := .run, wait := none, resume := none }).psqTurn i t fun s =>
          match r with
          | some a => s.psqTrack i t fun p => { p with stack := [] }.goTo a
          | none => s.psqAdvance i t

/-! ## Conditions (R127) -/

/-- COND of Table 6.4 as a condition sampled at `t` finds it: the external ones as they were then. -/
def State.condAt (s : State) (i : Fin 64) (cond : Nat) (t : Time) : Bool :=
  let p := s.psq i
  match cond with
  | 0 =>
    let k := field (s.siteCfg i 0x60 7) 1 0
    valueAt s.special.changes k (s.special.levels.getLsbD k) t
  | 1 => p.fail
  | 2 => !p.fail
  | 3 => valueAt p.ext 3 (s.site i).mse.flag t
  | 4 => (s.dsp i).flagAt t
  | 5 => valueAt p.ext 5 (s.site i).stream.rtrig t
  | 6 => p.ctrs[field (s.siteCfg i 0x60 7) 3 2 % 4].value == 0
  | _ => false

/-- A condition at the end of the vector that has just ended: external ones are sampled 6 CK_PAT cycles before. -/
def State.psqCond (s : State) (i : Fin 64) (cond : Nat) : Bool := s.condAt i cond (addGrains (s.psq i).zero (-7680))

/-- A true evaluation of condition 5 consumes the latch, but for a set in the same CK_SEQ cycle (R270). -/
def State.condTaken (s : State) (i : Fin 64) (cond : Nat) : State :=
  if cond = 5 ∧ (s.site i).stream.rtrigAt.map s.cycleAt ≠ some s.cycle then s.rtrigTo i false else s

/-! ## The vector commands -/

/-- The boundary that is still to come has come. -/
def State.psqReach (s : State) (i : Fin 64) : State :=
  if (s.psq i).resume.isSome then (s.advance (s.psq i).zero).psqWake i else s

/-- A vector is due with opcode `op`: `run` gives what it does. The boundary before it comes first where it is still to come. A
vector that may not execute stops the PSQ (R125); a command that does not match the vector due does nothing more. -/
def State.vecStep (s : State) (i : Fin 64) (op : Nat) (run : BitVec 64 → State → State) : State :=
  let s := s.psqReach i
  let p := s.psq i
  if p.state = .run then
    let v := p.vector p.pc
    if !vLegal v then (s.advance p.zero).psqFault i 0x30 p.zero
    else if vOp v = op then run v s
    else s
  else s

/-- A vector of opcode `op` whose compares count runs; `next` says what follows. -/
def State.vecRun (s : State) (i : Fin 64) (op : Nat) (m : Strobe) (next : BitVec 64 → State → State) : State :=
  s.vecStep i op fun v s => s.vecThen i v m true false (next v)

/-- ADV (Table 6.3). -/
def execAdv (i : Fin 64) (below inside above : BitVec 8) (s : State) : Host.Outcome State Fault Refusal :=
  .next (s.vecStep i 0x00 fun v s => s.vecThen i v ⟨below, inside, above⟩ true (bitOf (vArg v) 0) fun s => s.psqBoundary i .advance)

/-- JMP. -/
def execJmp (i : Fin 64) (below inside above : BitVec 8) (s : State) : Host.Outcome State Fault Refusal :=
  .next (s.vecRun i 0x01 ⟨below, inside, above⟩ fun v s => s.psqBoundary i (.jump (vTarget v)))

/-- JMP_IF: the target when COND holds at the end of the vector. -/
def execJmpIf (i : Fin 64) (below inside above : BitVec 8) (s : State) : Host.Outcome State Fault Refusal :=
  .next (s.vecRun i 0x02 ⟨below, inside, above⟩ fun v s =>
    if s.psqCond i (vCond v) then (s.condTaken i (vCond v)).psqBoundary i (.jump (vTarget v)) else s.psqBoundary i .advance)

/-- CALL. -/
def execPsqCall (i : Fin 64) (below inside above : BitVec 8) (s : State) : Host.Outcome State Fault Refusal :=
  .next (s.vecRun i 0x03 ⟨below, inside, above⟩ fun v s => s.psqBoundary i (.call (vTarget v)))

/-- RET. -/
def execPsqRet (i : Fin 64) (below inside above : BitVec 8) (s : State) : Host.Outcome State Fault Refusal :=
  .next (s.vecRun i 0x04 ⟨below, inside, above⟩ fun _ s => s.psqBoundary i .ret)

/-- The check of LOOP_BEGIN (R129), and the LOOP_END that ends its body. -/
def Psq.loopEnd (p : Psq) (v : BitVec 64) : Option (BitVec 64) :=
  let e := field (vArg v) 11 0
  let w := p.vector (vecAddr (segOf p.pc) e)
  if p.pc.toNat % 4096 < e ∧ vOp w = 0x06 ∧ vCtr w = vCtr v then some w else none

/-- LOOP_BEGIN: checks its LOOP_END and arms counter k for the body, or PSQ_LOOP. -/
def execLoopBegin (i : Fin 64) (below inside above : BitVec 8) (s : State) : Host.Outcome State Fault Refusal :=
  .next (s.vecRun i 0x05 ⟨below, inside, above⟩ fun v s =>
    let p := s.psq i
    match p.loopEnd v with
    | none => s.psqBoundary i (.fault 0x31)
    | some w =>
      let k := vCtr v
      let count := field (vArg w) 11 0
      let n := if bitOf (vArg w) 12 then s.siteCfg i 0x60 (3 + k.val) else if count = 0 then 4096 else count
      let l : LoopCounter :=
        { value := BitVec.ofNat 24 n, armed := some (segOf p.pc, p.pc.toNat % 4096 + 1, field (vArg v) 11 0) }
      (s.modPsq i fun p => { p with ctrs := vmod p.ctrs k fun _ => l }).psqBoundary i .advance)

/-- LOOP_END: decrements its armed counter; while it is not 0 the next vector is the first of the body. -/
def execLoopEnd (i : Fin 64) (below inside above : BitVec 8) (s : State) : Host.Outcome State Fault Refusal :=
  .next (s.vecRun i 0x06 ⟨below, inside, above⟩ fun v s =>
    let p := s.psq i
    let k := vCtr v
    let l := p.ctrs[k.val]
    match l.armed with
    | some (g, first, e) =>
      if g = segOf p.pc ∧ e = p.pc.toNat % 4096 then
        let n := l.value - 1
        if n = 0 then
          (s.modPsq i fun p => { p with ctrs := vmod p.ctrs k fun _ => { value := 0, armed := none } }).psqBoundary i .advance
        else
          (s.modPsq i fun p => { p with ctrs := vmod p.ctrs k fun l => { l with value := n } }).psqBoundary i
            (.back (vecAddr g first))
      else s.psqBoundary i (.fault 0x31)
    | none => s.psqBoundary i (.fault 0x31))

/-- WAIT_EVENT: no wait when COND holds at the end of the vector. -/
def execWaitEvent (i : Fin 64) (below inside above : BitVec 8) (s : State) : Host.Outcome State Fault Refusal :=
  .next (s.vecRun i 0x07 ⟨below, inside, above⟩ fun v s =>
    if s.psqCond i (vCond v) then (s.condTaken i (vCond v)).psqBoundary i .advance
    else s.psqBoundary i (.wait (.event (vCond v))))

/-- A pass of a MATCH repetition: no cell fails. -/
def State.matchPass (s : State) (i : Fin 64) (v : BitVec 64) (m : Strobe) : Bool :=
  s.vecFails i v (s.psq i).zero m == 0

/-- A MATCH repetition with result `pass` has run. Its result is known four repetitions later; M repetitions without a known
pass end it with MATCH_TO and FAIL (R131). -/
def State.matchNext (s : State) (i : Fin 64) (v : BitVec 64) (pass : Bool) : State :=
  let p := s.psq i
  let reps := p.reps + 1
  let done (s : State) : State := s.modPsq i fun p => { p with reps := 0, passes := [] }
  if p.passes.getD 3 false then (done s).psqBoundary i .advance
  else if vArg v ≠ 0 ∧ reps = vArg v then
    ((done s).modPsq i fun p => { p with matchTo := true, fail := true }).psqBoundary i .advance
  else
    (s.modPsq i fun p => { p with reps := reps, passes := (pass :: p.passes).take 4 }).psqBoundary i (.back p.pc)

/-- MATCH: one repetition. At each boundary a stop or a GOTO comes first. -/
def execMatchVec (i : Fin 64) (below inside above : BitVec 8) (s : State) : Host.Outcome State Fault Refusal :=
  .next (s.vecStep i 0x08 fun v s =>
    let pass := s.matchPass i v ⟨below, inside, above⟩
    s.vecThen i v ⟨below, inside, above⟩ false false fun s => s.matchNext i v pass)

/-- SYNC_WAIT. -/
def execSyncWait (i : Fin 64) (below inside above : BitVec 8) (s : State) : Host.Outcome State Fault Refusal :=
  .next (s.vecRun i 0x09 ⟨below, inside, above⟩ fun _ s => s.psqBoundary i (.wait .sync))

/-- TRIG: its pulse begins with the vector. -/
def execPsqTrig (i : Fin 64) (below inside above : BitVec 8) (s : State) : Host.Outcome State Fault Refusal :=
  .next (s.vecRun i 0x0A ⟨below, inside, above⟩ fun _ s => s.psqBoundary i .advance)

/-- HALT. -/
def execPsqHalt (i : Fin 64) (below inside above : BitVec 8) (s : State) : Host.Outcome State Fault Refusal :=
  .next (s.vecRun i 0x0C ⟨below, inside, above⟩ fun _ s => s.psqBoundary i .halt)

/-! ## Waits end -/

/-- The wait of a PSQ ends: its next vector's time zero is `zero`, where `dest` says what it executes, an address or the
sequential advance. -/
def State.psqResume (s : State) (i : Fin 64) (zero : Time) (dest : Option (BitVec 15)) : State :=
  s.modPsq i fun p => { p with zero := zero, resume := some dest }

/-- The PSQ waits, and nothing has ended its wait yet. -/
def Psq.idles (p : Psq) (st : PsqState) : Bool := p.state == st && p.resume.isNone

/-- WAIT_RESUME (R132): COND is sampled true during a WAIT_EVENT, and the PSQ advances with its next vector on the grid. -/
def execWaitResume (i : Fin 64) (s : State) : Host.Outcome State Fault Refusal :=
  let p := s.psq i
  match p.wait with
  | some (.event cond) =>
    if p.idles .wait ∧ s.condAt i cond s.clock then
      .next ((s.condTaken i cond).psqResume i (gridAfter p.zero s.clock 10240) none)
    else .next s
  | _ => .next s

/-- An accepted SYNC edge at corrected time `t` (R132): a SYNC_WAIT whose vector ended before it resumes 1 µs later. -/
def State.psqSync (s : State) (i : Fin 64) (t : Time) : State :=
  let p := s.psq i
  if p.idles .wait ∧ p.wait = some .sync ∧ before p.waitFrom t then s.psqResume i (addGrains t usGrains) none else s

/-- The timeout of the waiting vector in grains; 0: none. -/
def Psq.waitLimit (p : Psq) : Nat := vArg (p.vector p.pc) * usGrains

/-- WAIT_TIMEOUT (R132): the wait has lasted its ARG µs; the PSQ stops with TIMEOUT and WAIT_TO. -/
def execWaitTimeout (i : Fin 64) (s : State) : Host.Outcome State Fault Refusal :=
  let p := s.psq i
  if p.idles .wait ∧ p.waitLimit ≠ 0 then
    let s := s.advance (addGrains p.waitFrom (p.waitLimit : Nat))
    .next ((s.modPsq i fun p => { p with waitTo := true }).psqStop i .timeout s.clock)
  else .next s

/-- UNDERRUN_RESUME (R144): the successor has become ARMED, and its first vector starts on the grid. -/
def execUnderrunResume (i : Fin 64) (s : State) : Host.Outcome State Fault Refusal :=
  let p := s.psq i
  match s.segNext i (segOf p.pc) with
  | some g =>
    if p.idles .underrun ∧ s.segInUse i g then .next (s.psqResume i (gridAfter p.zero s.clock 10240) none) else .next s
  | none => .next s

/-- UNDERRUN_TIMEOUT (R144): UNDERRUN_TMO µs have passed in UNDERRUN. -/
def execUnderrunTimeout (i : Fin 64) (s : State) : Host.Outcome State Fault Refusal :=
  let p := s.psq i
  let limit := s.siteCfg i 0x60 8
  if p.idles .underrun ∧ limit ≠ 0 then
    let s := s.advance (addGrains p.waitFrom (limit * usGrains : Nat))
    .next ((s.psqStop i .underrun s.clock).underrunGone i)
  else .next s

end Sys2Proof.Machine
end

