-- ==== Sys2Proof/Machine/PatternCfg.lean ====
section
/-! DEFINITION. The pattern sequencer as the dictionary sees it (chapter 06): checks, starts, stops, jumps, fills, segment and
region memory, reads. -/
namespace Sys2Proof.Machine

/-- How a transaction applies: who committed it, its group (0 for a single write), and T when it applies on time at T. -/
structure Ctx where
  src   : Source
  group : Nat
  timed : Option Time
  deriving DecidableEq, Repr

/-- DSTAT codes (Table 2.4) that checks answer; 0: no objection. -/
abbrev Dstat := Nat

/-! ## Fields of PSQ_FILL -/

def fillSeg (v : Nat) : Nat := field v 2 0
def fillXip (v : Nat) : Bool := field v 5 4 == 1
def fillCount (v : Nat) : Nat := field v 19 8 + 1
def fillAddr (v : Nat) : Nat := field v 59 32

/-! ## Checks -/

/-- A fill range ends inside region memory, or inside the window at a multiple of 8 (R142). -/
def psqRange (off sub v : Nat) : Bool :=
  if off = 0x66 ∧ sub = 1 then
    if fillXip v then fillAddr v % 8 == 0 && decide (fillAddr v + 8 * fillCount v ≤ 2 ^ 28)
    else decide (fillAddr v + fillCount v ≤ 524288)
  else true

/-- A PSQ_GOTO and a START in one transaction (R145). -/
def psqDep (es : List (Nat × Nat)) (i : Fin 64) (off sub v : Nat) : Bool :=
  if off = 0x60 ∧ sub = 1 ∧ v = 1 then !es.any fun e => e.1 == siteAddr i 0x64 1
  else if off = 0x64 ∧ sub = 1 then !es.any fun e => e.1 == siteAddr i 0x60 1 && e.2 == 1
  else true

/-- Vectors [lo, hi) of region memory that a write in transfer may cover (R143): from BASE to the end of the memory, for no
interface tells the length of a write before its last byte. -/
def State.regionTransfers (s : State) (q : Fin 4) : List (Nat × Nat) :=
  let base := s.regionCfg q 0x21 1
  let ix := 0x3020 + 0x100 * q.val
  let n := (s.furlong.transfers.filter fun h => h.index == ix).length +
    (s.can.session.toList.filter fun u => u.download && u.index == ix).length
  List.replicate n (base, 524288)

/-- Two ranges of vectors meet. -/
def rangesMeet (a b : Nat × Nat) : Bool := decide (a.1 < b.2) && decide (b.1 < a.2)

/-- The starting engine's site may run (R30). -/
def State.mayStart (s : State) (i : Fin 64) : Bool :=
  (s.siteState i == .ready || s.siteState i == .running) && (s.site i).ctl.trans.isNone

/-- The writes fill segment `g` of the site. -/
def fillsSegment (es : List (Nat × Nat)) (i : Fin 64) (g : Nat) : Bool :=
  es.any fun e => e.1 == siteAddr i 0x66 1 && fillSeg e.2 == g

/-- STATE, SEG_BUSY and DEPENDENCY checks of chapter 06 against the state, made at preparation and in the apply cycle. A START
sees a fill of its segment in the same group (R146): the group would leave the segment with FILLING = 1. -/
def State.psqCheck (s : State) (view : View) (es : List (Nat × Nat)) (i : Fin 64) (off sub v : Nat) : Dstat :=
  let s := s.psqWake i
  let p := s.psq i
  if off = 0x60 ∧ sub = 1 ∧ v = 1 then
    if !s.mayStart i || p.state != .idle then 8
    else
      let k := view (siteAddr i 0x60 2) / 4096 % 8
      if (p.seg k).filled && !(p.seg k).filling && !fillsSegment es i k then 0 else 7
  else if off = 0x63 then (if p.active.contains (sub - 1) then 10 else 0)
  else if off = 0x66 then
    if s.segInUse i (fillSeg v) || (p.seg (fillSeg v)).filling then 10
    else if fillXip v then 0
    else if (s.regionTransfers (regionOf i)).any (rangesMeet (fillAddr v, fillAddr v + fillCount v)) then 10
    else 0
  else 0

/-! ## Commands -/

/-- A counter disarmed; its value stays. -/
def LoopCounter.disarmed (l : LoopCounter) : LoopCounter := { l with armed := none }

/-- CMD = START (R146): the first time zero follows R118; READY becomes RUNNING. -/
def State.psqStart (s : State) (i : Fin 64) (ctx : Ctx) : State :=
  let a : BitVec 15 := BitVec.ofNat 15 (s.siteCfg i 0x60 2)
  let zero := match ctx.timed with
    | some t => addGrains t 81920
    | none => addGrains s.cycle 81920
  let s := s.psqTrack i s.cycle fun p =>
    let p : Psq := { p with
      state := .run, pc := a, prev := a, zero := zero, stack := [],
      ctrs := p.ctrs.map LoopCounter.disarmed, cellFail := 0, fail := false, matchTo := false, waitTo := false,
      vectors := 0, pipe := [], lastCode := Vector.replicate 8 none, passes := [], reps := 0, wait := none, goto := none,
      stopAt := none, stopped := none, resume := some (some a) }
    p.modSeg (segOf a) fun m => { m with entries := m.entries + 1 }
  let s := s.modStream i fun m => { m with resBlock := 0, resFails := 0, markBits := 0 }
  if s.siteState i = .ready then s.modCtl i fun c => c.goto .running .engineStart s.clock else s

/-- CMD = STOP (R146). In WAIT, UNDERRUN and CAL_HOLD, where no boundary is to come, it takes effect at once (DESIGN CHOICE, log
entry 606). -/
def State.psqStopCmd (s : State) (i : Fin 64) : State :=
  let p := s.psq i
  if p.state = .idle then s
  else
    let s := s.modPsq i fun p => { p with stopAt := some (p.stopAt.getD s.cycle) }
    if p.state = .run ∨ p.resume.isSome then s
    else
      let s := if p.state = .underrun then s.underrunGone i else s
      s.psqStopped i s.clock

/-- A committed PSQ_GOTO (R145). In RUN it waits for its boundary; where a WAIT or an underrun begins before that boundary it
goes on waiting, for the boundary that ends it (DESIGN CHOICE, log entry 606). In WAIT and UNDERRUN its target is judged in the
applying cycle, which holds the decision point. A STOP of the same cycle that has stopped the PSQ overrides it (Table 6.8). -/
def State.psqGotoCmd (s : State) (i : Fin 64) (v : Nat) : State :=
  let p := s.psq i
  let a : BitVec 15 := BitVec.ofNat 15 v
  match p.state with
  | .idle => s.modPsq i fun p => { p with gotoResult := if p.stopped = some s.cycle then 4 else 3 }
  | .wait | .underrun =>
    if s.segInUse i (segOf a) then
      (s.psqResume i (gridAfter p.zero s.cycle 10240) (some a)).modPsq i fun p => { p with goto := none, gotoResult := 1 }
    else s.modPsq i fun p => { p with gotoResult := 2 }
  | _ => s.modPsq i fun p => { p with goto := some (a, s.cycle) }

/-! ## Fills -/

/-- The site that a transfer loads. -/
def XipTarget.site : XipTarget → Fin 64
  | .segment i _ => i
  | .mse i => i
  | .dsp i => i

/-- The transfers of a site that goes OFF are discarded (R359). -/
def State.xipDrop (s : State) (i : Fin 64) : State :=
  { s with spm := { s.spm with
      queue := s.spm.queue.filter fun j => j.target.site != i,
      current := s.spm.current.filter fun j => j.target.site != i } }

/-- The serving order of XIP transfers: apply cycle, then site, then PSQ, MSE, DSP (R359). -/
def XipJob.rank (j : XipJob) : Nat :=
  match j.target with
  | .segment i _ => i.val * 4
  | .mse i => i.val * 4 + 1
  | .dsp i => i.val * 4 + 2

/-- A job goes before another. -/
def XipJob.first (a b : XipJob) : Bool := before a.t b.t || (a.t == b.t && decide (a.rank < b.rank))

/-- A transfer joins the queue of the SPM. -/
def insertXip (j : XipJob) : List XipJob → List XipJob
  | [] => [j]
  | k :: ks => if j.first k then j :: k :: ks else k :: insertXip j ks

/-- `s` with a transfer queued. -/
def State.queueXip (s : State) (j : XipJob) : State := { s with spm := { s.spm with queue := insertXip j s.spm.queue } }

/-- An XIP transfer for a target is queued or in progress. -/
def State.xipFor (s : State) (t : XipTarget) : Bool :=
  s.spm.queue.any (fun j => j.target == t) || s.spm.current.any fun j => j.target == t

/-- A committed PSQ_FILL (R141). -/
def State.psqFill (s : State) (i : Fin 64) (v : Nat) : State :=
  let g := fillSeg v
  let t := s.cycle
  let s := if fillXip v then s else s.memServe (regionOf i)
  let s := s.segAccept i g (if fillXip v then 2 else 1)
    (some { xip := fillXip v, addr := fillAddr v, count := fillCount v, t0 := t, left := fillCount v, ends := none })
  if fillXip v then
    s.queueXip { target := .segment i (Fin.ofNat 8 g), offset := fillAddr v, bytes := 8 * fillCount v, base := 0, t := t }
  else s

/-- SEG_FILL_DONE (R140, R142): the region fill of a segment has had its last grant and completes, with every equal fill of the
region's sites, in the same CK_PAT cycle. -/
def execSegFillDone (i : Fin 64) (g : Fin 8) (s : State) : Host.Outcome State Fault Refusal :=
  let s' := s.memFinish i g
  match ((s'.psq i).seg g.val).fill with
  | none => .next s
  | some f =>
    match f.ends with
    | none => .next s
    | some t =>
      let q := regionOf i
      let vs := sparseRun (s'.region q).patMem f.addr f.count 0
      .next ((s'.advance t).forEach (s'.fillSites q f) fun j s =>
        s.forEach (equalFills (s.psq j) f) fun k s => s.segLand j k.val vs)

/-! ## DOMAIN transfers -/

/-- The vectors of an image. -/
def vectorsOf (bs : List Byte) : List (BitVec 64) := (byteGroups 8 bs).map (BitVec.ofNat 64)

/-- Why a DOMAIN write of PSQ_SEG_DATA is refused: LENGTH, RANGE for an illegal vector (R125), SEG_BUSY (R139). -/
def State.segDataCheck (s : State) (i : Fin 64) (g : Nat) (bs : List Byte) : Dstat :=
  if bs.length % 8 ≠ 0 ∨ bs.length < 8 ∨ 32768 < bs.length then 5
  else if !(vectorsOf bs).all vLegal then 6
  else if (s.psqWake i).segInUse i g || ((s.psq i).seg g).filling then 10
  else 0

/-- Why a DOMAIN write of RG_PAT_MEM is refused (R143, R125). -/
def State.patMemCheck (s : State) (q : Fin 4) (bs : List Byte) : Dstat :=
  let base := s.regionCfg q 0x21 1
  let n := bs.length / 8
  let reading := (sitesOf q).any fun j => (List.finRange 8).any fun g =>
    match ((s.psq j).seg g.val).fill with
    | some f => !f.xip && rangesMeet (base, base + n) (f.addr, f.addr + f.count)
    | none => false
  if bs.length % 8 ≠ 0 ∨ bs.length < 8 ∨ 4194304 < bs.length then 5
  else if !(vectorsOf bs).all vLegal || decide (524288 < base + n) then 6
  else if (sitesOf q).all fun j => s.siteState j == .off then 8
  else if reading then 10
  else 0

/-- The vectors of a DOMAIN write land in region memory from BASE. -/
def State.patMemLand (s : State) (q : Fin 4) (bs : List Byte) : State :=
  let base := s.regionCfg q 0x21 1
  s.modRegion q fun r => { r with patMem := sparseSetRun r.patMem base (vectorsOf bs) 0 }

/-! ## Effects and reads -/

/-- The fails of a vector that FLAGS shows already lose the bits that PSQ_FLAG_CLR clears. -/
def VecFails.cleared (f : VecFails) (v : Nat) : VecFails :=
  { f with cells := f.cells &&& ~~~ BitVec.ofNat 8 v, fail := f.fail && !bitOf v 8 }

/-- PSQ_FLAG_CLR (R128). While no vector executes, FLAGS shows the compares of every vector executed. -/
def State.psqFlagClear (s : State) (i : Fin 64) (v : Nat) : State :=
  s.modPsq i fun p => { p with
    cellFail := p.cellFail &&& ~~~ BitVec.ofNat 8 v, fail := p.fail && !bitOf v 8, matchTo := p.matchTo && !bitOf v 9,
    underrun := p.underrun && !bitOf v 10, waitTo := p.waitTo && !bitOf v 11,
    pipe := if p.state = .run then p.pipe else p.pipe.map (·.cleared v) }

/-- A committed change of PSQ_SEG_CHAIN, `old` before: the ARMED segment is determined anew (R147). -/
def State.chainEffect (s : State) (i : Fin 64) (sub old : Nat) : State :=
  s.segNoted i s.cycle ((s.setVal (siteAddr i 0x63 sub) old).segMask i)

/-- Effects of the committed site objects of chapter 06. CMD reads 0 once applied. -/
def State.psqEffect (s : State) (i : Fin 64) (off sub old v : Nat) (ctx : Ctx) : State :=
  let s := s.psqWake i
  if off = 0x60 ∧ sub = 1 then
    let s := if v = 1 then s.psqStart i ctx else if v = 2 then s.psqStopCmd i else s
    s.setVal (siteAddr i 0x60 1) 0
  else if off = 0x63 then s.chainEffect i sub old
  else if off = 0x64 then s.psqGotoCmd i v
  else if off = 0x66 then s.psqFill i v
  else if off = 0x67 then s.psqFlagClear i v
  else s

/-- STATE codes, Table 6.10. -/
def PsqState.code : PsqState → Nat
  | .idle => 0 | .run => 1 | .wait => 2 | .underrun => 3 | .calHold => 4

/-- STOP_CAUSE codes. -/
def StopCause.code : StopCause → Nat
  | .none => 0 | .halt => 1 | .stop => 2 | .theEnd => 3 | .safe => 4 | .park => 5 | .timeout => 6 | .underrun => 7 | .fault => 8

/-- PSQ_STATUS.FLAGS. -/
def Psq.flagWord (p : Psq) : Nat :=
  let p := if p.state = .run then p else p.drained
  p.cellFail.toNat + at_ (b2n p.fail) 8 + at_ (b2n p.matchTo) 9 + at_ (b2n p.underrun) 10 + at_ (b2n p.waitTo) 11

/-- PSQ_SEG_STATE of segment `g`. -/
def State.segWord (s : State) (i : Fin 64) (g : Nat) : Nat :=
  let m := (s.psq i).seg g
  s.segState i g + at_ (b2n m.filled) 2 + at_ (b2n m.filling) 3 + at_ m.src 4 + at_ m.fillErr 6 + at_ m.entries.toNat 16

/-- The status objects of chapter 06. -/
def State.psqRead (s : State) (i : Fin 64) (off sub : Nat) : Option Nat :=
  let s := s.psqWake i
  let p := s.psq i
  if off = 0x61 then
    match sub with
    | 1 => some p.state.code
    | 2 => some p.stopCause.code
    | 3 => some p.pc.toNat
    | 4 => some p.flagWord
    | 5 => some p.vectors.toNat
    | 6 => some p.stack.length
    | 11 => some p.gotoResult
    | 0 => none
    | k =>
      if k ≤ 10 then
        let l := vgetN p.ctrs (k - 7) LoopCounter.reset
        some (l.value.toNat + at_ (b2n l.armed.isSome) 24)
      else none
  else if off = 0x62 ∧ 1 ≤ sub then some (s.segWord i (sub - 1))
  else none

end Sys2Proof.Machine
end

