-- ==== Sys2Proof/Machine/BridgeCfg.lean ====
section
/-! DEFINITION. Bridge units as the dictionary sees them (chapters 07 and 08): checks, effects of commits, reads, and the
events of the output stage. -/
namespace Sys2Proof.Machine

/-! ## Checks -/

/-- A setpoint code lies in −32,000 to +32,000 (R151). -/
def codeOk (v : Nat) : Bool := decide ((toInt v 16).natAbs ≤ 32000)

/-- SETPOINT and CODE that fit their field but are reserved. -/
def buRangeOk (off v : Nat) : Bool := if off = 0x80 ∨ off = 0x84 then codeOk (field v 31 16) else true

/-- Carrier frequency conditions of R183: FTW 2,416–107,374, and at least four times the output rate. -/
def carrierOk (ftw rate : Nat) : Bool :=
  decide (2416 ≤ ftw) && decide (ftw ≤ 107374) && decide (4 * 200000 * 2 ^ 32 ≤ ftw * 400000000 * rateD rate)

/-- Dependencies among the objects of a unit: a sine inside the code span (R159), DEMOD (R183), USE (R190). -/
def buDep (view : View) (i : Fin 64) (off sub v : Nat) : Bool :=
  let ctrl := view (siteAddr i 0x80 sub)
  let sine := view (siteAddr i 0x83 sub)
  let adc := view (siteAddr i 0x85 sub)
  let span := (toInt (field ctrl 31 16) 16).natAbs + field sine 47 32
  if off = 0x80 then field ctrl 2 1 == 0 || decide (span ≤ 32000)
  else if off = 0x83 then
    (field ctrl 2 1 == 0 || decide (span ≤ 32000)) && (!bitOf adc 9 || carrierOk (field sine 31 0) (field adc 15 12))
  else if off = 0x85 then
    !(bitOf v 11 && field v 1 0 != 0) &&
      (!bitOf v 9 || (field ctrl 2 1 != 0 && carrierOk (field sine 31 0) (field v 15 12) && field v 7 6 != 2))
  else true

/-- The subindices that `buDep` reads. -/
def buReads (i : Fin 64) (off sub : Nat) : List Nat :=
  if off = 0x80 then [siteAddr i 0x83 sub]
  else if off = 0x81 then [siteAddr i 0x80 sub]
  else if off = 0x83 then [siteAddr i 0x80 sub, siteAddr i 0x85 sub]
  else if off = 0x85 then [siteAddr i 0x80 sub, siteAddr i 0x83 sub]
  else []

/-- Checks against the state: MODE and CM change only behind open switches (R153), GAIN not during a range change (R171). -/
def State.buCheck (s : State) (view : View) (i : Fin 64) (off sub v : Nat) : Dstat :=
  let u : Fin 2 := Fin.ofNat 2 (sub - 1)
  if off = 0x81 then
    let old := s.buRange i u
    let st := s.siteState i
    let open_ := !bitOf (view (siteAddr i 0x80 sub)) 0 || st == .off || st == .parked || st == .fenced
    if (bitOf old 0 != bitOf v 0 || bitOf old 2 != bitOf v 2) && !open_ then 7
    else if bitOf old 1 != bitOf v 1 && (s.bridge i u).range.isSome then 8
    else 0
  else 0

/-! ## Effects of committed writes -/

/-- The unit's outputs follow its objects now: READY or RUNNING. -/
def State.buLive (s : State) (i : Fin 64) : Bool := s.siteState i == .ready || s.siteState i == .running

/-- OUTPUT changed (R155): in READY or RUNNING, and while UNPARK closes the switches. In CAL the unit follows from the end of
CAL (R172). -/
def State.buOutputEffect (s : State) (i : Fin 64) (u : Fin 2) : State :=
  let b := s.bridge i u
  if s.buLive i ∨ (s.site i).ctl.trans = some .unpark then
    if s.buOutput i u then
      if b.connected then
        let s := s.modBridge i u fun b => { b with opening := none }
        if b.range.isSome ∨ b.limit then s else s.buFollow i u
      else if b.closing then s else s.buConnect i u
    else if b.connected then s.buOpenAt i u 0
    else s.buOpen i u (s.buPreset i u)
  else s

/-- WAVE changed (R160, R161): entering a sine form zeroes the accumulator at the first CK_PAT edge of the commit cycle; SINE
and SINE_USER switch there; the sine ends when its amplitude has reached 0. -/
def State.buWaveEffect (s : State) (i : Fin 64) (u : Fin 2) (old : Nat) : State :=
  let new := s.buWave i u
  if old = new then s
  else if new = 0 then s.waveEnd i u
  else
    let s := s.modBridge i u fun b => { b with wave := new }
    if old = 0 then s.waveFrom i u s.cycle 0 else s

/-- The working values of a live unit turn to its objects: not while it is opening, limited or changing range. -/
def State.buRetarget (s : State) (i : Fin 64) (u : Fin 2) : State :=
  let b := s.bridge i u
  if s.buLive i ∧ b.connected ∧ b.opening.isNone ∧ b.range.isNone then
    (if b.limit ∧ b.wave = 0 then s else s.buFollow i u).buJudge i u
  else s

/-- BU_CTRL applied. Supervision ends with the connection or with its SUP_EN bit (R166). -/
def State.buCtrlEffect (s : State) (i : Fin 64) (u : Fin 2) (old : Nat) : State :=
  let s := s.buWaveEffect i u (field old 2 1)
  let s := if bitOf old 0 ≠ s.buOutput i u then s.buOutputEffect i u else s
  (s.buRetarget i u).superviseEnd

/-- BU_RANGE applied. A SAFE or calibrating site changes its range when it is released; new limits act at once (R164). -/
def State.buRangeEffect (s : State) (i : Fin 64) (u : Fin 2) : State :=
  let b := s.bridge i u
  (if b.connected ∧ ¬ s.buLive i then s else s.buGain i u).buJudge i u

/-- BU_SLEW applied during a move (R156). -/
def State.buSlewEffect (s : State) (i : Fin 64) (u : Fin 2) : State :=
  let step := field (s.buSlew i u) 15 0
  let rate := field (s.buSlew i u) 31 16 + 1
  let f (l : Level) : Level := l.retimed step rate s.seqLen s.cycle
  s.modBridge i u fun b => { b with offset := f b.offset, ampl := f b.ampl }

/-- BU_SINE applied (R160) from the first CK_PAT edge of the commit cycle: the phase is continuous. -/
def State.buSineEffect (s : State) (i : Fin 64) (u : Fin 2) : State := (s.waveSet i u s.cycle).buRetarget i u

/-- BU_SAFE_VALUE applied (R169, R170): its RNVM copy is queued; behind open or closing switches the working code is preset, and
in SAFE the new value is the target at once. -/
def State.buSafeEffect (s : State) (i : Fin 64) (u : Fin 2) : State :=
  let n := 2 * i.val + u.val
  let s := { s with nvm := { s.nvm with safeDone := vmodN s.nvm.safeDone n fun _ => true } }
  let s := s.queueNvm (.safeValue n (BitVec.ofNat 32 (s.buSafe i u)))
  let b := s.bridge i u
  if s.siteState i = .safe then (s.buSafeEntry i u).superviseEnd
  else if !b.connected then s.modBridge i u fun b => { b with offset := .still (s.buPreset i u) }
  else s

/-- BU_ADC_CFG applied (R180, R187). A stop micro-op of the same cycle ends a restarted acquisition after its first result
(Table 8.7). Any change but that of PH_TRIM tags DISTURBED: the next output that completes, and no more, for the number is not
stated (DESIGN CHOICE, log entry 802). -/
def State.buAdcEffect (s : State) (i : Fin 64) (u : Fin 2) (old : Nat) : State :=
  let new := s.adcCfg i u
  let st := s.siteState i
  let runs := st == .ready || st == .running || st == .safe || st == .cal
  let going := (s.bridge i u).acq != .stopped
  if field old 1 0 ≠ field new 1 0 ∧ field new 1 0 ≠ 2 then
    if field new 1 0 = 1 then (if runs then s.acqStart i u else s) else s.acqStop i u
  else if going && (field old 9 9 != field new 9 9 || field old 15 12 != field new 15 12) then
    let stop := (s.bridge i u).stopCycle = some s.cycle
    (s.acqStart i u).modBridge i u fun b => { b with stopAfter := decide stop }
  else if going && field old 15 0 != field new 15 0 then s.modBridge i u fun b => { b with cfgChange := true }
  else s

/-- BU_FLAG_CLR (R168): a flag caused in the cycle of its clear stays set, and so does LIMITED while the limit acts. -/
def State.buFlagClear (s : State) (i : Fin 64) (u : Fin 2) (v : Nat) : State :=
  s.modBridge i u fun b =>
    let keep : BitVec 4 := (if b.caused.1 = s.cycle then b.caused.2 else 0) ||| (if b.limit then 8 else 0)
    let gone := b.flags &&& BitVec.ofNat 4 v &&& ~~~ keep
    { b with flags := b.flags &&& ~~~ gone, cleared := (s.cycle, gone ||| (if b.cleared.1 = s.cycle then b.cleared.2 else 0)) }

/-- Effects of the committed site objects of chapters 07 and 08. -/
def State.buEffect (s : State) (i : Fin 64) (off sub old v : Nat) : State :=
  let u : Fin 2 := Fin.ofNat 2 (sub - 1)
  match off with
  | 0x80 => s.buCtrlEffect i u old
  | 0x81 => s.buRangeEffect i u
  | 0x82 => s.buSlewEffect i u
  | 0x83 => s.buSineEffect i u
  | 0x84 => s.buSafeEffect i u
  | 0x85 => (s.buAdcEffect i u old).lend i
  | 0x88 => s.buFlagClear i u v
  | _ => s

/-- A unit whose site is powered up: its open switches, stage and wave form as its objects say (R169). -/
def State.buPowered (s : State) (i : Fin 64) (u : Fin 2) : State :=
  (s.modBridge i u fun _ => { Bridge.reset with
    offset := .still (s.buPreset i u), gain := bitOf (s.buRange i u) 1, wave := s.buWave i u }).waveFrom i u s.clock 0

/-! ## The user table (R163) -/

/-- A group that applies in the present CK_SEQ cycle leaves the unit with another BU_CTRL (Table 7.5). -/
def State.ctrlDue (s : State) (i : Fin 64) (u : Fin 2) : Bool :=
  s.dueNow fun es => match es.find? fun e => e.1 == siteAddr i 0x80 (u.val + 1) with
    | some e => field e.2 2 1 == 2
    | none => false

/-- Why a DOMAIN write of BU_USER_TABLE is refused. -/
def State.tableCheck (s : State) (i : Fin 64) (u : Fin 2) (bs : List Byte) : Dstat :=
  let st := s.siteState i
  if bs.length % 2 ≠ 0 ∨ bs.length < 2 ∨ 8192 < bs.length then 5
  else if !(byteGroups 2 bs).all codeOk then 6
  else if (s.buWave i u = 2 ∨ s.ctrlDue i u) ∧ (st = .ready ∨ st = .running ∨ st = .cal) then 10
  else 0

/-- Entries land from entry 0. -/
def State.tableLand (s : State) (i : Fin 64) (u : Fin 2) (bs : List Byte) : State :=
  s.modBridge i u fun b => { b with table := sparseSetRun b.table 0 ((byteGroups 2 bs).map (BitVec.ofNat 16)) 0 }

/-! ## Reads -/

/-- ACQ_STATE codes, Table 8.9. -/
def AcqState.code : AcqState → Nat
  | .stopped => 0 | .starting => 1 | .running => 2 | .suspended => 3

/-- BU_STATUS (Table 7.11). -/
def State.buStatus (s : State) (i : Fin 64) (u : Fin 2) : Nat :=
  let b := s.bridge i u
  b.flags.toNat + at_ (b2n b.connected) 8 + at_ (b2n (b.offset.busy s.clock || b.ampl.busy s.clock)) 9 +
      at_ (b2n b.range.isSome) 10 + at_ (b2n b.limit) 11 +
    at_ (b2n b.localSense) 12 + at_ (ofInt (b.offset.code s.clock) 16) 16 + at_ (b.pEst % 65536) 32 + at_ b.iOut.toNat 48

/-- The status objects of chapters 07 and 08. -/
def State.buRead (s : State) (i : Fin 64) (off sub : Nat) : Option Nat :=
  let u : Fin 2 := Fin.ofNat 2 (sub - 1)
  let b := s.bridge i u
  if sub = 0 then none
  else match off with
    | 0x86 => some b.ratio.toNat
    | 0x87 => some (s.buStatus i u)
    | 0x90 => some b.sig.toNat
    | 0x91 => some b.ref.toNat
    | 0x92 => some b.quad.toNat
    | 0x93 => some (b.meta_.toNat % 2 ^ 52 + at_ b.acq.code 52)
    | 0x94 => some (time64 b.t0).toNat
    | _ => none

/-! ## Events of the output stage -/

/-- SWITCHES_CLOSED (R155): the move to the setpoint begins. -/
def execSwitchesClosed (i : Fin 64) (u : Fin 2) (s : State) : Host.Outcome State Fault Refusal := .next (s.buClosed i u)

/-- A slewed quantity of a unit: the offset, or the amplitude. -/
def Bridge.quantity (b : Bridge) (ampl : Bool) : Level := if ampl then b.ampl else b.offset

/-- SLEW_MOVE_DONE (R156): the quantity stands at its target, and SLEW_BUSY falls in the cycle after its last step. -/
def execSlewMoveDone (i : Fin 64) (u : Fin 2) (ampl : Bool) (s : State) : Host.Outcome State Fault Refusal :=
  let l := (s.bridge i u).quantity ampl
  if l.isMoving then
    let s := s.advance (l.restTime s.clock)
    let s := s.modBridge i u fun b => if ampl then { b with ampl := b.ampl.done } else { b with offset := b.offset.done }
    let s := s.modBridge i u fun b =>
      match b.range with
      | some r => if !ampl && !r.switching then { b with range := some { r with switching := true } } else b
      | none => b
    .next ((s.waveEnd i u).buSettled i u).superviseEnd
  else .next s

/-- RANGE_SWITCH_DONE (R171): the new stage holds the value, and the code slews to its target in the new range, unless the
limit acts (R165). -/
def execRangeSwitchDone (i : Fin 64) (u : Fin 2) (s : State) : Host.Outcome State Fault Refusal :=
  match (s.bridge i u).range with
  | some r =>
    if r.switching then
      let s := s.modBridge i u fun b => { b with gain := bitOf (s.buRange i u) 1, offset := .still r.newHold, range := none }
      .next ((if (s.bridge i u).limit then s else s.buResume i u).buJudge i u).superviseEnd
    else .next s
  | none => .next s

/-- The working setpoint is at least 250 mV in magnitude: 3,200 codes of ×1, 1,600 of ×2 (Table 7.3). -/
def Bridge.setHigh (b : Bridge) (t : Time) : Bool := decide ((if b.gain then 1600 else 3200) ≤ (b.offset.code t).natAbs)

/-- |I| below 5% of the working setpoint in CURRENT mode; `out` is the force current in µA, a code 390.625 nA in ×1. -/
def Bridge.openCurrent (b : Bridge) (t : Time) (out : Int) : Bool :=
  decide (out.natAbs * 51200 < (b.offset.code t).natAbs * (if b.gain then 2000 else 1000))

/-- The condition of Table 7.3, by its flag, that qualifies when the output stage reports `which`: none where the unit's own state
excludes it. An open load in CURRENT mode stands in place of COMPLIANCE while its detection is enabled. -/
def State.qualified (s : State) (i : Fin 64) (u : Fin 2) (which : OutputReport) : Option Nat :=
  let b := s.bridge i u
  let en (k : Nat) : Bool := b.connected && bitOf (s.buCtrl i u) (6 + k)
  match which with
  | .compliance out =>
    if s.buCurrent i u && b.openCurrent s.clock out.toInt && en 1 then some 1 else if en 0 then some 0 else none
  | .openLoad out =>
    let fits := if s.buCurrent i u then b.openCurrent s.clock out.toInt
      else decide (out.toInt.natAbs < 20) && !b.slewBusy && b.setHigh s.clock
    if en 1 && fits then some 1 else none
  | .senseOpen => if en 2 then some 2 else none

/-- SUPERVISION_QUALIFY (R166): a condition of Table 7.3 has persisted. It is presented when its flag rises, or when it returns
to a record that is gone (R388); a flag cleared in the same cycle has stayed set (R168). -/
def execSupervisionQualify (i : Fin 64) (u : Fin 2) (which : OutputReport) (s : State) : Host.Outcome State Fault Refusal :=
  match s.qualified i u which with
  | none => .next s
  | some k =>
    let b := s.bridge i u
    let o := Origin.ofCell i u.val
    let stood := b.flags.getLsbD k || (b.cleared.1 = s.cycle && b.cleared.2.getLsbD k)
    let s' := s.modBridge i u fun b => { b.setFlag s.cycle k with localSense := b.localSense || decide (k = 2) }
    .next (if !stood || s.standsGone o (0x40 + k) then s'.presentObj o (0x40 + k) (0x4087 + 0x100 * i.val) (u.val + 1) else s')

/-- LOCAL_SENSE_END (R167). -/
def execLocalSenseEnd (i : Fin 64) (u : Fin 2) (s : State) : Host.Outcome State Fault Refusal :=
  .next (s.modBridge i u fun b => { b with localSense := false })

/-- The limit can act on a unit (R164): in CURRENT mode when the codes ask for more than I_eff; in VOLTAGE mode when the sensed
output lies between 0 and the working code. -/
def State.canLimit (s : State) (i : Fin 64) (u : Fin 2) (sensed : Int) : Bool :=
  let b := s.bridge i u
  let code := b.offset.code s.cycle
  b.connected &&
    if s.buCurrent i u then decide (s.buLimitCode i u < b.peak s.cycle)
    else b.wave != 0 || (decide (0 ≤ sensed * code) && decide (sensed.natAbs ≤ code.natAbs))

/-- LIMIT_ONSET (R164, R165): the limit acts, or the output that it holds moves; the working code follows the sensed output,
`sensed`, which in CURRENT mode is I_eff itself. -/
def execLimitOnset (i : Fin 64) (u : Fin 2) (sensed : BitVec 16) (s : State) : Host.Outcome State Fault Refusal :=
  if s.canLimit i u sensed.toInt then
    .next (s.buLimited i u
      (if s.buCurrent i u then boundInt (s.buLimitCode i u) ((s.bridge i u).offset.code s.cycle) else sensed.toInt))
  else .next s

/-- LIMIT_RELEASE (R165): the working code slews back to its target. In CURRENT mode the limit acts as long as the target lies
above it. -/
def execLimitRelease (i : Fin 64) (u : Fin 2) (s : State) : Host.Outcome State Fault Refusal :=
  let b := s.bridge i u
  let held := s.buCurrent i u && b.wave == 0 && b.range.isNone && decide (s.buLimitCode i u < (s.buGoal i u).natAbs)
  if b.limit && !held then .next (s.buUnlimited i u).superviseEnd else .next s

end Sys2Proof.Machine
end

