-- ==== Sys2Proof/Machine/Flags.lean ====
section
/-! DEFINITION. Flag computations: Z, N, C, V of the MSE (Table 9.3), saturation of the DSP (R223, R224). -/
namespace Sys2Proof.Machine

/-! ## MSE -/

/-- Z and N of a result with the given C and V. -/
def Mse.flagged (m : Mse) (r : BitVec 32) (c v : Bool) : Mse := { m with z := r == 0, n := r.msb, c := c, v := v }

/-- The carry of an addition. -/
def addCarry (a b : BitVec 32) : Bool := decide (2 ^ 32 ≤ a.toNat + b.toNat)

/-- The overflow of an addition. -/
def addOver (a b : BitVec 32) : Bool := decide ((a + b).toInt ≠ a.toInt + b.toInt)

/-- The borrow of a subtraction. -/
def subBorrow (a b : BitVec 32) : Bool := decide (a.toNat < b.toNat)

/-- The overflow of a subtraction. -/
def subOver (a b : BitVec 32) : Bool := decide ((a - b).toInt ≠ a.toInt - b.toInt)

/-- The flags of an addition. -/
def Mse.addFlags (m : Mse) (a b : BitVec 32) : Mse := m.flagged (a + b) (addCarry a b) (addOver a b)

/-- The flags of a subtraction. -/
def Mse.subFlags (m : Mse) (a b : BitVec 32) : Mse := m.flagged (a - b) (subBorrow a b) (subOver a b)

/-- The result of an ALU function other than 0 and 1 (Table 9.4), which clears C and V. -/
def aluResult (fn : Nat) (a b : BitVec 32) : BitVec 32 :=
  let n := b.toNat % 32
  match fn with
  | 2 => a &&& b
  | 3 => a ||| b
  | 4 => a ^^^ b
  | 5 => a <<< n
  | 6 => a >>> n
  | 7 => a.sshiftRight n
  | 8 => (a.setWidth 16).signExtend 32 * (b.setWidth 16).signExtend 32
  | 9 => if a.slt b then a else b
  | 10 => if a.slt b then b else a
  | _ => a

/-! ## DSP -/

/-- `i` saturated to 32 bits signed. -/
def sat32 (i : Int) : BitVec 32 := BitVec.ofInt 32 (clampInt (-(2 ^ 31)) (2 ^ 31 - 1) i)

/-- `i` lies outside 32 bits signed. -/
def over32 (i : Int) : Bool := decide (i < -(2 ^ 31)) || decide (2 ^ 31 - 1 < i)

/-- `i` saturated to 80 bits signed (R224). -/
def sat80 (i : Int) : BitVec 80 := BitVec.ofInt 80 (clampInt (-(2 ^ 79)) (2 ^ 79 - 1) i)

/-- `i` lies outside 80 bits signed. -/
def over80 (i : Int) : Bool := decide (i < -(2 ^ 79)) || decide (2 ^ 79 - 1 < i)

/-- `i` shifted right by `sh`: truncated, or rounded to nearest with ties away from zero. -/
def shiftRound (i : Int) (sh : Nat) (rnd : Bool) : Int :=
  let d : Int := ((2 ^ sh : Nat) : Int)
  if rnd && sh != 0 then
    (if 0 ≤ i then (i + d / 2) / d else -((-i + d / 2) / d))
  else Int.fdiv i d

end Sys2Proof.Machine
end

