-- ==== Sys2Proof/Machine/MseCfg.lean ====
section
/-! DEFINITION. The MSE as the dictionary sees it (chapter 09): checks, start, stop, control-store loads, reads, and the events
that are no microword. -/
namespace Sys2Proof.Machine

/-- The MSE of a site. -/
def State.mse (s : State) (i : Fin 64) : Mse := (s.site i).mse

/-! ## Checks -/

/-- An XIP load of the control store stays inside the store and the window, at a multiple of 4 (R214). -/
def State.mseRange (s : State) (i : Fin 64) (off sub v : Nat) : Bool :=
  if off = 0xA5 ∧ sub = 2 then
    let n := field v 12 0 + 1
    field v 59 32 % 4 == 0 && decide (field v 59 32 + 4 * n ≤ 2 ^ 28) && decide (s.siteCfg i 0xA5 1 + n ≤ 8192)
  else true

/-- An XIP load and a START in one transaction (R214). -/
def mseDep (es : List (Nat × Nat)) (i : Fin 64) (off sub v : Nat) : Bool :=
  if off = 0xA0 ∧ sub = 1 ∧ v = 1 then !es.any fun e => e.1 == siteAddr i 0xA5 2
  else if off = 0xA5 ∧ sub = 2 then !es.any fun e => e.1 == siteAddr i 0xA0 1 && e.2 == 1
  else true

/-- LOADING: a load of the control store or its CRC is in progress (R214). -/
def State.storeLoading (s : State) (i : Fin 64) : Bool := (s.mse i).landed.isSome || s.xipFor (.mse i)

/-- The control store may be loaded: the MSE is IDLE (R214). -/
def State.storeFree (s : State) (i : Fin 64) : Bool := (s.mse i).state == .idle

/-- STATE and SEG_BUSY checks of chapter 09, and the end of an XIP load from the BASE now in force (R214). -/
def State.mseCheck (s : State) (i : Fin 64) (off sub v : Nat) : Dstat :=
  if off = 0xA0 ∧ sub = 1 ∧ v = 1 then
    if s.mayStart i && (s.mse i).state == .idle && !s.storeLoading i then 0 else 8
  else if off = 0xA5 ∧ sub = 2 then
    if !s.storeFree i then 10 else if s.mseRange i off sub v then 0 else 6
  else 0

/-! ## Effects -/

/-- READY becomes RUNNING when an engine starts (Table 1.9). -/
def State.engineStart (s : State) (i : Fin 64) : State :=
  if s.siteState i = .ready then s.modCtl i fun c => c.goto .running .engineStart s.clock else s

/-- The routine begins at an entry: its first microword executes in the next CK_SEQ cycle (R200). -/
def State.mseBegin (s : State) (i : Fin 64) (slot : Nat) : State :=
  let t := s.cycle
  let entry := s.mseEntry i slot
  (s.modMse i fun m => { m.loaded entry with slot := slot, dueAt := s.cyclesOn 1, began := t }).engineStart i

/-- CMD = START (R200). -/
def State.mseStart (s : State) (i : Fin 64) : State :=
  let slot := s.siteCfg i 0xA0 2
  let ps : Vector (BitVec 32) 4 := Vector.ofFn fun k => BitVec.ofNat 32 (s.siteCfg i 0xA0 (3 + k.val))
  (s.modMse i fun m => { m with params := ps, runId := m.runId + 1, restarts := 0, abortLate := false }).mseBegin i slot

/-- Words of an XIP load queued (R214, R359). -/
def State.mseLoad (s : State) (i : Fin 64) (v : Nat) : State :=
  s.queueXip
    { target := .mse i, offset := field v 59 32, bytes := 4 * (field v 12 0 + 1), base := s.siteCfg i 0xA5 1, t := s.cycle }

/-- Effects of the committed site objects of chapter 09. CMD reads 0 once applied. -/
def State.mseEffect (s : State) (i : Fin 64) (off sub v : Nat) : State :=
  if off = 0xA0 ∧ sub = 1 then
    let s := if v = 1 then s.mseStart i else if v = 2 then (s.mseCause i 1).engineIdle i else s
    s.setVal (siteAddr i 0xA0 1) 0
  else if off = 0xA5 ∧ sub = 2 then s.mseLoad i v
  else s

/-! ## The control store (R214) -/

/-- Why a DOMAIN write of MSE_STORE is refused. -/
def State.storeCheck (s : State) (i : Fin 64) (bs : List Byte) : Dstat :=
  let ws := byteGroups 4 bs
  if bs.length % 4 ≠ 0 ∨ bs.length < 4 ∨ 32768 < bs.length then 5
  else if (ws.any fun w => decide (2 ^ 24 ≤ w)) || decide (8192 < s.siteCfg i 0xA5 1 + ws.length) then 6
  else if !s.storeFree i then 10
  else if !s.aszTakes 1 then 11
  else 0

/-- Microwords land from `base`; the CRC is then computed. -/
def State.storeLand (s : State) (i : Fin 64) (base : Nat) (bs : List Byte) : State :=
  let t := s.clock
  s.modMse i fun m => { m with landed := some t, loadErr := 0,
                               store := sparseSetRun m.store base ((byteGroups 4 bs).map (BitVec.ofNat 24)) 0 }

/-- An XIP load fails at its source: the CRC runs over what the store then holds (R214). -/
def State.storeFails (s : State) (i : Fin 64) : State :=
  let t := s.clock
  s.modMse i fun m => { m with loadErr := 2, landed := some t }

/-- The bytes over which the CRC of the store runs. -/
def Mse.storeBytes (m : Mse) : List Byte := (sparseRun m.store 0 8192 0).flatMap fun w => bytesLE w.toNat 4

/-- MSE_LOAD_DONE (R214): 8,192 CK_SEQ cycles after the words of a load have landed, CRC-32 over the store is applied to
MSE_CODE.CRC, with its Assize entry. -/
def execMseLoadDone (i : Fin 64) (s : State) : Host.Outcome State Fault Refusal :=
  let m := s.mse i
  match m.landed with
  | some t =>
    let crc := crc32 m.storeBytes
    let s := s.advance (addGrains (s.cycleAt t) (8192 * s.seqLen : Nat))
    .next ((s.aszChange .mse (siteAddr i 0xA6 1) 4 m.crc.toNat crc.toNat).modMse i fun m =>
      { m with landed := none, crc := crc })
  | none => .next s

/-! ## Reads -/

/-- MSE_STATUS.FLAGS (Table 9.15). -/
def Mse.flagWord (m : Mse) : Nat :=
  b2n m.z + at_ (b2n m.n) 1 + at_ (b2n m.c) 2 + at_ (b2n m.v) 3 + at_ (b2n m.rj) 4 + at_ (b2n m.tmo) 5 + at_ (b2n m.inw) 6 +
    at_ (b2n m.flag) 7 + at_ (b2n m.abortLate) 8 + at_ (b2n m.window) 9

/-- MSE_STATUS.STATE: COMMITTED while the window is open (R202). -/
def Mse.stateCode (m : Mse) : Nat := if m.window then 3 else m.state.code

/-- MSE_TRIM of a unit (Table 9.16). -/
def TrimRecord.word (r : TrimRecord) : Nat := r.value.toNat + at_ r.cells.toNat 32 + at_ r.status 40

/-- The status objects of chapter 09. -/
def State.mseRead (s : State) (i : Fin 64) (off sub : Nat) : Option Nat :=
  let m := s.mse i
  match off, sub with
  | 0xA2, 1 => some m.stateCode
  | 0xA2, 2 => some m.result.code
  | 0xA2, 3 => some m.flagWord
  | 0xA2, 4 => some m.upc.toNat
  | 0xA2, 5 => some (m.runId.toNat + at_ m.restarts 16)
  | 0xA2, 6 => some m.ret.toNat
  | 0xA2, 7 => some m.faultUpc.toNat
  | 0xA2, 8 => some m.cause
  | 0xA3, 1 => some m.trims[0].word
  | 0xA3, 2 => some m.trims[1].word
  | 0xA6, 1 => some m.crc.toNat
  | 0xA6, 2 => some (b2n (s.storeLoading i) + at_ m.loadErr 1)
  | _, _ => none

/-! ## Events that are no microword -/

/-- The restart condition of Table 9.9 for a pending restart: CAL has ended, or the site is READY again. -/
def State.restartDue (s : State) (i : Fin 64) : Bool :=
  let m := s.mse i
  m.state == .restartPending && s.mayStart i && (m.pendCause == 2 || s.siteState i == .ready)

/-- MSE_RESTART (R205): the MSE applies its own START with the captured parameters, or reports RESTART_LIMIT. -/
def execMseRestart (i : Fin 64) (s : State) : Host.Outcome State Fault Refusal :=
  if s.restartDue i then
    let m := s.mse i
    if field (s.siteCfg i 0xA0 7) 3 0 ≤ m.restarts then
      let s := s.modMse i fun m => { m with state := .idle, result := .restartLimit, pendCause := 0 }
      .next ((s.present (.ofSite i) 0x55 m.upc.toNat 0).engineIdle i)
    else .next ((s.modMse i fun m => { m with restarts := m.restarts + 1 }).mseBegin i m.slot)
  else .next s

/-- A routine has been abandoned for a cause at a microword: MSE_TIMEOUT is presented for cause 6, and the site may be idle. -/
def State.mseEnded (s : State) (i : Fin 64) (cause : Nat) (upc : BitVec 14) : State :=
  (if cause = 6 then s.present (.ofSite i) 0x54 upc.toNat 0 else s).engineIdle i

/-- When the invocation has lasted TIMEOUT µs; none without a timeout (R204). -/
def State.mseLimit (s : State) (i : Fin 64) : Option Time :=
  let limit := field (s.siteCfg i 0xA0 7) 31 16
  if limit = 0 then none else some (addGrains (s.mse i).began (limit * usGrains : Nat))

/-- MSE_TIMEOUT (R204): the invocation has lasted TIMEOUT µs. Where the cause is deferred, so is its kind (R208). -/
def execMseTimeout (i : Fin 64) (s : State) : Host.Outcome State Fault Refusal :=
  let m := s.mse i
  match s.mseLimit i with
  | some t =>
    if m.state.busy then
      let s := s.advance t
      if s.mseDefers i 6 then .next (s.mseCause i 6)
      else .next ((s.mseCause i 6).mseEnded i 6 m.upc)
    else .next s
  | none => .next s

/-- DEFER_EXPIRY (R208): 256 CK_SEQ cycles after a deferred cause arrived, the routine is abandoned and never restarted. -/
def execDeferExpiry (i : Fin 64) (s : State) : Host.Outcome State Fault Refusal :=
  let m := s.mse i
  match m.deferred with
  | some cause =>
    if m.state.busy ∧ m.window then
      let s := s.advance (addGrains m.deferFrom (256 * s.seqLen : Nat))
      .next ((s.mseAbandon i cause false .abandoned).mseEnded i cause m.upc)
    else .next s
  | none => .next s

/-- A PENDING record completes as its PSQ run ended (R212). -/
def State.trimComplete (s : State) (i : Fin 64) (u : Fin 2) : State :=
  let m := s.mse i
  let p := s.psq i
  let r := m.trims[u.val]
  if r.status = 1 then
    let ok := p.stopCause = .halt ∧ ¬ p.fail ∧ p.cellFail &&& r.cells = 0
    let r' : TrimRecord := { r with status := if ok then 2 else 3 }
    let s := s.modMse i fun m => { m with trims := vmod m.trims u fun _ => r' }
    let keep (k : OpenMark) : Bool := match k with
      | .trim i' u' _ _ _ => decide (¬ (i' = i ∧ u' = u))
      | .sweep _ => true
    let s := { s with assize := { s.assize with marks := s.assize.marks.filter keep } }
    s.aszChange .mse (siteAddr i 0xA3 (u.val + 1)) 8 r.word r'.word
  else s

/-- TRIM_COMPLETION (R212): the PSQ has reached IDLE and each PENDING record becomes DONE or FAILED. -/
def execTrimCompletion (i : Fin 64) (s : State) : Host.Outcome State Fault Refusal :=
  if (s.psq i).state = .idle then .next (s.forEach allUnits fun u s => s.trimComplete i u) else .next s

end Sys2Proof.Machine
end

