-- ==== Sys2Proof/Machine/DspOps.lean ====
section
/-! DEFINITION. The site DSP (chapter 10): register file with its latencies, accumulators, address generators, data memory,
bundle boundaries, faults, output queue, publication, and what the dictionary sees of it. -/
namespace Sys2Proof.Machine

/-! ## Registers -/

/-- The physical register of a name (R217). -/
def Dsp.phys (d : Dsp) (n : Nat) : Nat := if n < 16 then n else 16 + (n - 16 + 48 - d.bank.ring % 48) % 48

/-- A physical register. -/
def Dsp.physGet (d : Dsp) (k : Nat) : BitVec 32 := if k < 16 then vgetN d.bank.x k 0 else vgetN d.ring (k - 16) 0

/-- `d` with a physical register written. -/
def Dsp.physSet (d : Dsp) (k : Nat) (v : BitVec 32) : Dsp :=
  if k < 16 then { d with bank := { d.bank with x := vmodN d.bank.x k fun _ => v } }
  else { d with ring := vmodN d.ring (k - 16) fun _ => v }

/-- The register that a name reads. -/
def Dsp.x (d : Dsp) (n : Nat) : BitVec 32 := d.physGet (d.phys n)

/-- A result of latency `lat` for a name (R220). -/
def Dsp.write (d : Dsp) (n lat : Nat) (v : BitVec 32) : Dsp :=
  { d with flight := d.flight ++ [{ due := d.count + lat, reg := d.phys n, val := v }] }

/-- Register writes that bundle `d.count` reads land, the oldest first. -/
def Dsp.landed (d : Dsp) : Dsp :=
  let now := d.flight.filter fun f => decide (f.due ≤ d.count)
  let d' := { d with flight := d.flight.filter fun f => decide (d.count < f.due) }
  now.foldl (fun d f => d.physSet f.reg f.val) d'

/-- Stores that loads of bundle `d.count` see land. -/
def Dsp.stored (d : Dsp) : Dsp :=
  let now := d.stores.filter fun f => decide (f.1 ≤ d.count)
  let d' := { d with stores := d.stores.filter fun f => decide (d.count < f.1) }
  now.foldl (fun d f => { d with dmem := sparseSet d.dmem f.2.1 f.2.2 0 }) d'

/-- Every operation in flight retires (R238, R241). -/
def Dsp.retired (d : Dsp) : Dsp :=
  let d := d.flight.foldl (fun d f => d.physSet f.reg f.val) d
  let d := d.stores.foldl (fun d f => { d with dmem := sparseSet d.dmem f.2.1 f.2.2 0 }) d
  { d with flight := [], stores := [], accHist := List.replicate 4 d.acc }

/-! ## Accumulators -/

/-- An accumulator read as a source: as it stood four bundles before (R220). -/
def Dsp.accSrc (d : Dsp) (a : Fin 4) : BitVec 80 := (d.accHist.getD 3 d.acc)[a.val]

/-- `d` with an accumulator written. -/
def Dsp.accSet (d : Dsp) (a : Fin 4) (v : BitVec 80) : Dsp := { d with acc := vmod d.acc a fun _ => v }

/-! ## Address generators -/

/-- A length that was pending applies (R229). -/
def Ag.settled (g : Ag) : Ag :=
  match g.pend with
  | some l => { g with l := l, pend := none }
  | none => g

/-- The pointer lies in [B, B + L) with L ≠ 0. -/
def Ag.inside (g : Ag) : Bool := g.l != 0 && decide (g.b.toNat ≤ g.p.toNat) && decide (g.p.toNat < g.b.toNat + g.l.toNat)

/-- A post-modify (R228). -/
def Ag.modified (g : Ag) : Ag :=
  if g.inside then
    let off : Int := (g.p.toNat : Int) - g.b.toNat + g.m.toInt
    if off < 0 ∨ (g.l.toNat : Int) ≤ off then
      let o := (off % (g.l.toNat : Int)).toNat
      let pending := g.pend.isSome
      let g := g.settled
      let o := if pending && g.l != 0 && decide (g.l.toNat ≤ o) then o % g.l.toNat else o
      { g with p := g.b + BitVec.ofNat 15 o }
    else { g with p := BitVec.ofInt 15 (g.b.toNat + off) }
  else { g with p := BitVec.ofInt 15 (g.p.toNat + g.m.toInt) }

/-- AGSET of a field: 0 P, 1 M, 2 B, 3 L (R229). -/
def Ag.assign (g : Ag) (f : Nat) (v : BitVec 32) : Ag :=
  let settleOut (g : Ag) : Ag := if g.inside then g else g.settled
  match f with
  | 0 => settleOut { g with p := v.setWidth 15 }
  | 1 => { g with m := v.setWidth 16 }
  | 2 => settleOut { g with b := v.setWidth 15 }
  | _ => if g.inside then { g with pend := some (v.setWidth 15) } else { g with l := v.setWidth 15, pend := none }

/-- AGGET of a field; M is signed. -/
def Ag.value (g : Ag) (f : Nat) : BitVec 32 :=
  match f with
  | 0 => g.p.setWidth 32
  | 1 => g.m.signExtend 32
  | 2 => g.b.setWidth 32
  | _ => g.l.setWidth 32

/-- An AG of the bank in use. -/
def Dsp.ag (d : Dsp) (k : Fin 4) : Ag := d.bank.ag[k.val]

/-- `d` with an AG changed. -/
def Dsp.modAg (d : Dsp) (k : Fin 4) (f : Ag → Ag) : Dsp := { d with bank := { d.bank with ag := vmod d.bank.ag k f } }

/-! ## Data memory -/

/-- A data address exists (R218). -/
def dmemOk (a : Nat) : Bool := decide (a < 24576)

/-- Address `a` lies in a table region of `t` words per bank (R243). -/
def inTable (t a : Nat) : Bool := decide (a < t) || (decide (12288 ≤ a) && decide (a < 12288 + t))

/-- TABLE_WORDS of a site. -/
def State.tableWords (s : State) (i : Fin 64) : Nat := s.siteCfg i 0xC6 4

/-- A word as a load reads it. -/
def Dsp.load (d : Dsp) (a : Nat) : BitVec 32 := if dmemOk a then sparseGet d.dmem a 0 else 0

/-- A store, seen by loads two bundles later (R220). -/
def Dsp.store (d : Dsp) (a : Nat) (v : BitVec 32) : Dsp := { d with stores := d.stores ++ [(d.count + 2, a, v)] }

/-! ## Bundles -/

/-- The bundle at an address (0 where nothing was loaded). -/
def Dsp.bundle (d : Dsp) : BitVec 64 := sparseGet d.pmem d.pc.toNat 0

/-- A hardware loop whose body holds the bundle at PC. -/
def Dsp.loopHolds (d : Dsp) (k : Fin 2) : Bool :=
  let l := d.bank.lc[k.val]
  l.on && decide (l.first ≤ d.pc) && decide (d.pc ≤ l.last)

/-- What R222 asks of the bundle due where it stands: no branch-class operation in a delay bundle or in the last three bundles
of a LOOP body, RTI only in a handler. -/
def Dsp.placeOk (d : Dsp) : Bool :=
  let w := bSlot d.bundle 2
  let late (k : Fin 2) : Bool := d.loopHolds k && decide (d.bank.lc[k.val].last.toNat < d.pc.toNat + 3)
  !(branchClass w && (d.branch.isSome || late 0 || late 1)) && !(kOp w == 0x0B && !d.inHandler)

/-- The bundle due is legal (R222). -/
def Dsp.legal (d : Dsp) : Bool := bundleOk d.bundle && d.placeOk

/-- The loop that ends with the bundle at PC, the inner one when both do. -/
def Dsp.loopEnding (d : Dsp) : Option (Fin 2) :=
  let ends (k : Fin 2) : Bool := d.bank.lc[k.val].on && decide (d.bank.lc[k.val].last = d.pc)
  match ends 0, ends 1 with
  | true, true => if d.bank.lc[0].first < d.bank.lc[1].first then some 1 else some 0
  | true, false => some 0
  | false, true => some 1
  | false, false => none

/-- `d` with a loop register changed. -/
def Dsp.modLoop (d : Dsp) (k : Fin 2) (f : LoopReg → LoopReg) : Dsp := { d with bank := { d.bank with lc := vmod d.bank.lc k f } }

/-- The sequential next bundle, with the loops that end here (R227); `fuel` covers both loops. -/
def Dsp.sequel : Nat → Dsp → Dsp
  | 0, d => { d with pc := d.pc + 1 }
  | fuel + 1, d =>
    match d.loopEnding with
    | none => { d with pc := d.pc + 1 }
    | some k =>
      let l := d.bank.lc[k.val]
      if 1 < l.count.toNat then
        let d := d.modLoop k fun l => { l with count := l.count - 1 }
        { d with pc := l.first, bank := { d.bank with ring := (d.bank.ring + l.rot) % 48 } }
      else Dsp.sequel fuel (d.modLoop k fun l => { l with on := false })

/-- The bundle due has issued: counts, latencies, and the next bundle one CK_DSP cycle later, through delay bundles and loops. -/
def Dsp.endBundle (d : Dsp) : Dsp :=
  let d : Dsp := { d with count := d.count + 1, bundles := d.bundles + 1, slots := 0, oneFirst := false,
                          due := addGrains d.due dspGrains,
                          accHist := (d.acc :: d.accHist).take 4 }
  let d := d.landed.stored
  let d := match d.branch with
    | some (k, t) => if k ≤ 1 then { d with pc := t, branch := none } else { d.sequel 2 with branch := some (k - 1, t) }
    | none => d.sequel 2
  if d.stopAsked then { d.retired with state := .stopped, stopCause := .stop, branch := none, stopAsked := false } else d

/-- The operation of a slot has been executed; with the last of them the bundle has issued. With LIMM slot 1 executes nothing. -/
def Dsp.slotDone (d : Dsp) (slot : Fin 3) : Dsp :=
  if slot.val = 2 then d.endBundle
  else if slot.val = 0 ∧ bLimm d.bundle then { d with slots := 3 }
  else { d with slots := d.slots ||| (1#3 <<< slot.val) }

/-- The slot due next. -/
def Dsp.slotDue (d : Dsp) : Nat := if !d.slots.getLsbD 0 then 0 else if !d.slots.getLsbD 1 then 1 else 2

/-! ## Faults and flags -/

/-- The DSP stops with FAULT and presents a kind with its PC (R222, R226). -/
def State.dspFault (s : State) (i : Fin 64) (kind : Nat) (pc : BitVec 12) : State :=
  (s.modDsp i fun d => { d.retired with state := .fault, stopCause := .fault, faultPc := pc, branch := none, slots := 0,
                                        stopAsked := false }).present (.ofSite i) kind pc.toNat 0

/-- An accumulator takes an exact result: it saturates and sets OVF, which presents ARITH on its rise (R224). -/
def State.accPut (s : State) (i : Fin 64) (a : Fin 4) (v : Int) : State :=
  let d := s.dsp i
  if over80 v then
    let fresh := !d.sticky.getLsbD 0
    let s := s.modDsp i fun d =>
      { d.accSet a (sat80 v) with aflags := d.aflags ||| (1#5 <<< a.val), sticky := d.sticky ||| 1 }
    if fresh then s.present (.ofSite i) 0x64 d.pc.toNat 0 else s
  else s.modDsp i fun d => d.accSet a (sat80 v)

/-! ## Interrupts (R237–R239) -/

/-- IPEND. -/
def State.dspPending (s : State) (i : Fin 64) : BitVec 4 :=
  let d := s.dsp i
  BitVec.ofNat 4 (b2n (decide (d.thresh.toNat ≤ d.inq.length)) + at_ (b2n !(s.mse i).toDsp.isEmpty) 1) |||
    (d.latched &&& 0xC)

/-- The lowest source set in a mask. -/
def lowestSource (m : BitVec 4) : Option Nat := (List.range 4).find? fun k => m.getLsbD k

/-- The banks swap. -/
def Dsp.swapped (d : Dsp) : Dsp := { d with bank := d.other, other := d.bank }

/-- Entry into the handler of a source, recognised at `t` (R238): the handler's first bundle issues 6 CK_DSP cycles later, the
latest that Table 10.9 allows (DESIGN CHOICE, log entry 1001). -/
def Dsp.entered (d : Dsp) (k : Nat) (t : Time) : Dsp :=
  let d := d.retired
  { d.swapped with due := addGrains t (6 * dspGrains : Nat), epc := d.pc, pc := BitVec.ofNat 12 (8 * (k + 1)), inHandler := true,
                   latched := d.latched &&& ~~~ (if 2 ≤ k then 1#4 <<< k else 0) }

/-- The enabled pending source that is recognised at the present bundle boundary: outside delay bundles, freezes and handlers,
and after one bundle of the interrupted code (R238, R239). -/
def State.dspCalls (s : State) (i : Fin 64) : Option Nat :=
  let d := s.dsp i
  if d.state = .run ∧ d.slots = 0 ∧ d.branch = none ∧ ¬ d.inHandler ∧ ¬ d.oneFirst ∧ d.outHeld = [] then
    lowestSource (s.dspPending i &&& d.ien)
  else none

/-! ## Output queue (R235) -/

/-- A word for the output queue under OUT_POL: HOLD keeps it, with the pipeline frozen, while there is no room. -/
def State.soutWord (s : State) (i : Fin 64) (w : OutWord) : State :=
  let d := s.dsp i
  if 0 < d.outRoom ∧ d.outHeld = [] then s.modDsp i fun d => { d with outq := d.outq ++ [w] }
  else if bitOf (s.siteCfg i 0xC0 3) 0 then
    (s.countDiscard i w.stream w.sub).modDsp i fun d => { d with outDrops := satInc 0xFFFF d.outDrops, sticky := d.sticky ||| 16 }
  else s.modDsp i fun d => { d with outHeld := d.outHeld ++ [w] }

/-- A held word enters the queue. -/
def Dsp.unhold (d : Dsp) : Dsp :=
  match d.outHeld with
  | w :: rest => if 0 < d.outRoom then { d with outq := d.outq ++ [w], outHeld := rest } else d
  | [] => d

/-! ## Publication (R234, R283) -/

/-- A 64-bit value of two staging words with SEQ in [63:48]. -/
def pubWord (w : Vector (BitVec 32) 10) (k : Fin 9) : BitVec 64 :=
  BitVec.ofNat 64 (w[k.val].toNat + at_ (field w[k.val + 1].toNat 15 0) 32 + at_ (field w[8].toNat 15 0) 48)

/-- A snapshot of a unit's staging set is published: its objects, the copies that SAMP selects, and the end of an acquisition
that the MSE has stopped. -/
def State.publish (s : State) (i : Fin 64) (u : Fin 2) (w : Vector (BitVec 32) 10) : State :=
  let meta_ : BitVec 64 := BitVec.ofNat 64 (w[8].toNat + at_ (field w[9].toNat 15 0) 32 + at_ (field w[9].toNat 19 16) 48)
  let s := s.modBridge i u fun b =>
    { b with ratio := pubWord w 0, sig := pubWord w 2, ref := pubWord w 4, quad := pubWord w 6, meta_ := meta_, seq := w[8],
             pubs := b.pubs + 1 }
  let samp := if u.val = 0 then field (s.streamCfg i) 12 8 else field (s.streamCfg i) 17 13
  let b := s.bridge i u
  let full := BitVec.ofNat 64 (b.meta_.toNat % 2 ^ 52 + at_ b.acq.code 52)
  let vals := [b.ratio, b.sig, b.ref, b.quad, full]
  let s := s.forEach (List.range 5) fun k s =>
    if bitOf samp k then s.soutWord i { stream := .samples, sub := u.val + 1, word := vals.getD k 0 } else s
  if b.stopAfter && b.acq != .stopped then s.acqStop i u else s

/-- The start of the first CK_SEQ cycle that begins at `t` or later. -/
def State.seqFrom (s : State) (t : Time) : Time := if s.cycleAt t = t then t else addGrains (s.cycleAt t) s.seqLen

/-- RPUB takes a snapshot, in place of one that is still to be published (R234). -/
def State.rpub (s : State) (i : Fin 64) (u : Fin 2) : State :=
  let t := s.seqFrom (addGrains s.clock (4 * dspGrains : Nat))
  s.modDsp i fun d => { d with pubs := vmod d.pubs u fun _ => some (t, d.staging[u.val]) }

/-- Snapshots whose time has come are published. -/
def State.dspWake (s : State) (i : Fin 64) : State :=
  s.forEach allUnits fun u s =>
    match (s.dsp i).pubs[u.val] with
    | some (t, w) =>
      if before s.clock t then s
      else (s.modDsp i fun d => { d with pubs := vmod d.pubs u fun _ => none }).publish i u w
    | none => s

/-! ## Input (R231, R232) -/

/-- A sinc⁴ output lies beyond ±1.05 of the full scale, which is 2^30 (Table 8.6). -/
def beyondOver (v : BitVec 32) : Bool := decide (21 * 2 ^ 30 < 20 * v.toInt.natAbs)

/-- CAL_STALE of a unit at time `t`, up to 10 µs ago. -/
def State.calStaleAt (s : State) (i : Fin 64) (u : Fin 2) (t : Time) : Bool :=
  (heldAt (s.siteCal i).hist (s.siteCal i).staleUnits t).getLsbD u.val

/-- Word 3 of the input entry of sample `j` (Table 10.6): the tags as their conditions held at its instant `t`. `ovl` tells of an
overload of SIG and of REF, and of a common mode outside the range. Samples that CAL excludes carry no overload tag (Table 8.7). -/
def State.inTags (s : State) (i : Fin 64) (u : Fin 2) (t : Time) (sig ref : BitVec 32) (ovl : BitVec 3) (j : Nat) : Nat :=
  let b := s.bridge i u
  let g := heldAt b.hist b.tags t
  let st := s.siteStateAt i t
  let on := st != .cal
  u.val + at_ (b2n (st == .cal)) 1 + at_ (b2n (on && (ovl.getLsbD 0 || beyondOver sig))) 2 +
    at_ (b2n (on && (ovl.getLsbD 1 || beyondOver ref))) 3 + at_ (b2n (ovl.getLsbD 2)) 4 +
    at_ (b2n (g.disturbed || b.cfgChange || (on && (ovl.getLsbD 0 || ovl.getLsbD 1)))) 5 + at_ (b2n g.limited) 6 +
    at_ (b2n g.localSense) 7 + at_ (b2n (st == .safe)) 8 + at_ (b2n (s.calStaleAt i u t)) 9 +
    at_ (b2n (vgetN (s.dsp i).inLostU u.val false)) 10 + at_ (b2n (j == 0)) 11 + at_ 1 15 + at_ (j % 65536) 16

/-- An entry arrives at the input FIFO, or is discarded and counted. -/
def State.inPut (s : State) (i : Fin 64) (u : Fin 2) (e : InEntry) : State :=
  let d := s.dsp i
  if d.inq.length < 128 then
    s.modDsp i fun d => { d with inq := d.inq ++ [e], inLostU := vmod d.inLostU u fun _ => false }
  else
    let fresh := !d.sticky.getLsbD 2
    let s := s.modDsp i fun d =>
      { d with inLost := satInc 0xFFFF d.inLost, sticky := d.sticky ||| 4, inLostU := vmod d.inLostU u fun _ => true }
    if fresh then s.present (.ofSite i) 0x62 d.pc.toNat 0 else s

/-- SINC4_OUTPUT (R175): a sinc⁴ pair of a unit completes. The first three outputs are discarded; the fourth is sample 0, whose
instant is T_START. A result published by then may have ended the acquisition (R181). The values of the pair, an overload of a
modulator and the common mode come from the bridge. A change of
BU_ADC_CFG tags the next output (DESIGN CHOICE, log entry 802). -/
def execSinc4Output (i : Fin 64) (u : Fin 2) (sig ref : BitVec 32) (ovl : BitVec 3) (s : State) : Host.Outcome State Fault Refusal :=
  let b := s.bridge i u
  if b.acq = .stopped ∨ ¬ s.fastClocks then .next s
  else if b.outputs < 3 then .next (s.modBridge i u fun b => { b with outputs := b.outputs + 1 })
  else
    let j := b.outputs - 3
    let instant := addGrains b.tStart (j * sincGrains : Nat)
    let s := (s.advance (addGrains instant 5040000)).dspWake i
    if (s.bridge i u).acq = .stopped then .next s
    else
      let s := if b.acq = .starting then
          s.modBridge i u fun b => { b with acq := if s.siteState i = .cal then .suspended else .running, t0 := b.tStart }
        else s
      let e : InEntry :=
        { w0 := sig, w1 := ref, w2 := (s.bridge i u).phaseAt instant,
          w3 := BitVec.ofNat 32 (s.inTags i u instant sig ref ovl j) }
      .next ((s.inPut i u e).modBridge i u fun b => { b with outputs := b.outputs + 1, cfgChange := false })

/-! ## Commands and loads (R241–R243) -/

/-- CMD = START (R242): the pipeline is cleared, and words that SOUT holds with it; the bundle at ENTRY issues in the next CK_SEQ
cycle. The bank in use becomes the main bank; the MSE-to-DSP mailbox is emptied (R233). -/
def State.dspStart (s : State) (i : Fin 64) : State :=
  let entry := BitVec.ofNat 12 (s.siteCfg i 0xC0 2)
  let s := s.modDsp i fun d =>
    let d := (if d.inHandler then d.retired.swapped else d.retired).flagFrom s.cycle false
    { d with state := .run, pc := entry, due := s.cyclesOn 1, slots := 0, branch := none, outHeld := [], ien := 0, latched := 0,
             inHandler := false,
             oneFirst := false, waitMask := none, bundles := 0, stopAsked := false,
             bank := { d.bank with ring := 0, lc := Vector.replicate 2 LoopReg.reset } }
  s.modMse i fun m => { m with toDsp := [] }

/-- CMD = STOP. -/
def Dsp.stopCmd (d : Dsp) : Dsp :=
  match d.state with
  | .run => if d.slots = 0 then { d.retired with state := .stopped, stopCause := .stop, branch := none } else { d with stopAsked := true }
  | .wait => { d.retired with state := .stopped, stopCause := .stop, branch := none, waitMask := none }
  | _ => d

/-- The site is fenced: the DSP becomes STOPPED from any state (Table 10.10), its operations in flight retired. -/
def Dsp.fenced (d : Dsp) : Dsp :=
  { d.retired with state := .stopped, stopCause := .fence, branch := none, slots := 0, waitMask := none, stopAsked := false }

/-- RUN or WAIT. -/
def DspState.going : DspState → Bool
  | .run => true | .wait => true | _ => false

/-- XIP of DSP_LOAD: data memory; units; byte offset. -/
def xipDmem (v : Nat) : Bool := bitOf v 0
def xipUnits (v : Nat) : Nat := field v 15 1 + 1
def xipOffset (v : Nat) : Nat := field v 59 32

/-- Bytes of an XIP load of the DSP. -/
def xipBytes (v : Nat) : Nat := xipUnits v * (if xipDmem v then 4 else 8)

/-- A run of data words touches the table region. -/
def touchesTable (t base n : Nat) : Bool :=
  (decide (base < t) && decide (0 < n)) || (decide (12288 < base + n) && decide (base < 12288 + t) && t != 0)

/-- An XIP load lies inside its memory and the window, at a multiple of 8. -/
def State.dspRange (s : State) (i : Fin 64) (off sub v : Nat) : Bool :=
  if off = 0xC6 ∧ sub = 3 then
    let base := if xipDmem v then s.siteCfg i 0xC6 2 else s.siteCfg i 0xC6 1
    xipOffset v % 8 == 0 && decide (xipOffset v + xipBytes v ≤ 2 ^ 28) &&
      decide (base + xipUnits v ≤ (if xipDmem v then 24576 else 4096))
  else true

/-- An XIP load and a START in one transaction (R243). -/
def dspDep (es : List (Nat × Nat)) (i : Fin 64) (off sub v : Nat) : Bool :=
  if off = 0xC0 ∧ sub = 1 ∧ v = 1 then !es.any fun e => e.1 == siteAddr i 0xC6 3
  else if off = 0xC6 ∧ sub = 3 then !es.any fun e => e.1 == siteAddr i 0xC0 1 && e.2 == 1
  else true

/-- LOADING: a load of program memory or the table region, or its CRC, is in progress (R243). -/
def State.dspLoading (s : State) (i : Fin 64) : Bool :=
  (s.dsp i).crcFrom.isSome || (s.dsp i).tableFrom.isSome || s.xipFor (.dsp i)

/-- STATE and SEG_BUSY checks of chapter 10, and the end of an XIP load from the base now in force. -/
def State.dspCheck (s : State) (i : Fin 64) (off sub v : Nat) : Dstat :=
  let d := s.dsp i
  let st := s.siteState i
  if off = 0xC0 ∧ sub = 1 ∧ v = 1 then
    if st = .off ∨ st = .fenced ∨ d.state.going ∨ s.dspLoading i then 8 else 0
  else if off = 0xC6 ∧ sub = 3 then
    if d.state.going then 10 else if s.dspRange i off sub v then 0 else 6
  else if off = 0xC6 ∧ sub = 4 then (if d.state.going then 10 else 0)
  else 0

/-- A committed XIP load. -/
def State.dspLoad (s : State) (i : Fin 64) (v : Nat) : State :=
  let base := if xipDmem v then s.siteCfg i 0xC6 2 else s.siteCfg i 0xC6 1
  s.queueXip
    { target := .dsp i, offset := xipOffset v, bytes := xipBytes v, base := base + (if xipDmem v then 4096 else 0), t := s.cycle }

/-- An applied write of H2D (R237, Table 10.11). -/
def Dsp.hosted (d : Dsp) : Dsp :=
  { d with h2dUnread := true, latched := d.latched ||| 8, sticky := if d.h2dUnread then d.sticky ||| 32 else d.sticky }

/-- DSP_FLAG_CLR (Table 10.15). -/
def Dsp.flagsCleared (d : Dsp) (v : Nat) : Dsp :=
  { d with sticky := d.sticky &&& ~~~ BitVec.ofNat 6 v,
           aflags := d.aflags &&& ~~~ ((if bitOf v 0 then 0xF#5 else 0) ||| (if bitOf v 1 then 0x10#5 else 0)) }

/-- Effects of the committed site objects of chapter 10. -/
def State.dspEffect (s : State) (i : Fin 64) (off sub v : Nat) : State :=
  match off, sub with
  | 0xC0, 1 =>
    let s := if v = 1 then s.dspStart i else if v = 2 then s.modDsp i Dsp.stopCmd else s
    s.setVal (siteAddr i 0xC0 1) 0
  | 0xC1, 1 => s.modDsp i Dsp.hosted
  | 0xC3, 1 => s.modDsp i fun d => d.flagsCleared v
  | 0xC6, 3 => s.dspLoad i v
  | _, _ => s

/-- Why a DOMAIN write of DSP_PMEM is refused. -/
def State.pmemCheck (s : State) (i : Fin 64) (bs : List Byte) : Dstat :=
  let d := s.dsp i
  if bs.length % 8 ≠ 0 ∨ bs.length < 8 ∨ 32768 < bs.length then 5
  else if 4096 < s.siteCfg i 0xC6 1 + bs.length / 8 then 6
  else if d.state.going then 10
  else if !s.aszTakes 1 then 11
  else 0

/-- Bundles land from `base`; the CRC is then computed. -/
def State.pmemLand (s : State) (i : Fin 64) (base : Nat) (bs : List Byte) : State :=
  s.modDsp i fun d => { d with crcFrom := some s.clock, loadErr := 0, pmem := sparseSetRun d.pmem base (vectorsOf bs) 0 }

/-- Why a DOMAIN write of DSP_DMEM is refused: in RUN or WAIT; touching the table region it also needs room in the log. -/
def State.dmemCheck (s : State) (i : Fin 64) (bs : List Byte) : Dstat :=
  let d := s.dsp i
  let base := s.siteCfg i 0xC6 2
  let n := bs.length / 4
  if bs.length % 4 ≠ 0 ∨ bs.length < 4 ∨ 98304 < bs.length then 5
  else if 24576 < base + n then 6
  else if d.state.going then 10
  else if touchesTable (s.tableWords i) base n && !s.aszTakes 1 then 11
  else 0

/-- Words land from `base`; a load that touches the table region is followed by its CRC. -/
def State.dmemLand (s : State) (i : Fin 64) (base : Nat) (bs : List Byte) : State :=
  let t := touchesTable (s.tableWords i) base (bs.length / 4)
  s.modDsp i fun d => { d with tableFrom := if t then some s.clock else d.tableFrom, loadErr := 0,
                               dmem := sparseSetRun d.dmem base ((byteGroups 4 bs).map (BitVec.ofNat 32)) 0 }

/-- The bytes of the table region. -/
def Dsp.tableBytes (d : Dsp) (t : Nat) : List Byte :=
  (sparseRun d.dmem 0 t 0 ++ sparseRun d.dmem 12288 t 0).flatMap fun w => bytesLE w.toNat 4

/-- The bytes of program memory. -/
def Dsp.pmemBytes (d : Dsp) : List Byte := (sparseRun d.pmem 0 4096 0).flatMap fun w => bytesLE w.toNat 8

/-- CRC and TABLE_CRC are recomputed as one applied write with its Assize entry. -/
def State.dspCrc (s : State) (i : Fin 64) (table : Bool) : State :=
  let d := s.dsp i
  if table then
    let crc := crc32 (d.tableBytes (s.tableWords i))
    (s.aszChange .device (siteAddr i 0xC7 2) 4 d.tableCrc.toNat crc.toNat).modDsp i fun d => { d with tableCrc := crc }
  else
    let crc := crc32 d.pmemBytes
    (s.aszChange .device (siteAddr i 0xC7 1) 4 d.crc.toNat crc.toNat).modDsp i fun d => { d with crc := crc }

/-- When the CRC that ends next is ready, and whether it is TABLE_CRC: one CK_SEQ cycle for each 32-bit word (R243). -/
def State.dspCrcEnd (s : State) (i : Fin 64) : Option (Time × Bool) :=
  let d := s.dsp i
  let at' (t : Time) (n : Nat) : Time := addGrains (s.cycleAt t) (n * s.seqLen : Nat)
  match d.crcFrom.map fun t => at' t 8192, d.tableFrom.map fun t => at' t (2 * s.tableWords i) with
  | some a, some b => some (if before b a then (b, true) else (a, false))
  | some a, none => some (a, false)
  | none, some b => some (b, true)
  | none, none => none

/-- DSP_LOAD_DONE (R243): a CRC is ready. -/
def execDspLoadDone (i : Fin 64) (s : State) : Host.Outcome State Fault Refusal :=
  match s.dspCrcEnd i with
  | some (t, table) =>
    .next (((s.advance t).dspCrc i table).modDsp i fun d =>
      if table then { d with tableFrom := none } else { d with crcFrom := none })
  | none => .next s

/-! ## Reads -/

/-- STATE and STOP_CAUSE codes, Table 10.14. -/
def DspState.code : DspState → Nat
  | .stopped => 0 | .run => 1 | .wait => 2 | .halted => 3 | .fault => 4

/-- STOP_CAUSE codes. -/
def DspStop.code : DspStop → Nat
  | .none => 0 | .halt => 1 | .stop => 2 | .fault => 3 | .fence => 4

/-- The status objects of chapter 10. -/
def State.dspRead (s : State) (i : Fin 64) (off sub : Nat) : Option Nat :=
  let d := s.dsp i
  match off, sub with
  | 0xC1, 2 => some d.d2h.toNat
  | 0xC2, 1 => some d.state.code
  | 0xC2, 2 => some d.stopCause.code
  | 0xC2, 3 => some (d.sticky.toNat + at_ (b2n (d.flagAt s.clock)) 6 + at_ (b2n d.inHandler) 7)
  | 0xC2, 4 => some (d.pc.toNat + at_ d.faultPc.toNat 16)
  | 0xC2, 5 => some (d.inLost + at_ d.outDrops 16)
  | 0xC2, 6 => some d.bundles.toNat
  | 0xC7, 1 => some d.crc.toNat
  | 0xC7, 2 => some d.tableCrc.toNat
  | 0xC7, 3 => some (b2n (s.dspLoading i) + at_ d.loadErr 1)
  | _, _ => none

end Sys2Proof.Machine
end

