-- ==== Sys2Proof/Machine/Dsp.lean ====
section
/-! DEFINITION. What the operations of a DSP bundle, its interrupts and its timer do (R223–R242). A slot command names the
operation that the bundle due holds in that slot: slots are executed in the order 0, 1, 2, and the bundle has issued with
the last of them. A command that is not what the bundle at PC holds, or that meets a stopped or frozen pipeline, changes
nothing. -/
namespace Sys2Proof.Machine

/-! ## Slots -/

/-- The issue edge of the bundle due has come (R6): what is due by then is published. Between the slots of a bundle no time
passes. -/
def State.dspIssue (s : State) (i : Fin 64) : State :=
  if (s.dsp i).slots = 0 then
    let s := (s.advance (s.dsp i).due).dspWake i
    s.modDsp i fun d => { d with due := s.clock }
  else s

/-- The DSP issues: CK_DSP runs (Table 3.1), the DSP is in RUN and not frozen, and at a bundle boundary no source is recognised
(R238, R244). -/
def State.dspIssues (s : State) (i : Fin 64) : Bool :=
  s.fastClocks && (s.dsp i).state == .run && (s.dsp i).outHeld.isEmpty && (s.dspCalls i).isNone

/-- The slot due takes the operation `op`; an illegal bundle is not issued and stops the DSP (R222). -/
def State.dspSlot (s : State) (i : Fin 64) (slot : Fin 3) (op : Nat) (run : Nat → State → State) : State :=
  let t := s.dspIssue i
  let d := t.dsp i
  if ¬ t.dspIssues i ∨ d.slotDue ≠ slot.val then s
  else if slot = 0 ∧ ¬ d.legal then t.dspFault i 0x60 d.pc
  else if kOp (bSlot d.bundle slot.val) ≠ op then s
  else (run (bSlot d.bundle slot.val) t).modDsp i fun d => d.slotDone slot

/-- The slot of an arithmetic operation. -/
def arithSlot (k : Fin 2) : Fin 3 := k.castSucc

/-- A command of an arithmetic slot. -/
def State.dspArith (s : State) (i : Fin 64) (slot : Fin 2) (op : Nat) (run : Nat → State → State) : State :=
  s.dspSlot i (arithSlot slot) op run

/-- An operation of format A: rd takes a function of rd and ra. -/
def State.dspAlu (s : State) (i : Fin 64) (lat : Nat) (f : BitVec 32 → BitVec 32 → BitVec 32) (w : Nat) : State :=
  s.modDsp i fun d => d.write (kRd w) lat (f (d.x (kRd w)) (d.x (kRa w)))

/-- An operation of format I: rd takes a function of rd and imm9. -/
def State.dspImm (s : State) (i : Fin 64) (f : BitVec 32 → Int → BitVec 32) (w : Nat) : State :=
  s.modDsp i fun d => d.write (kRd w) 1 (f (d.x (kRd w)) (kImm9 w))

/-- An accumulating operation: Aa takes a function of Aa, ra and rb, formed exactly and saturated. -/
def State.dspMac (s : State) (i : Fin 64) (f : Int → BitVec 32 → BitVec 32 → Int) (w : Nat) : State :=
  let d := s.dsp i
  s.accPut i (kAcc w) (f (d.acc[(kAcc w).val]).toInt (d.x (kMa w)) (d.x (kMb w)))

/-- The low and the high half of a register, signed. -/
def loHalf (x : BitVec 32) : Int := (x.setWidth 16).toInt
def hiHalf (x : BitVec 32) : Int := (x.extractLsb' 16 16).toInt

/-- Word `k` of an accumulator (AGET). -/
def accWord (a : BitVec 80) (k : Nat) : BitVec 32 :=
  match k with
  | 0 => a.setWidth 32
  | 1 => a.extractLsb' 32 32
  | _ => (a.extractLsb' 64 16).signExtend 32

/-- An accumulator with word `k` replaced (APUT). -/
def accWithWord (a : BitVec 80) (k : Nat) (x : BitVec 32) : BitVec 80 :=
  match k with
  | 0 => a.extractLsb' 32 48 ++ x
  | 1 => a.extractLsb' 64 16 ++ (x ++ a.setWidth 32)
  | _ => x.setWidth 16 ++ a.setWidth 64

/-- SHI: left for a positive amount, arithmetic right for a negative one. -/
def shiftImm (x : BitVec 32) (n : Int) : BitVec 32 := if 0 ≤ n then x <<< n.toNat else x.sshiftRight (-n).toNat

/-- EXT: the shifted accumulator saturated to 32 bits; saturation sets EXT_SAT. -/
def Dsp.ext (d : Dsp) (w : Nat) : Dsp :=
  let v := shiftRound (d.accSrc (kEacc w)).toInt (kSh w) (kRnd w)
  let d := d.write (kRd w) 2 (sat32 v)
  if over32 v then { d with aflags := d.aflags ||| 16, sticky := d.sticky ||| 2 } else d

/-- NOP (R223, Table 10.5), in any slot. -/
def execDspNop (i : Fin 64) (slot : Fin 3) (s : State) : Host.Outcome State Fault Refusal :=
  .next (s.dspSlot i slot 0x00 fun _ s => s)

/-- MAC (Table 10.4). -/
def execDspMac (i : Fin 64) (slot : Fin 2) (s : State) : Host.Outcome State Fault Refusal :=
  .next (s.dspArith i slot 0x01 fun w s => s.dspMac i (fun a x y => a + x.toInt * y.toInt) w)

/-- MSU (Table 10.4). -/
def execDspMsu (i : Fin 64) (slot : Fin 2) (s : State) : Host.Outcome State Fault Refusal :=
  .next (s.dspArith i slot 0x02 fun w s => s.dspMac i (fun a x y => a - x.toInt * y.toInt) w)

/-- MPY (Table 10.4). -/
def execDspMpy (i : Fin 64) (slot : Fin 2) (s : State) : Host.Outcome State Fault Refusal :=
  .next (s.dspArith i slot 0x03 fun w s => s.dspMac i (fun _ x y => x.toInt * y.toInt) w)

/-- MAC2 (Table 10.4). -/
def execDspMac2 (i : Fin 64) (slot : Fin 2) (s : State) : Host.Outcome State Fault Refusal :=
  .next (s.dspArith i slot 0x04 fun w s => s.dspMac i (fun a x y => a + (loHalf x * loHalf y + hiHalf x * hiHalf y)) w)

/-- MSU2 (Table 10.4). -/
def execDspMsu2 (i : Fin 64) (slot : Fin 2) (s : State) : Host.Outcome State Fault Refusal :=
  .next (s.dspArith i slot 0x05 fun w s => s.dspMac i (fun a x y => a - (loHalf x * loHalf y + hiHalf x * hiHalf y)) w)

/-- MACX (Table 10.4). -/
def execDspMacx (i : Fin 64) (slot : Fin 2) (s : State) : Host.Outcome State Fault Refusal :=
  .next (s.dspArith i slot 0x06 fun w s => s.dspMac i (fun a x y => a + (loHalf x * hiHalf y + hiHalf x * loHalf y)) w)

/-- ACLR (Table 10.4). -/
def execDspAclr (i : Fin 64) (slot : Fin 2) (s : State) : Host.Outcome State Fault Refusal :=
  .next (s.dspArith i slot 0x07 fun w s => s.modDsp i fun d => d.accSet (kAcc w) 0)

/-- AMOV (Table 10.4). -/
def execDspAmov (i : Fin 64) (slot : Fin 2) (s : State) : Host.Outcome State Fault Refusal :=
  .next (s.dspArith i slot 0x08 fun w s => s.modDsp i fun d => d.accSet (kAcc w) (d.accSrc (kAccB w)))

/-- AADD (Table 10.4). -/
def execDspAadd (i : Fin 64) (slot : Fin 2) (s : State) : Host.Outcome State Fault Refusal :=
  .next (s.dspArith i slot 0x09 fun w s => s.accPut i (kAcc w) ((((s.dsp i).acc[(kAcc w).val]).toInt + ((s.dsp i).accSrc (kAccB w)).toInt)))

/-- EXT (Table 10.4). -/
def execDspExt (i : Fin 64) (slot : Fin 2) (s : State) : Host.Outcome State Fault Refusal :=
  .next (s.dspArith i slot 0x0A fun w s => s.modDsp i fun d => d.ext w)

/-- AGET (Table 10.4). -/
def execDspAget (i : Fin 64) (slot : Fin 2) (s : State) : Host.Outcome State Fault Refusal :=
  .next (s.dspArith i slot 0x0B fun w s => s.modDsp i fun d => d.write (kRd w) 2 (accWord (d.accSrc (kEacc w)) (kSh w)))

/-- APUT (Table 10.4). -/
def execDspAput (i : Fin 64) (slot : Fin 2) (s : State) : Host.Outcome State Fault Refusal :=
  .next (s.dspArith i slot 0x0C fun w s => s.modDsp i fun d =>
      d.accSet (kEacc w) (accWithWord (d.acc[(kEacc w).val]) (kSh w) (d.x (kRd w))))

/-- ADD (Table 10.4). -/
def execDspAdd (i : Fin 64) (slot : Fin 2) (s : State) : Host.Outcome State Fault Refusal :=
  .next (s.dspArith i slot 0x0D fun w s => s.dspAlu i 1 (fun x y => x + y) w)

/-- SUB (Table 10.4). -/
def execDspSub (i : Fin 64) (slot : Fin 2) (s : State) : Host.Outcome State Fault Refusal :=
  .next (s.dspArith i slot 0x0E fun w s => s.dspAlu i 1 (fun x y => x - y) w)

/-- ADDS (Table 10.4). -/
def execDspAdds (i : Fin 64) (slot : Fin 2) (s : State) : Host.Outcome State Fault Refusal :=
  .next (s.dspArith i slot 0x0F fun w s => s.dspAlu i 1 (fun x y => sat32 (x.toInt + y.toInt)) w)

/-- SUBS (Table 10.4). -/
def execDspSubs (i : Fin 64) (slot : Fin 2) (s : State) : Host.Outcome State Fault Refusal :=
  .next (s.dspArith i slot 0x10 fun w s => s.dspAlu i 1 (fun x y => sat32 (x.toInt - y.toInt)) w)

/-- AND (Table 10.4). -/
def execDspAnd (i : Fin 64) (slot : Fin 2) (s : State) : Host.Outcome State Fault Refusal :=
  .next (s.dspArith i slot 0x11 fun w s => s.dspAlu i 1 (fun x y => x &&& y) w)

/-- OR (Table 10.4). -/
def execDspOr (i : Fin 64) (slot : Fin 2) (s : State) : Host.Outcome State Fault Refusal :=
  .next (s.dspArith i slot 0x12 fun w s => s.dspAlu i 1 (fun x y => x ||| y) w)

/-- XOR (Table 10.4). -/
def execDspXor (i : Fin 64) (slot : Fin 2) (s : State) : Host.Outcome State Fault Refusal :=
  .next (s.dspArith i slot 0x13 fun w s => s.dspAlu i 1 (fun x y => x ^^^ y) w)

/-- MOV (Table 10.4). -/
def execDspMov (i : Fin 64) (slot : Fin 2) (s : State) : Host.Outcome State Fault Refusal :=
  .next (s.dspArith i slot 0x14 fun w s => s.dspAlu i 1 (fun _ y => y) w)

/-- NEG (Table 10.4). -/
def execDspNeg (i : Fin 64) (slot : Fin 2) (s : State) : Host.Outcome State Fault Refusal :=
  .next (s.dspArith i slot 0x15 fun w s => s.dspAlu i 1 (fun _ y => sat32 (-y.toInt)) w)

/-- ABS (Table 10.4). -/
def execDspAbs (i : Fin 64) (slot : Fin 2) (s : State) : Host.Outcome State Fault Refusal :=
  .next (s.dspArith i slot 0x16 fun w s => s.dspAlu i 1 (fun _ y => sat32 (y.toInt.natAbs : Int)) w)

/-- MIN (Table 10.4). -/
def execDspMin (i : Fin 64) (slot : Fin 2) (s : State) : Host.Outcome State Fault Refusal :=
  .next (s.dspArith i slot 0x17 fun w s => s.dspAlu i 1 (fun x y => if x.slt y then x else y) w)

/-- MAX (Table 10.4). -/
def execDspMax (i : Fin 64) (slot : Fin 2) (s : State) : Host.Outcome State Fault Refusal :=
  .next (s.dspArith i slot 0x18 fun w s => s.dspAlu i 1 (fun x y => if x.slt y then y else x) w)

/-- SHL (Table 10.4). -/
def execDspShl (i : Fin 64) (slot : Fin 2) (s : State) : Host.Outcome State Fault Refusal :=
  .next (s.dspArith i slot 0x19 fun w s => s.dspAlu i 1 (fun x y => x <<< (y.toNat % 64)) w)

/-- SHRA (Table 10.4). -/
def execDspShra (i : Fin 64) (slot : Fin 2) (s : State) : Host.Outcome State Fault Refusal :=
  .next (s.dspArith i slot 0x1A fun w s => s.dspAlu i 1 (fun x y => x.sshiftRight (y.toNat % 64)) w)

/-- SHRL (Table 10.4). -/
def execDspShrl (i : Fin 64) (slot : Fin 2) (s : State) : Host.Outcome State Fault Refusal :=
  .next (s.dspArith i slot 0x1B fun w s => s.dspAlu i 1 (fun x y => x >>> (y.toNat % 64)) w)

/-- MUL (Table 10.4). -/
def execDspMul (i : Fin 64) (slot : Fin 2) (s : State) : Host.Outcome State Fault Refusal :=
  .next (s.dspArith i slot 0x1C fun w s => s.dspAlu i 3 (fun x y => x * y) w)

/-- MULH (Table 10.4). -/
def execDspMulh (i : Fin 64) (slot : Fin 2) (s : State) : Host.Outcome State Fault Refusal :=
  .next (s.dspArith i slot 0x1D fun w s => s.dspAlu i 3 (fun x y => (x.signExtend 64 * y.signExtend 64).extractLsb' 32 32) w)

/-- ADDI (Table 10.4). -/
def execDspAddi (i : Fin 64) (slot : Fin 2) (s : State) : Host.Outcome State Fault Refusal :=
  .next (s.dspArith i slot 0x1E fun w s => s.dspImm i (fun x n => x + BitVec.ofInt 32 n) w)

/-- SHI (Table 10.4). -/
def execDspShi (i : Fin 64) (slot : Fin 2) (s : State) : Host.Outcome State Fault Refusal :=
  .next (s.dspArith i slot 0x1F fun w s => s.dspImm i shiftImm w)

/-! ## Slot 2 -/

/-- The command is what slot 2 of a DSP that issues executes now. -/
def State.dspMemNow (s : State) (i : Fin 64) (op : Nat) : Bool :=
  let d := s.dsp i
  s.dspIssues i && d.slotDue == 2 && kOp (bSlot d.bundle 2) == op

/-- A command of slot 2. -/
def State.dspMem (s : State) (i : Fin 64) (op : Nat) (run : Nat → State → State) : State := s.dspSlot i 2 op run

/-- The bundle of a reserved access has ended: DSP_ADDR (R226). -/
def State.dspAddrFault (s : State) (i : Fin 64) (pc : BitVec 12) (bad : Bool) : State :=
  if bad then s.dspFault i 0x61 pc else s

/-- Whether slot 2 of the bundle due, when it is executed now, touches a data address that R226 excludes. -/
def State.dspBadAddr (s : State) (i : Fin 64) (op : Nat) (ags : Nat → List (Fin 4)) (store : Bool) : Bool :=
  let d := s.dsp i
  let w := bSlot d.bundle 2
  s.dspIssues i && d.slotDue == 2 && kOp w == op &&
    (ags w).any fun g => !dmemOk (d.ag g).p.toNat || (store && inTable (s.tableWords i) (d.ag g).p.toNat)

/-- The AGs of formats L and L2. -/
def lAgs (w : Nat) : List (Fin 4) := [kAg w]
def l2Ags (w : Nat) : List (Fin 4) := [kAg w, kAgB w]

/-- The AGs that addressed an access update when PM is set (R228). -/
def Dsp.postModify (d : Dsp) (w : Nat) (pm : Bool) (ags : Nat → List (Fin 4)) : Dsp :=
  if pm then (ags w).eraseDups.foldl (fun d g => d.modAg g Ag.modified) d else d

/-- A load of a register through an AG. -/
def Dsp.loadThrough (d : Dsp) (rd : Nat) (g : Fin 4) : Dsp := d.write rd 3 (d.load (d.ag g).p.toNat)

/-- A store of a register through an AG; an address that R226 excludes is not written. -/
def Dsp.storeThrough (d : Dsp) (t rd : Nat) (g : Fin 4) : Dsp :=
  let a := (d.ag g).p.toNat
  if dmemOk a && !inTable t a then d.store a (d.x rd) else d

/-- An access of slot 2 with its post-modify, followed by the fault of an excluded address. -/
def State.dspAccess (s : State) (i : Fin 64) (op : Nat) (pm : Nat → Bool) (ags : Nat → List (Fin 4)) (store : Bool)
    (f : Nat → Dsp → Dsp) : State :=
  let pc := (s.dsp i).pc
  let bad := s.dspBadAddr i op ags store
  (s.dspMem i op fun w s => s.modDsp i fun d => (f w d).postModify w (pm w) ags).dspAddrFault i pc bad

/-- A branch takes effect after two delay bundles (Table 10.3). -/
def Dsp.branchTo (d : Dsp) (t : BitVec 12) : Dsp := { d with branch := some (3, t) }

/-- A conditional branch of format C. -/
def State.dspBranchIf (s : State) (i : Fin 64) (test : BitVec 32 → Bool) (w : Nat) : State :=
  s.modDsp i fun d => if test (d.x (kRd w)) then d.branchTo (d.pc + BitVec.ofInt 12 (kImm9 w)) else d

/-- LOOP (R227). -/
def Dsp.loopBegin (d : Dsp) (w : Nat) : Dsp :=
  let n := (d.x (kLoopRs w)).setWidth 24
  let last := d.pc + BitVec.ofNat 12 (kEnd w)
  if n = 0 then { d with branch := some (1, last + 1) }
  else d.modLoop (kLoop w) fun _ => { count := n, first := d.pc + 1, last := last, rot := kStep w, on := true }

/-- IN (R231). -/
def Dsp.input (d : Dsp) (w : Nat) : Dsp :=
  let e := d.inq.headD { w0 := 0, w1 := 0, w2 := 0, w3 := 0 }
  let r := kRd w
  { (((d.write r 3 e.w0).write (r + 1) 3 e.w1).write (r + 2) 3 e.w2).write (r + 3) 3 e.w3 with inq := d.inq.tail }

/-- SRD (Table 10.7). D2H is write-only, so a read of it gives a free value. -/
def State.dspSrd (s : State) (i : Fin 64) (w : Nat) : State :=
  let d := s.dsp i
  let put (v : BitVec 32) : State := s.modDsp i fun d => d.write (kRd w) 3 v
  match kAux w % 64 with
  | 0 => (put (BitVec.ofNat 32 (grains s.clock))).modDsp i fun d =>
      { d with timeHi := BitVec.ofNat 32 (field (grains s.clock) 51 32 + at_ (epochOf s.clock % 4096) 20) }
  | 1 => put d.timeHi
  | 2 => put (BitVec.ofNat 32 d.inq.length)
  | 3 => put (BitVec.ofNat 32 (s.mse i).toDsp.length)
  | 4 => put (BitVec.ofNat 32 (16 - (s.mse i).fromDsp.length + at_ d.outRoom 8))
  | 5 => put (d.ien.setWidth 32)
  | 6 => put ((s.dspPending i).setWidth 32)
  | 7 => put (d.tper.setWidth 32)
  | 8 => put (d.thresh.setWidth 32)
  | 9 => put (BitVec.ofNat 32 d.bank.ring)
  | 10 => put (d.bank.lc[0].count.setWidth 32)
  | 11 => put (d.bank.lc[1].count.setWidth 32)
  | 12 => put (d.epc.setWidth 32)
  | 13 => (put (s.fresh 32)).drawn
  | 14 => (put (BitVec.ofNat 32 (s.siteCfg i 0xC1 1))).modDsp i fun d => { d with h2dUnread := false }
  | _ => put (d.aflags.setWidth 32)

/-- SWR (Table 10.7). A RING beyond 47 and an IN_THRESH outside 1–128 have no stated value: they leave a free one. -/
def State.dspSwr (s : State) (i : Fin 64) (w : Nat) : State :=
  let v := (s.dsp i).x (kRd w)
  match kAux w % 64 with
  | 5 => s.modDsp i fun d => { d with ien := v.setWidth 4 }
  | 7 => s.modDsp i fun d => { d with tper := v.setWidth 24 }
  | 8 =>
    if 1 ≤ v.toNat ∧ v.toNat ≤ 128 then s.modDsp i fun d => { d with thresh := v.setWidth 8 }
    else (s.modDsp i fun d => { d with thresh := s.fresh 8 }).drawn
  | 9 =>
    if v.toNat ≤ 47 then s.modDsp i fun d => { d with bank := { d.bank with ring := v.toNat } }
    else (s.modDsp i fun d => { d with bank := { d.bank with ring := (s.fresh 6).toNat % 48 } }).drawn
  | 10 => s.modDsp i fun d => d.modLoop 0 fun l => { l with count := v.setWidth 24 }
  | 11 => s.modDsp i fun d => d.modLoop 1 fun l => { l with count := v.setWidth 24 }
  | 13 => s.modDsp i fun d => { d with d2h := v }
  | 15 => s.modDsp i fun d => { d with aflags := d.aflags &&& ~~~ v.setWidth 5 }
  | _ => s

/-- The immediate of LDI. -/
def ldiImm (b : BitVec 64) : BitVec 32 :=
  if bLimm b then (BitVec.ofNat 29 (at_ (kAux (bSlot b 2)) 20 + bSlot b 1)).signExtend 32
  else (BitVec.ofNat 9 (kAux (bSlot b 2))).signExtend 32

/-- LD (Table 10.5). -/
def execDspLd (i : Fin 64) (s : State) : Host.Outcome State Fault Refusal :=
  .next (s.dspAccess i 0x01 kPm lAgs false fun w d => d.loadThrough (kRd w) (kAg w))

/-- ST. -/
def execDspSt (i : Fin 64) (s : State) : Host.Outcome State Fault Refusal :=
  .next (s.dspAccess i 0x02 kPm lAgs true fun w d => d.storeThrough (s.tableWords i) (kRd w) (kAg w))

/-- Both accesses of LD2 or ST2 address one bank: the pipeline freezes for one CK_DSP cycle (R221). -/
def Dsp.bankTwice (d : Dsp) (w : Nat) : Dsp :=
  let bank (g : Fin 4) : Bool := decide (12288 ≤ (d.ag g).p.toNat)
  if bank (kAg w) = bank (kAgB w) then { d with due := addGrains d.due dspGrains } else d

/-- LD2. -/
def execDspLd2 (i : Fin 64) (s : State) : Host.Outcome State Fault Refusal :=
  .next (s.dspAccess i 0x03 kPm2 l2Ags false fun w d =>
    ((d.bankTwice w).loadThrough (kRd w) (kAg w)).loadThrough (kRd w + 1) (kAgB w))

/-- ST2. -/
def execDspSt2 (i : Fin 64) (s : State) : Host.Outcome State Fault Refusal :=
  .next (s.dspAccess i 0x04 kPm2 l2Ags true fun w d =>
      ((d.bankTwice w).storeThrough (s.tableWords i) (kRd w) (kAg w)).storeThrough (s.tableWords i) (kRd w + 1) (kAgB w))

/-- AGSET (R229). -/
def execDspAgset (i : Fin 64) (s : State) : Host.Outcome State Fault Refusal :=
  .next (s.dspMem i 0x05 fun w s => s.modDsp i fun d => d.modAg (kAg w) fun g => g.assign (kField w) (d.x (kRd w)))

/-- AGGET. -/
def execDspAgget (i : Fin 64) (s : State) : Host.Outcome State Fault Refusal :=
  .next (s.dspMem i 0x06 fun w s => s.modDsp i fun d => d.write (kRd w) 1 ((d.ag (kAg w)).value (kField w)))

/-- LDI. -/
def execDspLdi (i : Fin 64) (s : State) : Host.Outcome State Fault Refusal :=
  .next (s.dspMem i 0x07 fun w s => s.modDsp i fun d => d.write (kRd w) 1 (ldiImm d.bundle))

/-- BR. -/
def execDspBr (i : Fin 64) (s : State) : Host.Outcome State Fault Refusal :=
  .next (s.dspMem i 0x08 fun w s => s.modDsp i fun d => d.branchTo (kTarget w))

/-- CALL. -/
def execDspCall (i : Fin 64) (s : State) : Host.Outcome State Fault Refusal :=
  .next (s.dspMem i 0x09 fun w s => s.modDsp i fun d => (d.write 15 1 ((d.pc + 3).setWidth 32)).branchTo (kTarget w))

/-- RET. -/
def execDspRet (i : Fin 64) (s : State) : Host.Outcome State Fault Refusal :=
  .next (s.dspMem i 0x0A fun w s => s.modDsp i fun d => let _ := w; d.branchTo ((d.x 15).setWidth 12))

/-- The handler has ended: its operations retire and the banks swap back (R239), in as many cycles as an entry takes (DESIGN
CHOICE, log entry 1001). -/
def Dsp.left (d : Dsp) : Dsp :=
  { d.retired.swapped with due := addGrains d.due (5 * dspGrains : Nat), pc := d.epc, inHandler := false, oneFirst := true }

/-- RTI (R239). An RTI bundle that STOP ends leaves the handler first. -/
def execDspRti (i : Fin 64) (s : State) : Host.Outcome State Fault Refusal :=
  let d := s.dsp i
  let t := s.dspMem i 0x0B fun _ s => s
  if d.inHandler ∧ s.dspMemNow i 0x0B then .next (t.modDsp i fun e => { e with epc := d.epc }.left)
  else .next t

/-- BRZ. -/
def execDspBrz (i : Fin 64) (s : State) : Host.Outcome State Fault Refusal :=
  .next (s.dspMem i 0x0C fun w s => s.dspBranchIf i (fun x => x == 0) w)

/-- BRNZ. -/
def execDspBrnz (i : Fin 64) (s : State) : Host.Outcome State Fault Refusal :=
  .next (s.dspMem i 0x0D fun w s => s.dspBranchIf i (fun x => x != 0) w)

/-- BRLT. -/
def execDspBrlt (i : Fin 64) (s : State) : Host.Outcome State Fault Refusal :=
  .next (s.dspMem i 0x0E fun w s => s.dspBranchIf i (fun x => x.msb) w)

/-- BRGE. -/
def execDspBrge (i : Fin 64) (s : State) : Host.Outcome State Fault Refusal :=
  .next (s.dspMem i 0x0F fun w s => s.dspBranchIf i (fun x => !x.msb) w)

/-- LOOP (R227). -/
def execDspLoop (i : Fin 64) (s : State) : Host.Outcome State Fault Refusal :=
  .next (s.dspMem i 0x10 fun w s => s.modDsp i fun d => d.loopBegin w)

/-- IN (R231). -/
def execDspIn (i : Fin 64) (s : State) : Host.Outcome State Fault Refusal :=
  .next (s.dspMem i 0x11 fun w s => s.modDsp i fun d => d.input w)

/-- MBR. -/
def execDspMbr (i : Fin 64) (s : State) : Host.Outcome State Fault Refusal :=
  .next (s.dspMem i 0x12 fun w s => (s.modDsp i fun d =>
      (d.write (kRd w) 3 (((s.mse i).toDsp.headD 0).setWidth 32)).write (kRd w +
      1) 3 (((s.mse i).toDsp.headD 0).extractLsb' 32 32)).modMse i
    fun m => { m with toDsp := m.toDsp.tail })

/-- MBW (R233). -/
def execDspMbw (i : Fin 64) (s : State) : Host.Outcome State Fault Refusal :=
  .next (s.dspMem i 0x13 fun w s => if (s.mse i).fromDsp.length < 16 then
      s.modMse i fun m => { m with fromDsp := m.fromDsp ++ [(s.dsp i).x (kRd w)] }
    else s.modDsp i fun d => { d with sticky := d.sticky ||| 8 })

/-- SOUT (R235). -/
def execDspSout (i : Fin 64) (s : State) : Host.Outcome State Fault Refusal :=
  .next (s.dspMem i 0x14 fun w s => s.soutWord i
    { stream := if bitOf (kAux w) 0 then .results else .samples, sub := 0, word := (s.dsp i).x (kRd w + 1) ++ (s.dsp i).x (kRd w) })

/-- RPUT (R234). -/
def execDspRput (i : Fin 64) (s : State) : Host.Outcome State Fault Refusal :=
  .next (s.dspMem i 0x15 fun w s => s.modDsp i fun d =>
    { d with staging := vmodN d.staging (field (kAux w) 8 8) fun g => vmodN g (field (kAux w) 7 4) fun _ => d.x (kRd w) })

/-- RPUB (R234). -/
def execDspRpub (i : Fin 64) (s : State) : Host.Outcome State Fault Refusal :=
  .next (s.dspMem i 0x16 fun w s => s.rpub i (Fin.ofNat 2 (field (kAux w) 8 8)))

/-- DFLAG (R233): the flag takes its value from the first CK_SEQ cycle that begins at least 2 CK_DSP cycles later. -/
def execDspDflag (i : Fin 64) (s : State) : Host.Outcome State Fault Refusal :=
  .next (s.dspMem i 0x17 fun w s =>
    let t := s.seqFrom (addGrains s.clock (2 * dspGrains : Nat))
    s.modDsp i fun d => d.flagFrom t ((d.x (kRd w)).getLsbD 0))

/-- SRD (R236). -/
def execDspSrd (i : Fin 64) (s : State) : Host.Outcome State Fault Refusal :=
  .next (s.dspMem i 0x18 fun w s => s.dspSrd i w)

/-- SWR (R236). -/
def execDspSwr (i : Fin 64) (s : State) : Host.Outcome State Fault Refusal :=
  .next (s.dspMem i 0x19 fun w s => s.dspSwr i w)

/-- The terms of the sine series from `term` on, of an angle with square `sq`, both in units of 2⁻⁶⁰; `ds` holds the products
(2k)(2k + 1). -/
def sineTerms (sq : Nat) : Int → List Nat → Int
  | term, [] => term
  | term, d :: ds => term + sineTerms sq (-(term * sq) / (2 ^ 60 * d : Nat)) ds

/-- 2³¹ × sin(2π × a ÷ 2³²) for an angle `x` ÷ 2³⁰ of the first quadrant, rounded to the nearest integer. -/
def sineQuarter (x : Nat) : Int :=
  let angle := x * 1811004864519280711 / 2 ^ 30
  (sineTerms (angle * angle / 2 ^ 60) angle [6, 20, 42, 72, 110, 156, 210, 272] + 2 ^ 28) / 2 ^ 29

/-- 2³¹ × sin(2π × a ÷ 2³²). -/
def sineQ31 (a : BitVec 32) : Int :=
  let x := a.toNat % 2 ^ 30
  match a.toNat / 2 ^ 30 with
  | 0 => sineQuarter x
  | 1 => sineQuarter (2 ^ 30 - x)
  | 2 => -sineQuarter x
  | _ => -sineQuarter (2 ^ 30 - x)

/-- A result of SINCOS: the exact value and an error below 3 × 10⁻⁷ of full scale, which is 644 units, saturating (R225). -/
def sincosValue (exact : Int) (e : Fin 1287) : BitVec 32 := sat32 (exact + ((e.val : Int) - 643))

/-- SINCOS: rd takes the sine and rd + 1 the cosine. The error of the interpolation is a free value inside its bound (log entry
1004). -/
def execDspSincos (i : Fin 64) (s : State) : Host.Outcome State Fault Refusal :=
  .next (s.dspMem i 0x1A fun w s => s.modDsp i fun d =>
    let a := d.x (kRa w)
    (d.write (kRd w) 3 (sincosValue (sineQ31 a) (Config.dspSinError a))).write (kRd w + 1) 3
      (sincosValue (sineQ31 (a + 0x40000000)) (Config.dspCosError a)))

/-- WAIT (R242): the bundle has issued and the DSP freezes. -/
def execDspWait (i : Fin 64) (s : State) : Host.Outcome State Fault Refusal :=
  let mask := BitVec.ofNat 4 (kAux (bSlot (s.dsp i).bundle 2))
  let now := s.dspMemNow i 0x1B
  let s := s.dspMem i 0x1B fun _ s => s
  if now && (s.dsp i).state == .run then .next (s.modDsp i fun d => { d with state := .wait, waitMask := some mask }) else .next s

/-- The DSP resumes from WAIT when a source of its mask is pending, and enters that source's handler when it is enabled (R242). -/
def execDspWaitEnd (i : Fin 64) (s : State) : Host.Outcome State Fault Refusal :=
  let d := s.dsp i
  let due := s.dspPending i &&& d.waitMask.getD 0
  if d.state = .wait ∧ due ≠ 0 then
    let t := laterOf s.clock d.due
    let s := s.modDsp i fun d => { d with state := .run, due := t, waitMask := none }
    match lowestSource (due &&& d.ien) with
    | some k => if d.inHandler ∨ d.branch.isSome then .next s else .next (s.modDsp i fun d => d.entered k t)
    | none => .next s
  else .next s

/-- RCLR. -/
def execDspRclr (i : Fin 64) (s : State) : Host.Outcome State Fault Refusal :=
  .next (s.dspMem i 0x1C fun w s => s.modDsp i fun d => let _ := w; (List.range 48).foldl (fun d k => d.write (16 + k) 1 0) d)

/-- TRAP. -/
def execDspTrap (i : Fin 64) (s : State) : Host.Outcome State Fault Refusal :=
  .next (s.dspMem i 0x1D fun w s => s.present (.ofSite i) 0x63 (kAux w) 0)

/-- HALT (R241). -/
def execDspHalt (i : Fin 64) (s : State) : Host.Outcome State Fault Refusal :=
  if s.dspMemNow i 0x1E then
    let s := (s.modDsp i fun d => { d with stopAsked := false }).dspMem i 0x1E fun _ s => s
    .next (s.modDsp i fun d => { d.retired with state := .halted, stopCause := .halt, branch := none })
  else .next s

/-- An enabled pending source is entered at the first bundle boundary outside delay bundles, freezes and handlers, where it is
recognised (R238, R239). -/
def execDspInterruptEntry (i : Fin 64) (s : State) : Host.Outcome State Fault Refusal :=
  let s' := s.dspIssue i
  match s'.dspCalls i with
  | some k => .next (s'.modDsp i fun d => d.entered k s'.clock)
  | none => .next s

/-- TPER cycles have passed: TIMER is latched (R237). -/
def execDspTimer (i : Fin 64) (s : State) : Host.Outcome State Fault Refusal :=
  .next (s.modDsp i fun d => if d.tper = 0 then d else { d with latched := d.latched ||| 4 })

/-- A word has left the full output queue: the word that waits enters it, and with no word waiting the pipeline resumes (R235). -/
def execSoutHoldEnd (i : Fin 64) (s : State) : Host.Outcome State Fault Refusal :=
  .next ((s.dspWake i).modDsp i fun d => { d.unhold with due := laterOf s.clock d.due })

end Sys2Proof.Machine
end

