-- ==== Sys2Proof/Machine/Trigger.lean ====
section
/-! DEFINITION. Triggers, Bushel and streams (chapter 12): the match units, chip and chain triggers, Bushel captures, the site
stream writer and the forming of stream packets. -/
namespace Sys2Proof.Machine

/-! ## TRIG_OUT and chain channels (R271–R273) -/

/-- The TRIG_OUT balls routed to source `src` pulse from `start`, each moved by the placement of its ball, whatever pulses they
already have: overlapping pulses make one (R272). A force of the chip holds them inactive (Table 18.3). -/
def State.trigOuts (s : State) (src : Nat) (start : Time) (place : Fin 4 → Fin 5) : State :=
  if s.gtForced .chip then s
  else s.forEach (List.finRange 4) fun n s =>
    let cfg := s.cfg 0x2A00 (n.val + 1)
    if field cfg 4 0 = src then
      let start := addGrains start ((place n).val - 2)
      { s with chipTrig := { s.chipTrig with
          outs := vmod s.chipTrig.outs n fun l =>
            (start, addGrains start (field cfg 15 8 * patGrains : Nat)) :: l.filter fun p => before s.clock p.2 } }
    else s

/-- FL_LATENCY_BUDGET in grains. -/
def State.latencyBudget (s : State) : Nat := s.cfg 0x2203 1 * 512

/-- A TRIG packet of a channel with its T_D has reached a chip at time `t` (R273): the action is scheduled at T_A, or is late. -/
def State.chainArrive (s : State) (chan : Fin 8) (td t : Time) : State :=
  if bitOf (s.cfg 0x2A00 5) chan.val then
    let ta := addGrains td s.latencyBudget
    if span t ta < 5120 then
      ({ s with chipTrig := { s.chipTrig with late := satInc 0xFFFF s.chipTrig.late } }).presentObj .ofChip 0x70 0x2A00 6
    else { s with chipTrig := { s.chipTrig with chain := s.chipTrig.chain ++ [(chan, ta)] } }
  else s

/-! ## The region matcher (R265–R270) -/

/-- RG_TRIG_UNIT of unit `u`. -/
def State.unitCfg (s : State) (q : Fin 4) (u : Fin 4) : Nat := s.regionCfg q 0x11 (u.val + 1)

/-- A 128-bit mask of unit `u` at region offset `off`: CARE, VALUE or EDGE. -/
def State.unitMask (s : State) (q : Fin 4) (off : Nat) (u : Fin 4) : BitVec 128 :=
  BitVec.ofNat 128 (s.regionCfg q off (2 * u.val + 1) + at_ (s.regionCfg q off (2 * u.val + 2)) 64)

/-- The site whose signal a selector names (Table 12.1). -/
def selSite (q : Fin 4) (sel : Nat) : Option (Fin 64) :=
  if sel < 256 then some (siteAt q (Fin.ofNat 16 (sel / 16)))
  else if sel < 320 then some (siteAt q (Fin.ofNat 16 ((sel - 256) / 4)))
  else if sel < 384 then some (siteAt q (Fin.ofNat 16 ((sel - 320) / 4)))
  else if sel < 400 then some (siteAt q (Fin.ofNat 16 (sel - 384)))
  else if sel < 416 then some (siteAt q (Fin.ofNat 16 (sel - 400)))
  else none

/-- A slot is treated as don't-care at the sample edge `e` (R267). -/
def State.slotDead (s : State) (q : Fin 4) (n : Nat) (e : Time) : Bool :=
  let sel := field (s.regionCfg q 0x10 (n + 1)) 8 0
  let fresh := (s.region q).slotsNew.any fun p => p.1 == n && !elapsed p.2 e (4 * patGrains)
  match selSite q sel with
  | none => fresh
  | some i =>
    let st := s.siteStateAt i e
    fresh || st == .off || st == .fenced || (decide (sel < 256) && field (s.pcMode i (Fin.ofNat 8 (sel / 2))) 7 6 != 0)

/-! ### Signals on the match plane (R265, R266) -/

/-- A signal of one bit: what it is now, and its changes of the last 10 µs, newest first: when, and the level before. Times are
those of its reference instants (Table 12.1). -/
abbrev Signal := Bool × List (Time × Bool)

/-- A line that pulses for one CK_PAT cycle from each of some instants, newest first; pulses that meet make one. -/
def pulsed (next : Option Time) : List Time → List (Time × Bool)
  | [] => []
  | t :: ts =>
    let stop := addGrains t patGrains
    let ends : Bool := match next with
      | some x => before stop x
      | none => true
    let starts : Bool := match ts with
      | u :: _ => before (addGrains u patGrains) t
      | [] => true
    (if ends then [(stop, true)] else []) ++ (if starts then [(t, false)] else []) ++ pulsed (some t) ts

/-- A level by its value from each of some instants on, newest first, as a signal. -/
def valuesSignal : List (Time × Bool) → Signal
  | [] => (false, [])
  | (t, v) :: l => (v, (t, (valuesSignal l).1) :: (valuesSignal l).2)

/-- The pulses of line `n` among those of several lines. -/
def lineSignal (n : Nat) (l : List (Nat × Time)) : Signal :=
  (false, pulsed none ((l.filter fun p => p.1 == n).map (·.2)))

/-- The changes numbered `k` in a list of several signals' changes. -/
def changesOf (k : Nat) (l : List (Nat × Time × Bool)) : List (Time × Bool) := (l.filter fun e => e.1 == k).map (·.2)

/-- The signal that a selector of region `q` names (Table 12.1). -/
def State.signal (s : State) (q : Fin 4) (sel : Nat) : Signal :=
  let i : Fin 64 := (selSite q sel).getD 0
  if sel < 256 then
    let p := s.cell i (Fin.ofNat 8 (sel / 2))
    if bitOf sel 0 then (p.cmpHi, p.cmpHist.map fun e => (e.1, e.2.1)) else (p.cmpLo, p.cmpHist.map fun e => (e.1, e.2.2))
  else if sel < 320 then
    let p := (s.site i).psq
    (p.lines.getLsbD (sel % 4), p.lineHist.map fun e => (e.1, e.2.getLsbD (sel % 4)))
  else if sel < 384 then lineSignal (sel % 4) (s.site i).psq.trigPulses
  else if sel < 400 then ((s.site i).mse.flag, changesOf 3 (s.site i).psq.ext)
  else if sel < 416 then valuesSignal (s.dsp i).flags
  else if sel < 420 then (s.special.levels.getLsbD (sel - 416), changesOf (sel - 416) s.special.changes)
  else if sel < 424 then lineSignal (sel - 420) s.chipTrig.bus
  else lineSignal (sel - 424) s.chipTrig.slots

/-- The delay declared for a comparator's path: TRACE and the cell's factory-trimmed internal delay, in grains. -/
def State.pathDelay (s : State) (i : Fin 64) (c : Fin 8) : Nat :=
  4 * s.siteCfg i 0x50 (c.val + 1) + (Config.cellDelay (8 * i.val + c.val)).toNat

/-- What lies between a slot's reference instant and the match plane, in grains (R266): for a comparator or a TRIG_IN ball, its
path and the alignment FIFO, whose delay is clamped to 0–6,400; 6,400 otherwise. A TRIG_IN path has no delay of its own: the
reference instant is the crossing at the ball as its converter gives it (DEDUCED, log entry 1201). -/
def State.planeDelay (s : State) (q : Fin 4) (n : Nat) : Int :=
  let v := s.regionCfg q 0x10 (n + 1)
  let sel := field v 8 0
  let fifo (path : Nat) : Int := path + clampInt 0 6400 (6400 - path - 4 * toInt (field v 23 16) 8)
  if sel < 256 then fifo (s.pathDelay ((selSite q sel).getD 0) (Fin.ofNat 8 (sel / 2)))
  else if 416 ≤ sel ∧ sel ≤ 419 then fifo 0
  else 6400

/-- An edge of a signal lies after `a` and not after `b`: rising or falling. -/
def edgeWithin (rise : Bool) (a b : Time) (now : Bool) : List (Time × Bool) → Bool
  | [] => false
  | (t, old) :: l => (now == rise && old != rise && before a t && !before b t) || edgeWithin rise a b old l

/-- The condition of slot `n` at the plane sample `e`: a level at the sample, or an edge that reached the plane within the CK_PAT
cycle that ends there (R267). -/
def State.slotMet (s : State) (q : Fin 4) (n : Nat) (edge value : Bool) (e : Time) : Bool :=
  let sig := s.signal q (field (s.regionCfg q 0x10 (n + 1)) 8 0)
  let x := addGrains e (-(s.planeDelay q n))
  if edge then edgeWithin value (addGrains x (-(patGrains : Int))) x sig.1 sig.2 else heldAt sig.2 sig.1 x == value

/-- The match of a unit at a plane sample: the conditions of the cared slots that are live, of which there is at least one. -/
def State.unitMatch (s : State) (q : Fin 4) (u : Fin 4) (e : Time) : Bool :=
  let value := s.unitMask q 0x13 u
  let edge := s.unitMask q 0x14 u
  let live := (List.range 128).filter fun n => (s.unitMask q 0x12 u).getLsbD n && !s.slotDead q n e
  !live.isEmpty && live.all fun n => s.slotMet q n (edge.getLsbD n) (value.getLsbD n) e

/-- `s` with a match unit changed. -/
def State.modUnit (s : State) (q : Fin 4) (u : Fin 4) (f : MatchUnit → MatchUnit) : State :=
  s.modRegion q fun r => { r with units := vmod r.units u f }

/-- The plane lies 6,400 grains after the signals (R266). -/
def planeGrains : Nat := 6400

/-- The end of the holdoff of a firing at detection time `td`. -/
def State.holdoffEnd (s : State) (q : Fin 4) (u : Fin 4) (td : Time) : Time :=
  addGrains td (planeGrains + field (s.unitCfg q u) 15 0 * patGrains : Nat)

/-- The sites of a unit. -/
def State.unitSites (s : State) (q : Fin 4) (u : Fin 4) : List (Fin 64) :=
  (sitesOf q).filter fun i => bitOf (s.unitCfg q u) (16 + (localOf i).val)

/-- Holdoff ends (R269): a SUPPRESSED mark when rises were counted. -/
def State.holdoffOver (s : State) (q : Fin 4) (u : Fin 4) : State :=
  let m := (s.region q).units[u.val]
  match m.holdoff with
  | none => s
  | some td =>
    let t := addGrains td (field (s.unitCfg q u) 15 0 * patGrains : Nat)
    let s := s.modUnit q u fun m => { m with holdoff := none, rises := 0 }
    if m.rises ≠ 0 ∧ bitOf (s.unitCfg q u) 34 then
      s.forEach (s.unitSites q u) fun i s => s.queueMark i 0x0A t (u.val + at_ m.rises 32)
    else s

/-- The RTRIG latch of a site is set (R270). -/
def State.setRtrig (s : State) (i : Fin 64) : State :=
  let s := if (s.site i).stream.rtrig then s.modStream i fun m => { m with overrun := satInc 0xFFFF m.overrun } else s.rtrigTo i true
  s.modStream i fun m => { m with rtrigAt := some s.clock }

/-- A bus line pulses for one CK_PAT cycle, its reference instant 5,120 grains after the detection time (R271, Table 12.1). -/
def State.busPulse (s : State) (line : Nat) (td : Time) : State :=
  { s with chipTrig := { s.chipTrig with
      bus := (line, addGrains td 5120) :: s.chipTrig.bus.filter fun p => !elapsed p.2 s.clock 5120000 } }

/-- A firing of a unit with detection time `td` (R268). -/
def State.unitFire (s : State) (q : Fin 4) (u : Fin 4) (td : Time) (place : Fin 4 → Fin 5) : State :=
  let cfg := s.unitCfg q u
  let s := s.modUnit q u fun m => { m with fires := m.fires + 1, tLast := time64 td, holdoff := some td, rises := 0 }
  let s := s.forEach (s.unitSites q u) fun i s =>
    let s := if bitOf cfg 32 then s.setRtrig i else s
    let s := if bitOf cfg 33 then s.bushelTrigger i u.val td else s
    if bitOf cfg 34 then s.queueMark i 0x0C td u.val else s
  let s := if bitOf cfg 38 then (s.busPulse (field cfg 37 36) td).trigOuts (field cfg 37 36 + 1) (addGrains td 20480) place else s
  if bitOf cfg 42 then
    let chan := field cfg 41 39
    let s := s.sendChip 5 0xFFFF [time64 td, BitVec.ofNat 64 (chan + at_ q.val 3 + at_ u.val 5)]
    ({ s with chipTrig := { s.chipTrig with sent := satInc 0xFFFF s.chipTrig.sent } }).chainArrive (Fin.ofNat 8 chan) td s.clock
  else s

/-- A holdoff whose end lies at or before `e` is over. -/
def State.holdoffPast (s : State) (q : Fin 4) (e : Time) (u : Fin 4) : State :=
  match ((s.region q).units[u.val]).holdoff with
  | some td => if elapsed (s.holdoffEnd q u td) e 0 then s.holdoffOver q u else s
  | none => s

/-- A match rises in an enabled unit: it fires, or the rise is counted during holdoff (R269). An L3 force of the region stops
its units firing (Table 18.3). -/
def State.unitRise (s : State) (q : Fin 4) (e : Time) (u : Fin 4) (place : Fin 4 → Fin 5) : State :=
  if ((s.region q).units[u.val]).holdoff.isSome then
    s.modUnit q u fun m => { m with rises := satInc 0xFFFFFFFF m.rises, suppressed := satInc 0xFFFF m.suppressed }
  else if s.regionHeld q then s
  else s.unitFire q u (addGrains e (-(planeGrains : Int))) place

/-- The match of a unit at the plane sample before `e`; one judged before a commit changed its settings stands. -/
def State.unitWas (s : State) (q : Fin 4) (u : Fin 4) (e : Time) : Bool :=
  let m := (s.region q).units[u.val]
  let prev := addGrains e (-(patGrains : Int))
  if before m.matchedAt prev then s.unitMatch q u prev else m.matched

/-- The match of a unit rises at the plane sample `e`. -/
def State.matchRises (s : State) (q : Fin 4) (e : Time) (u : Fin 4) : Bool := s.unitMatch q u e && !s.unitWas q u e

/-- The matches of a region's units at the last plane sample before the present CK_SEQ cycle, under the settings that a commit is
about to change. -/
def State.planeKept (s : State) (q : Fin 4) : State :=
  let e := addGrains (edgeAt patGrains s.cycle) (-(patGrains : Int))
  s.modRegion q fun r => { r with units := Vector.ofFn fun u =>
    { r.units[u.val] with matched := s.unitMatch q u e, matchedAt := e } }

/-- A subindex on which the matches of region `q` depend: its slots and masks, and CMP_MODE of its sites' cells. -/
def matcherOf (q : Fin 4) (addr : Nat) : Bool :=
  match placeOf (indexOf addr) with
  | .region r off => r == q && decide (0x10 ≤ off) && decide (off ≤ 0x14) && off != 0x11
  | .site i off => regionOf i == q && off == 0x22
  | _ => false

/-- What a set of writes is about to change in the matchers. -/
def State.planesKept (s : State) (addrs : List Nat) : State :=
  s.forEach ((List.finRange 4).filter fun q => addrs.any (matcherOf q)) fun q s => s.planeKept q

/-- The CK_PAT edge whose number, modulo 2^42, is `n`: the one nearest the present time. The edges lie at the multiples of a CK_PAT
period. -/
def State.patEdge (s : State) (n : BitVec 42) : Time :=
  let k := s.clock.toNat / patGrains
  addGrains (BitVec.ofNat 68 (k * patGrains)) ((n - BitVec.ofNat 42 k).toInt * patGrains)

/-- TRIGGER_FIRE (R267, R268): a plane sample at which the match of a unit rises, by the CK_SEQ cycle and the first or second
CK_PAT edge in it. An enabled unit fires in the next CK_PAT cycle (Table 12.2), or counts the rise; units that rise together each
have their command. `placed` is where the TRIG_OUT balls place the pulse, 0–4 for −2 to +2 grains, 2 where a ball is not listed. -/
def execTriggerFire (q : Fin 4) (u : Fin 4) (cycle : BitVec 41) (second : Bool) (placed : List (Fin 5)) (s : State) :
    Host.Outcome State Fault Refusal :=
  if s.fastClocks then
    let e := s.patEdge (BitVec.ofNat 42 (2 * cycle.toNat + b2n second))
    let s := s.advance (addGrains e patGrains)
    let up := s.matchRises q e u && bitOf (s.unitCfg q u) 35
    let s := s.holdoffPast q e u
    .next (if up then s.unitRise q e u fun n => placed.getD n.val 2 else s)
  else .next s

/-- HOLDOFF_END (R269): the time base reaches E + HOLDOFF. -/
def execHoldoffEnd (q : Fin 4) (u : Fin 4) (s : State) : Host.Outcome State Fault Refusal :=
  match ((s.region q).units[u.val]).holdoff with
  | some td => .next ((s.advance (s.holdoffEnd q u td)).holdoffOver q u)
  | none => .next s

/-- CHAIN_TRIG_ACTION (R273): the time base reaches the earliest T_A, the channel's slot is asserted for one CK_PAT cycle and the
balls routed to the channel pulse. -/
def execChainTrigAction (s : State) : Host.Outcome State Fault Refusal :=
  let first := s.chipTrig.chain.foldl (fun (a : Option (Fin 8 × Time)) p =>
    match a with
    | none => some p
    | some b => if before p.2 b.2 then some p else some b) none
  match first with
  | none => .next s
  | some p =>
    let start := addGrains p.2 20480
    let s := (s.advance p.2).trigOuts (8 + p.1.val) start fun n => Config.trigPlace n.val start
    .next { s with chipTrig := { s.chipTrig with
              chain := s.chipTrig.chain.erase p, acted := satInc 0xFFFF s.chipTrig.acted,
              slots := (p.1.val, p.2) :: s.chipTrig.slots.filter fun g => !elapsed g.2 s.clock 5120000 } }

/-! ## Bushel (R275–R278) -/

/-- POST of a capture. -/
def Bushel.post (b : Bushel) : Nat := 8192 - b.pre

/-- The entry at time `t`: the latest change at or before it. -/
def Bushel.entryAt (b : Bushel) (t : Time) : BitVec 16 :=
  match b.hist.find? fun p => !before t p.1 with
  | some p => p.2
  | none => 0

/-- T_TRIG on the time base at the trigger. -/
def Bushel.tTrigRead (b : Bushel) : Time := addGrains b.tTrig (-b.stepBy)

/-- The image of a capture (R278, Table 12.4). -/
def Bushel.capture (b : Bushel) : List (BitVec 64) :=
  let n := b.preValid + b.post
  let entry (k : Nat) : Nat :=
    if k < n then (b.entryAt (addGrains b.tTrig (((k : Int) - b.preValid) * patGrains))).toNat else 0
  let h0 := at_ 0xB0 56 + at_ b.src 53 + at_ (b2n b.step) 52 + at_ b.missedH0 32 + at_ b.preValid 16 + b.post
  let data := (List.range ((n + 3) / 4)).map fun w =>
    BitVec.ofNat 64 (entry (4 * w) + at_ (entry (4 * w + 1)) 16 + at_ (entry (4 * w + 2)) 32 + at_ (entry (4 * w + 3)) 48)
  [BitVec.ofNat 64 h0, time64 b.tTrigRead, BitVec.ofNat 64 b.captures.toNat] ++ data

/-- BUSHEL_CAPTURE_DONE (R276): POST entries have been recorded. -/
def execBushelCaptureDone (i : Fin 64) (s : State) : Host.Outcome State Fault Refusal :=
  let b := (s.site i).stream.bushel
  if b.state = .capturing then
    let s := s.advance (addGrains b.tTrig (b.post * patGrains + planeGrains : Nat))
    let snap := !b.out && bitOf (s.streamCfg i) 4
    .next (s.modBushel i fun b => { b with state := if snap then .dumping else .held, image := b.capture, hist := [] })
  else .next s

/-- The Bushel leaves HELD or DUMPING: ARMED when ARM = 1, else DISARMED; without recording until the site records. -/
def State.bushelNext (s : State) (i : Fin 64) : State :=
  let s := s.modBushel i fun b => { b with state := .disarmed, image := [], hist := [] }
  if bitOf (s.bushelCfg i) 21 then
    if (s.siteState i).connected then s.bushelArmed i
    else s.modBushel i fun b => { b with state := .armed, pre := field (s.bushelCfg i) 12 0, out := bitOf (s.bushelCfg i) 20 }
  else s

/-- BUSHEL_DUMP_DONE (R276): the last dump word has been granted. -/
def execBushelDumpDone (i : Fin 64) (s : State) : Host.Outcome State Fault Refusal :=
  let b := (s.site i).stream.bushel
  if b.state = .dumping ∧ b.image = [] then .next (s.bushelNext i) else .next s

/-! ## The site stream writer (R22, R24, R279, R282) -/

/-- Words that the site stream FIFO can still take. -/
def SiteStream.room (m : SiteStream) : Nat := 2048 - m.fifo.length

/-- The requesters of the writer by position (Table 1.5). A mark asks while all three of its words find room. -/
def State.streamReqs (s : State) (i : Fin 64) : List Bool :=
  let m := (s.site i).stream
  let b := m.bushel
  [!m.marks.isEmpty && decide (3 ≤ m.room), !(s.dsp i).outq.isEmpty] ++
    (allCells.map fun c => ((s.site i).tdc.cells[c.val]).gives) ++
    [b.state == .dumping && !b.image.isEmpty]

/-- A requester that has stopped requesting begins its next wait at 0 (R22). -/
def State.starveSettle (s : State) (i : Fin 64) : State :=
  let reqs := s.streamReqs i
  s.modStream i fun m =>
    { m with starve := { counts := Vector.ofFn fun p => if reqs.getD p.val false then m.starve.counts[p.val] else 0 } }

/-- The ENABLE bit of a stream. -/
def Stream.bit : Stream → Nat
  | .samples => 0 | .stamps => 1 | .marks => 2 | .results => 3 | .snap => 4

/-- Words enter the FIFO, or are discarded without count when their stream is disabled (R279). -/
def State.fifoPush (s : State) (i : Fin 64) (st : Stream) (sub epoch : Nat) (ws : List (BitVec 64)) : State :=
  if bitOf (s.streamCfg i) st.bit then
    s.modStream i fun m => { m with
      fifo := m.fifo ++ ws.map fun w => { stream := st, sub := sub, epoch := BitVec.ofNat 16 epoch, word := w } }
  else s

/-- The grant of position `p`: its word, or the three words of a mark, moves into the FIFO. -/
def State.streamTake (s : State) (i : Fin 64) (p : Nat) : State :=
  let e := epochOf s.clock
  if p = 0 then
    match (s.site i).stream.marks with
    | m :: rest => (s.fifoPush i .marks 0 (field m.time.toNat 63 52) m.words).modStream i fun x => { x with marks := rest }
    | [] => s
  else if p = 1 then
    match (s.dsp i).outq with
    | w :: rest => (s.fifoPush i w.stream w.sub e [w.word]).modDsp i fun d => { d with outq := rest }
    | [] => s
  else if p ≤ 9 then
    let c : Fin 8 := Fin.ofNat 8 (p - 2)
    match ((s.site i).tdc.cells[c.val]).queue with
    | w :: rest => (s.fifoPush i .stamps 0 w.epoch.toNat [w.word]).modTdcCell i c fun q => { q with queue := rest }
    | [] => s
  else
    match (s.site i).stream.bushel.image with
    | w :: rest => (s.fifoPush i .snap 0 e [w]).modBushel i fun b => { b with image := rest }
    | [] => s

/-- STREAM_WORD_GRANT (R22): the writer grants one word, or a whole mark, while the FIFO has room. -/
def execStreamWordGrant (i : Fin 64) (s : State) : Host.Outcome State Fault Refusal :=
  let s := s.dspWake i
  let m := (s.site i).stream
  if m.room = 0 ∨ ¬ s.fastClocks then .next s
  else
    let reqs := s.streamReqs i
    match starveWinner m.starve.counts.toList reqs with
    | none => .next s
    | some p =>
      .next (((s.streamTake i p).modStream i fun m => { m with starve := { counts := starveGrant m.starve.counts reqs p } }).dspWake i)

/-! ## Stream packets (R280) -/

/-- Payload words of FIFO words that one packet can hold: whole marks, or one place less for D0. -/
def State.packetRoom (s : State) (st : Stream) : Nat :=
  let n := field (s.cfg 0x2A02 1) 23 16
  if st = .marks then n / 3 * 3 else n - 1

/-- The words at the head of the FIFO that share a packet; one that a flush has closed takes no more. -/
def State.packetWords (s : State) (i : Fin 64) : List StreamWord :=
  match (s.site i).stream.fifo with
  | [] => []
  | w :: rest =>
    (w :: rest.takeWhile fun x => x.stream == w.stream && x.sub == w.sub && x.epoch == w.epoch).take
      (match (s.site i).stream.flushed with
       | 0 => s.packetRoom w.stream
       | n => min n (s.packetRoom w.stream))

/-- The packet at the head of the FIFO is closed: full, followed by a word of another kind, flushed, or of a disabled stream. -/
def State.packetClosed (s : State) (i : Fin 64) : Bool :=
  let m := (s.site i).stream
  let ws := s.packetWords i
  match ws with
  | [] => false
  | w :: _ =>
    decide (ws.length = s.packetRoom w.stream) || decide (ws.length < m.fifo.length) || decide (ws.length ≤ m.flushed) ||
      !bitOf (s.streamCfg i) w.stream.bit

/-- STREAM of D0. -/
def Stream.code : Stream → Nat
  | .samples => 0 | .stamps => 1 | .results => 2 | .snap => 3 | .marks => 0

/-- The packet at the head of a site's FIFO leaves it: type, epoch and payload, with TSEQ and the discards counted in D0. -/
def State.takePacket (s : State) (i : Fin 64) : State × Nat × Nat × List (BitVec 64) :=
  let ws := s.packetWords i
  let m := (s.site i).stream
  match ws with
  | [] => (s, 1, 0, [])
  | w :: _ =>
    let n := ws.length
    let s := s.modStream i fun m => { m with fifo := m.fifo.drop n, flushed := m.flushed - n }
    let words := ws.map (·.word)
    if w.stream = .marks then (s, 1, w.epoch.toNat, words)
    else
      let k := streamPlace w.stream w.sub
      let d0 := at_ 0xF0 56 + at_ w.stream.code 52 + at_ w.sub 48 + at_ (vgetN m.tseq k 0).toNat 32 + vgetN m.discards k 0
      let s := s.modStream i fun m =>
        { m with tseq := vmodN m.tseq k (· + 1), discards := vmodN m.discards k fun _ => 0 }
      (s, 0, w.epoch.toNat, BitVec.ofNat 64 d0 :: words)

/-- PACKET_FLUSH (R280): the oldest word of the open packet has waited FLUSH µs. -/
def execPacketFlush (i : Fin 64) (s : State) : Host.Outcome State Fault Refusal :=
  .next (s.modStream i fun m => { m with flushed := max m.flushed (s.packetWords i).length })

/-- LOST_MARK_QUEUE (R282): the mark queue has room for two marks and a LOST mark with the loss count is queued. -/
def execLostMarkQueue (i : Fin 64) (s : State) : Host.Outcome State Fault Refusal := .next (s.lostMark i)

/-! ## Writes -/

/-- CMD = TRIGGER needs the host SRC bit (R275). -/
def trigDep (view : Nat → Nat) (i : Fin 64) (off sub v : Nat) : Bool :=
  if off = 0xE3 ∧ sub = 2 ∧ v = 1 then bitOf (view (siteAddr i 0xE3 1)) 18 else true

/-- What `trigDep` reads. -/
def trigReads (i : Fin 64) (off sub v : Nat) : List Nat := if off = 0xE3 ∧ sub = 2 ∧ v = 1 then [siteAddr i 0xE3 1] else []

/-- CMD = REARM outside HELD (R276). -/
def State.trigCheck (s : State) (i : Fin 64) (off sub v : Nat) : Nat :=
  if off = 0xE3 ∧ sub = 2 ∧ v = 2 ∧ (s.site i).stream.bushel.state ≠ .held then 8 else 0

/-- Effects of the committed site objects of chapter 12. -/
def State.trigEffect (s : State) (i : Fin 64) (off sub _old v : Nat) : State :=
  match off, sub with
  | 0xE2, 2 =>
    let s := if bitOf v 0 then s.rtrigTo i false else s
    s.modStream i fun m => { m with overrun := if bitOf v 1 then 0 else m.overrun }
  | 0xE3, 1 =>
    if bitOf v 21 then s.bushelSite i
    else s.modBushel i fun b => match b.state with
      | .armed => { b with state := .disarmed, hist := [] }
      | .capturing => { b with state := .disarmed, hist := [] }
      | _ => b
  | 0xE3, 2 =>
    if v = 1 then s.bushelTrigger i 5 (addGrains s.cycle (-(planeGrains : Int)))
    else if (s.site i).stream.bushel.state = .held then s.bushelNext i else s
  | 0xE4, 1 =>
    match s.packetWords i with
    | w :: rest => if bitOf v w.stream.bit then s else s.modStream i fun m => { m with flushed := max m.flushed (rest.length + 1) }
    | [] => s
  | _, _ => s

/-- The slot selectors of Table 12.1 that are not reserved (R265). -/
def slotRange (off v : Nat) : Bool := if off = 0x10 then decide (field v 8 0 ≤ 431) else true

/-- A committed slot selector or correction makes the slot don't-care for 4 CK_PAT cycles (R267); a commit to a unit ends its
holdoff at once when the new end has passed (R269). -/
def State.slotEffect (s : State) (q : Fin 4) (off sub old v : Nat) : State :=
  if off = 0x10 ∧ v ≠ old then
    s.modRegion q fun r => { r with slotsNew :=
      (sub - 1, s.cycle) :: r.slotsNew.filter fun p => p.1 != sub - 1 && !elapsed p.2 s.clock (4 * patGrains) }
  else if off = 0x11 then s.holdoffPast q s.clock (Fin.ofNat 4 (sub - 1))
  else s

/-! ## Reads -/

/-- BUSHEL_CFG.STATE codes. -/
def BushelState.code : BushelState → Nat
  | .disarmed => 0 | .armed => 1 | .capturing => 2 | .held => 3 | .dumping => 4

/-- The status objects of chapter 12. -/
def State.trigRead (s : State) (i : Fin 64) (off sub : Nat) : Option Nat :=
  let m := (s.site i).stream
  let b := m.bushel
  match off, sub with
  | 0xE2, 1 => some (b2n m.rtrig + at_ m.overrun 16)
  | 0xE3, 3 => some (b.state.code + at_ b.preValid 16 + at_ b.missed 32 + at_ (b.captures.toNat % 65536) 48)
  | 0xE3, 4 => some (time64 b.tTrigRead).toNat
  | 0xE4, 3 => some (m.markLost + at_ m.resultsLost 32 + at_ m.fifo.length 48)
  | _, _ => none

/-- RG_TRIG_STATUS. -/
def State.rgTrigRead (s : State) (q : Fin 4) (off sub : Nat) : Option Nat :=
  if off = 0x15 ∧ 1 ≤ sub then
    let m := (s.region q).units[(Fin.ofNat 4 (sub - 1)).val]
    if sub ≤ 4 then some (m.fires.toNat + at_ m.suppressed 32 + at_ (b2n m.holdoff.isSome) 48) else some m.tLast.toNat
  else none

/-- CHAIN_STATUS. -/
def State.chipTrigRead (s : State) (index sub : Nat) : Option Nat :=
  if index = 0x2A00 ∧ sub = 6 then some (s.chipTrig.sent + at_ s.chipTrig.acted 16 + at_ s.chipTrig.late 32) else none

/-- BUSHEL_DATA: the HELD image, or STATE (8). -/
def State.bushelImage (s : State) (i : Fin 64) : Option (List Byte) :=
  let b := (s.site i).stream.bushel
  if b.state = .held then some (b.image.flatMap fun w => bytesLE w.toNat 8) else none

end Sys2Proof.Machine
end

