-- ==== Sys2Proof/Machine/Tdc.lean ====
section
/-! DEFINITION. Time-stamps (chapter 11): comparator and TRIG_IN edges, capture and resolution, the events of the interval and
frequency channels, bin tables, and what the dictionary sees of them. -/
namespace Sys2Proof.Machine

/-! ## Converters (R245, R246) -/

/-- The position of a fine code in 1/256 grain. -/
def Converter.place (c : Converter) (k : Fin 1280) : Int :=
  match c.table with
  | none => 256 * (k.val : Int)
  | some t => t.getD k.val 0

/-- The active table. -/
def Converter.entries (c : Converter) : List Int :=
  match c.table with
  | none => (List.range 1280).map fun (k : Nat) => 256 * (k : Int)
  | some t => t

/-- The bytes of a table: INTEGER32 entries, least significant byte first. -/
def binBytes (t : List Int) : List Byte := t.flatMap fun p => bytesLE (ofInt p 32) 4

/-- TABLE_CRC of a converter. -/
def Converter.crc (c : Converter) : BitVec 32 := crc32 (binBytes c.entries)

/-- The converter of a cell. -/
def State.cellConv (s : State) (i : Fin 64) (c : Fin 8) : Converter := ((s.site i).tdc.cells[c.val]).conv

/-- The time of a capture in 1/256 grain as a converter gives it. -/
def Capture.raw (e : Capture) (c : Converter) : BitVec 76 := BitVec.ofInt 76 ((fineOf e.coarse).toNat + c.place e.fine)

/-- The pad time of a cell's capture: TRACE and the internal delay are taken off (R245). -/
def State.padTime (s : State) (i : Fin 64) (c : Fin 8) (e : Capture) : BitVec 76 :=
  e.raw (s.cellConv i c) -
    BitVec.ofNat 76 ((4 * s.siteCfg i 0x50 (c.val + 1) + (Config.cellDelay (8 * i.val + c.val)).toNat) * 256)

/-- The pad time of a capture on the present time base. -/
def State.padNow (s : State) (i : Fin 64) (c : Fin 8) (e : Capture) : BitVec 76 := fineMoved (s.padTime i c e) e.steps

/-- An edge as a converter captures it: the number of the CK_PAT edge before it and its fine code. -/
def State.captured (s : State) (coarse : BitVec 42) (fine : Fin 1280) (fall : Bool) : Capture :=
  { coarse := s.patEdge coarse, fine := fine, fall := fall, n := Vector.replicate 2 0, steps := 0, stepN := 0 }

/-! ## Who captures (R247, R248) -/

/-- The site captures edges: READY, RUNNING or SAFE, or a CAL that keeps the converters, with CK_PAT running. -/
def State.capturing (s : State) (i : Fin 64) : Bool :=
  s.fastClocks &&
    match s.siteState i with
    | .ready => true
    | .running => true
    | .safe => true
    | .cal => (s.site i).tdc.run != .running && (s.siteCal i).proc != 3 && (s.siteCal i).proc != 4
    | _ => false

/-- The cell's comparators are driven internally, by PIN_DC or PIN_TIMING (Table 19.2). -/
def State.cmpInternal (s : State) (i : Fin 64) : Bool :=
  s.siteState i == .cal && ((s.siteCal i).proc == 3 || (s.siteCal i).proc == 4)

/-- A started or armed interval channel uses selector `sel`, its edge bit aside when `any` holds. -/
def State.intUses (s : State) (i : Fin 64) (sel : Nat) (any : Bool) (k : Fin 4) : Bool :=
  let cfg := s.intCfg i k
  let same (x : Nat) : Bool := if any then x / 2 == sel / 2 else x == sel
  ((s.site i).tdc.ints[k.val]).state != .idle && (same (field cfg 5 0) || same (field cfg 11 6))

/-- An armed frequency channel uses selector `sel`. -/
def State.freqUses (s : State) (i : Fin 64) (sel : Nat) (any : Bool) (f : Fin 2) : Bool :=
  let x := field (s.freqCfg i f) 5 0
  ((s.site i).tdc.freqs[f.val]).armed && (if any then x / 2 == sel / 2 else x == sel)

/-- A channel of the site uses a selector. -/
def State.chanUses (s : State) (i : Fin 64) (sel : Nat) (any : Bool) : Bool :=
  ((List.finRange 4).any fun k => s.intUses i sel any k) || (allUnits.any fun f => s.freqUses i sel any f)

/-- The selector of an edge of a cell's output (Table 11.3). -/
def cellSel (c : Fin 8) (hi fall : Bool) : Nat := 4 * c.val + at_ (b2n hi) 1 + b2n fall

/-- EDGES selects the output. -/
def State.edgesUse (s : State) (i : Fin 64) (c : Fin 8) (hi : Bool) : Bool :=
  field (s.tdcCfg i (c.val + 1)) (if hi then 1 else 3) (if hi then 0 else 2) != 0

/-- EDGES and GATE select an edge with pad time `t` for the queue (R250). -/
def State.queueSelects (s : State) (i : Fin 64) (c : Fin 8) (hi fall : Bool) (t : Time) : Bool :=
  let cfg := s.tdcCfg i (c.val + 1)
  bitOf cfg ((if hi then 0 else 2) + b2n fall) &&
    match field cfg 5 4 with
    | 0 => true
    | 1 => (s.cell i c).stampWin.any fun w => !before t w.1 && !before w.2 t
    | _ => false

/-- What a missed edge at the fine time `t` is to a frequency channel, `kept` the edge of the same source that waits in the
register (R258): without a gate, and with no edge waiting to open it, a miss before the opening edge; after the gate time, and with
no edge waiting to close it, a miss before the closing edge. -/
def State.freqMiss (s : State) (i : Fin 64) (f : Fin 2) (t : BitVec 76) (kept : Option (BitVec 76)) : State :=
  let ch := (s.site i).tdc.freqs[f.val]
  match ch.gate with
  | none => if kept.isSome then s else s.modFreq i f fun ch => { ch with loss := true }
  | some (t0, _, _) =>
    let past (x : BitVec 76) : Bool := decide ((field (s.freqCfg i f) 31 8 * usGrains * 256 : Nat) ≤ fineSpan (fineMoved t0 ch.steps) x)
    if past t && !kept.any past then s.modFreq i f fun ch => { ch with lossEnd := true } else s

/-- An edge of source `sel` is missed at the fine time `t`: the channels that use it note it (R257, R258). Interval channels that
start later, at an edge before it, find it among the recent misses. -/
def State.lossFlags (s : State) (i : Fin 64) (sel : Nat) (t : BitVec 76) (kept : Option (BitVec 76)) : State :=
  let s := s.modTdc i fun x => { x with missed := (sel, t) :: x.missed.filter fun m => decide ((fineSpan m.2 t).natAbs < 2 ^ 28) }
  let s := s.forEach (List.finRange 4) fun k s =>
    match ((s.site i).tdc.ints[k.val]).state with
    | .started e =>
      if s.intUses i sel false k ∧ 0 < fineSpan e.now t then
        s.modInt i k fun ch => { ch with miss := match ch.miss with
          | some m => some (if 0 < fineSpan t m then t else m)
          | none => some t }
      else s
    | _ => s
  s.forEach allUnits fun f s => if s.freqUses i sel false f then s.freqMiss i f t kept else s

/-- The edge counters of the channels that count a selector (R258). -/
def State.countEdge (s : State) (i : Fin 64) (sel : Nat) : State :=
  s.forEach allUnits fun f s =>
    if s.freqUses i sel false f then s.modFreq i f fun ch => { ch with count := ch.count + 1 } else s

/-! ## Comparator edges (R90–R92, R248, R275) -/

/-- One of a cell's capture registers. -/
def CellTdc.reg (q : CellTdc) (hi : Bool) : Option Capture := if hi then q.capHi else q.capLo

/-- A capture register set. -/
def CellTdc.setReg (q : CellTdc) (hi : Bool) (e : Option Capture) : CellTdc :=
  if hi then { q with capHi := e } else { q with capLo := e }

/-- An edge at a cell's capture register: captured, or missed and counted. -/
def State.captureEdge (s : State) (i : Fin 64) (c : Fin 8) (hi : Bool) (e : Capture) : State :=
  let sel := cellSel c hi e.fall
  if s.capturing i then
    let s := s.countEdge i sel
    if s.edgesUse i c hi || s.chanUses i sel true then
      match ((s.site i).tdc.cells[c.val]).reg hi with
      | none =>
        let n : Vector (BitVec 32) 2 := (s.site i).tdc.freqs.map (·.count)
        s.modTdcCell i c fun q => q.setReg hi (some { e with n := n })
      | some p =>
        let s := s.lossFlags i sel (s.padTime i c e) (if p.fall = e.fall then some (fineMoved (s.padTime i c p) p.steps) else none)
        if s.queueSelects i c hi e.fall (roundFine (s.padTime i c e)) then
          (s.modTdcCell i c fun q => { q with misses := satInc 0xFFFFFF q.misses }).stampLoss i c 1
        else s
    else s
  else s

/-- An output of a cell changes at the capture `e`: its sticky flag, its capture register. -/
def State.cmpTurn (s : State) (i : Fin 64) (c : Fin 8) (hi : Bool) (e : Capture) : State :=
  let t := roundFine (s.padTime i c e)
  let s := s.modCell i c fun q =>
    let q := { q.setFlag s.cycle ((if hi then 0 else 2) + b2n e.fall) with cmpHist := noteOld q.cmpHist t (q.cmpHi, q.cmpLo) }
    if hi then { q with cmpHi := !e.fall } else { q with cmpLo := !e.fall }
  s.captureEdge i c hi e

/-- The other output of a cell changes with this one (R89): CMP_HI is never 1 while CMP_LO is 0, and on equal thresholds they
never differ. -/
def cmpFollows (hi fall equal other : Bool) : Bool := other == fall && (equal || hi != fall)

/-- CMP_EDGE (R90): an output of a cell changes; `hi` tells CMP_HI from CMP_LO. The edge sets its sticky flag, is captured, and
reaches the Bushel, and so does that of the other output where the signal has crossed both thresholds at once. -/
def execCmpEdge (i : Fin 64) (c : Fin 8) (hi : Bool) (coarse : BitVec 42) (fine : Fin 1280) (s : State) :
    Host.Outcome State Fault Refusal :=
  if s.siteState i = .off ∨ field (s.pcMode i c) 7 6 ≠ 0 ∨ s.cmpInternal i then .next s
  else
    let q := s.cell i c
    let fall := if hi then q.cmpHi else q.cmpLo
    let e := s.captured coarse fine fall
    let t := roundFine (s.padTime i c e)
    let s := s.advance t
    let s := s.specialBegun
    let s := s.cmpTurn i c hi e
    let s := if cmpFollows hi fall (s.cmpEqual i c) (if hi then q.cmpLo else q.cmpHi) then s.cmpTurn i c (!hi) e else s
    .next (s.bushelEdge i t)

/-- A committed PC_THRESH makes the thresholds equal while the ball is between them (R89): the window has closed on one side of
the signal, and one output changes. Which, and when within the CK_PAT cycle, is the signal's: free values (log entry 405). -/
def State.threshMeet (s : State) (i : Fin 64) (c : Fin 8) : State :=
  let q := s.cell i c
  if s.cmpEqual i c ∧ s.cmpLive i c ∧ q.cmpHi ≠ q.cmpLo then
    let v := s.fresh 12
    let hi := v.getLsbD 11
    let e : Capture := { coarse := edgeAt patGrains s.clock, fine := Fin.ofNat 1280 (v.toNat % 2048), fall := !hi,
                         n := Vector.replicate 2 0, steps := 0, stepN := 0 }
    (s.drawn.cmpTurn i c hi e).bushelEdge i (roundFine (s.padTime i c e))
  else s

/-! ## Special sources -/

/-- A rising edge of special source `k` (0–3 TRIG_IN, 4 SYNC_IN): captured, or missed (R248, R251). -/
def State.specialEdge (s : State) (k : Fin 5) (e : Capture) : State :=
  let sel := 32 + k.val
  let s := s.forEach allSites fun i s => if s.capturing i then s.countEdge i sel else s
  let used := allSites.any fun i => s.capturing i && (bitOf (s.tdcCfg i 9) k.val || s.chanUses i sel false)
  if used then
    match s.special.caps[k.val] with
    | none => { s with special := { s.special with caps := vmod s.special.caps k fun _ => some e } }
    | some f =>
      let s : State := { s with special := { s.special with
        caps := vmod s.special.caps k fun _ => some { f with n := f.n.map (· + 1) } } }
      s.forEach (allSites.filter fun i => s.capturing i) fun i s =>
        let conv := s.special.convs[k.val]
        let s := s.lossFlags i sel (e.raw conv) (some (fineMoved (f.raw conv) f.steps))
        if bitOf (s.tdcCfg i 9) k.val then
          (s.modTdcCell i (s.recCell i) fun q => { q with misses := satInc 0xFFFFFF q.misses }).stampLoss i (s.recCell i) 1
        else s
  else s

/-- TRIG_IN_EDGE (R248, R265): the level of a TRIG_IN ball changes; a rising edge is captured while no SPECIAL run holds the
converters (R263). -/
def execTrigInEdge (line : Fin 4) (coarse : BitVec 42) (fine : Fin 1280) (s : State) : Host.Outcome State Fault Refusal :=
  let rise := !s.special.levels.getLsbD line.val
  let e := s.captured coarse fine (!rise)
  let k : Fin 5 := line.castSucc
  let s := (s.advance (roundFine (e.raw s.special.convs[k.val]))).specialBegun
  let s : State := { s with special := { s.special with
    levels := s.special.levels ^^^ (1#4 <<< line.val),
    changes := (line.val, s.clock, !rise) :: s.special.changes.filter fun x => !elapsed x.2.1 s.clock 5120000 } }
  if rise && !s.special.runsAt s.clock then .next (s.specialEdge k e) else .next s

/-! ## Resolution (R248, R249) -/

/-- The CK_SEQ cycle in which an edge is offered: the first that begins at least 2,560 grains after it. -/
def State.offerCycle (s : State) (t : Time) : Time :=
  let u := addGrains t 2560
  addGrains u (((s.seqLen - u.toNat % s.seqLen) % s.seqLen : Nat) : Int)

/-- The CK_SEQ cycle in which a cell resolves a stamp offered from cycle `o` on: one stamp in each cycle. -/
def State.resolveCycle (s : State) (q : CellTdc) (o : Time) : Time :=
  match q.resolved with
  | some r => if before r o then o else addGrains r s.seqLen
  | none => o

/-- A cell's stamp is resolved: the channels see it, the queue stores it or drops it, and its register re-arms. -/
def State.resolveCell (s : State) (i : Fin 64) (c : Fin 8) (hi : Bool) (e : Capture) : State :=
  let pad := s.padTime i c e
  let t := roundFine pad
  let now := roundFine (s.padNow i c e)
  let est := (s.cellConv i c).table.isNone
  let sel := cellSel c hi e.fall
  let s := (s.advance (s.resolveCycle ((s.site i).tdc.cells[c.val]) (s.offerCycle now))).specialBegun
  let s := s.modTdcCell i c fun q => { q.setReg hi none with resolved := some s.cycle }
  let s := s.seeStamp i { sel := sel, t := pad, est := est, steps := e.steps, stepN := e.stepN } e.n
  if s.queueSelects i c hi e.fall now then s.queueWords i c (stampWord c.val est sel t) [] (epochOf t) else s

/-- A special source's stamp is resolved in every site that captures. -/
def State.resolveSpecial (s : State) (k : Fin 5) (e : Capture) : State :=
  let conv := s.special.convs[k.val]
  let fine := e.raw conv
  let t := roundFine fine
  let est := conv.table.isNone
  let sel := 32 + k.val
  let s := (s.advance (s.offerCycle (roundFine (fineMoved fine e.steps)))).specialBegun
  let s : State := { s with special := { s.special with caps := vmod s.special.caps k fun _ => none } }
  s.forEach (allSites.filter fun i => s.capturing i) fun i s =>
    let n : Vector (BitVec 32) 2 := (s.site i).tdc.freqs.map fun ch => ch.count - e.n[0]
    let s := s.seeStamp i { sel := sel, t := fine, est := est, steps := e.steps, stepN := e.stepN } n
    if bitOf (s.tdcCfg i 9) k.val then s.queueWords i (s.recCell i) (stampWord (0x10 + k.val) est sel t) [] (epochOf t) else s

/-- STAMP_RESOLVE (R248): an offered stamp is resolved. Sources 0–7 are the cells of the site, of whose two registers the older
edge goes first, and HI before LO on equal times; 8–12 are TRIG_IN0–3 and SYNC_IN. -/
def execStampResolve (i : Fin 64) (source : Fin 13) (s : State) : Host.Outcome State Fault Refusal :=
  if source.val < 8 then
    let c : Fin 8 := Fin.ofNat 8 source.val
    let q := (s.site i).tdc.cells[c.val]
    match q.capHi, q.capLo with
    | some h, some l =>
      if fineSpan (s.padNow i c l) (s.padNow i c h) ≤ 0 then .next (s.resolveCell i c true h) else .next (s.resolveCell i c false l)
    | some h, none => .next (s.resolveCell i c true h)
    | none, some l => .next (s.resolveCell i c false l)
    | none, none => .next s
  else
    let k : Fin 5 := Fin.ofNat 5 (source.val - 8)
    match s.special.caps[k.val] with
    | some e => .next (s.resolveSpecial k e)
    | none => .next s

/-- LOSS_WORD_STORE (R249): two entries are free and the loss count becomes a LOSS word. -/
def execLossWordStore (i : Fin 64) (c : Fin 8) (s : State) : Host.Outcome State Fault Refusal :=
  let q := (s.site i).tdc.cells[c.val]
  if q.loss ≠ 0 ∧ q.queue.length ≤ 62 then
    let w := at_ (0x80 + c.val) 56 + at_ 1 54 + q.loss
    .next (s.modTdcCell i c fun q =>
      { q with queue := q.queue ++ [{ word := BitVec.ofNat 64 w, epoch := BitVec.ofNat 16 (epochOf s.clock) }], loss := 0 })
  else .next s

/-- INTERVAL_TIMEOUT (R257): TIMEOUT µs have passed after the start edge. -/
def execIntervalTimeout (i : Fin 64) (k : Fin 4) (s : State) : Host.Outcome State Fault Refusal :=
  match ((s.site i).tdc.ints[k.val]).state with
  | .started e =>
    let t := addGrains (roundFine e.t) (field (s.intCfg i k) 39 16 * usGrains : Nat)
    .next (((s.advance t).specialBegun).intTimeout i k false)
  | _ => .next s

/-- FREQ_GATE_TIMEOUT (R259): no opening edge within GATE µs, or no closing edge within GATE µs of the nominal close. -/
def execFreqGateTimeout (i : Fin 64) (f : Fin 2) (s : State) : Host.Outcome State Fault Refusal :=
  let g := field (s.freqCfg i f) 31 8 * usGrains
  let ch := (s.site i).tdc.freqs[f.val]
  let t := match ch.gate with
    | some (t0, _, _) => addGrains (roundFine (fineMoved t0 ch.steps)) (2 * g : Nat)
    | none => addGrains ch.armedAt (g : Nat)
  if s.tdcOn i ∧ ch.armed then .next (((s.advance t).specialBegun).freqNosig i f false) else .next s

/-! ## Bin tables (R260–R263) -/

/-- The converters that MASK names, by bit: 0–7 the site's cells, 8–12 the special sources. -/
def maskBits (mask : Nat) : List (Fin 13) := (List.finRange 13).filter fun k => bitOf mask k.val

/-- The converter of a place. -/
def State.conv (s : State) (i : Fin 64) (k : Fin 13) : Converter :=
  if k.val < 8 then s.cellConv i (Fin.ofNat 8 k.val) else s.special.convs[(Fin.ofNat 5 (k.val - 8)).val]

/-- `s` with a converter changed. -/
def State.modConv (s : State) (i : Fin 64) (k : Fin 13) (f : Converter → Converter) : State :=
  if k.val < 8 then s.modTdcCell i (Fin.ofNat 8 k.val) fun q => { q with conv := f q.conv }
  else { s with special := { s.special with convs := vmod s.special.convs (Fin.ofNat 5 (k.val - 8)) f } }

/-- A converter takes a table: its TABLE_CRC changes with an Assize entry (R43, R262). -/
def State.setTable (s : State) (i : Fin 64) (src : Source) (k : Fin 13) (t : Option (List Int)) : State :=
  let old := (s.conv i k).crc
  let s := s.modConv i k fun c => { c with table := t }
  s.aszChange src (siteAddr i 0xE8 (5 + k.val)) 4 old.toNat ((s.conv i k).crc).toNat

/-- The tables of some converters have changed at the present time: APPLIED and T_LAST. -/
def State.tablesDone (s : State) (i : Fin 64) (applied : BitVec 13) : State :=
  s.modTdc i fun t => { t with applied := applied, tLast := if applied = 0 then t.tLast else time64 s.clock }

/-- Converters by bit. -/
def convBits (ks : List (Fin 13)) : BitVec 13 := ks.foldl (fun b k => b ||| (1#13 <<< k.val)) 0

/-- The converters of MASK whose table an APPLY or NOMINAL changes, with the new table (R262). -/
def State.tableChanges (s : State) (i : Fin 64) (mask : Nat) (apply_ : Bool) : List (Fin 13 × Option (List Int)) :=
  ((maskBits mask).map fun k => (k, if apply_ then (s.conv i k).staged else none)).filter fun p => (s.conv i p.1).table != p.2

/-- APPLY or NOMINAL: each changed table writes its TABLE_CRC; what the last run found stays (R262). -/
def State.tablesTo (s : State) (i : Fin 64) (src : Source) (apply_ : Bool) : State :=
  let ch := s.tableChanges i (s.siteCfg i 0xE8 2) apply_
  (s.forEach ch fun p s => s.setTable i src p.1 p.2).tablesDone i (convBits (ch.map (·.1)))

/-- An image is whole, non-decreasing and inside −256 to 327,935. -/
def binsOk (t : List Int) : Bool :=
  t.length == 1280 && (t.all fun p => decide (-256 ≤ p) && decide (p ≤ 327935)) &&
    ((t.zip (t.drop 1)).all fun p => decide (p.1 ≤ p.2))

/-- MASK of TDC_CAL. -/
def State.tdcMask (s : State) (i : Fin 64) : Nat := s.siteCfg i 0xE8 2

/-- The source selectors of Table 11.3 that are not reserved (R255). -/
def tdcRange (off sub v : Nat) : Bool :=
  if off = 0xE1 ∧ sub ≤ 4 then decide (field v 5 0 ≤ 36) && decide (field v 11 6 ≤ 36)
  else if off = 0xE6 ∧ sub ≤ 2 then decide (field v 5 0 ≤ 36)
  else true

/-- Why a command of TDC_CAL is refused; `mask` is MASK as the transaction leaves it (R260, R262, R263). -/
def State.tdcCheck (s : State) (mask : Nat) (i : Fin 64) (off sub v : Nat) : Nat :=
  if off = 0xE8 ∧ sub = 1 then
    match v with
    | 1 =>
      if s.siteState i ≠ .ready ∧ s.siteState i ≠ .running then 8
      else if (s.site i).tdc.run = .idle ∧ ¬ s.aszTakes (maskBits (mask % 256)).length then 11
      else 0
    | 2 =>
      let ks := maskBits mask
      if ks.any fun k => (s.conv i k).staged.isNone then 7
      else if ks.any fun k => !binsOk ((s.conv i k).staged.getD []) then 6
      else if !s.aszTakes (s.tableChanges i mask true).length then 11
      else 0
    | 3 => if s.aszTakes (s.tableChanges i mask false).length then 0 else 11
    | 4 => if s.special.taken then 8 else if s.aszTakes (maskBits (mask / 256 * 256)).length then 0 else 11
    | _ => 0
  else 0

/-- MASK as `tdcCheck` reads it. -/
def tdcReads (i : Fin 64) (off sub v : Nat) : List Nat :=
  if off = 0xE8 ∧ sub = 1 ∧ v ≠ 0 then [siteAddr i 0xE8 2] else []

/-- The four commands of TDC_CAL. -/
def State.tdcCmd (s : State) (i : Fin 64) (src : Source) (v : Nat) : State :=
  match v with
  | 1 =>
    (s.modTdc i fun t =>
      if t.run = .idle then { t with run := .pending, reserved := (maskBits (s.tdcMask i % 256)).length } else t).aszWatch
  | 2 =>
    (s.tablesTo i src true).forEach (maskBits (s.tdcMask i)) fun k s => s.modConv i k fun c => { c with staged := none }
  | 3 => s.tablesTo i src false
  | 4 =>
    ({ s with special := { s.special with start := some (s.cyclesOn 1), closed := false, site := i.val,
                                          reserved := (maskBits (s.tdcMask i / 256 * 256)).length } }).aszWatch
  | _ => s

/-- Effects of the committed site objects of chapter 11. -/
def State.tdcEffect (s : State) (i : Fin 64) (off sub v : Nat) (src : Source) : State :=
  if off = 0xE1 ∧ 1 ≤ sub ∧ sub ≤ 4 then s.modInt i (Fin.ofNat 4 (sub - 1)) fun ch => ch.rearmed (bitOf v 14) s.clock
  else if off = 0xE6 ∧ 1 ≤ sub ∧ sub ≤ 2 then s.modFreq i (Fin.ofNat 2 (sub - 1)) fun ch => ch.rearmed (bitOf v 6) s.clock
  else if off = 0xE8 ∧ sub = 1 then (s.tdcCmd i src v).setVal (siteAddr i 0xE8 1) 0
  else if off = 0xEA ∧ bitOf v 0 then s.modTdcCell i (Fin.ofNat 8 (sub - 1)) fun q => { q with drops := 0, misses := 0 }
  else s

/-- Why a DOMAIN write of TDC_BINS is refused (R262). -/
def State.binsCheck (s : State) (i : Fin 64) (sub : Nat) (bs : List Byte) : Nat :=
  let busy := if sub ≤ 8 then (s.site i).tdc.run != .idle else s.special.taken
  if bs.length ≠ 5120 then 5 else if busy then 10 else 0

/-- A staging image is loaded. -/
def State.binsLand (s : State) (i : Fin 64) (sub : Nat) (bs : List Byte) : State :=
  s.modConv i (Fin.ofNat 13 (sub - 1)) fun c => { c with staged := some ((byteGroups 4 bs).map fun w => toInt w 32) }

/-! ## Code density (R261) -/

/-- The positions of bins with `below` hits in the bins before them. -/
def densityRun (total : Nat) : Nat → List Nat → List Int
  | _, [] => []
  | below, h :: rest =>
    let p : Int := (((327680 * (2 * below + h) + total) / (2 * max total 1) : Nat) : Int)
    (p - 128) :: densityRun total (below + h) rest

/-- The table that hit counts give (R261). -/
def densityTable (hits : List Nat) : List Int := densityRun hits.sum 0 hits

/-- The hits of one cell's run: bins of the first half and of the second. -/
abbrev Hits := List Nat × List Nat

/-- All hits of a run by bin. -/
def Hits.all (h : Hits) : List Nat := List.zipWith (· + ·) h.1 h.2

/-- Why a cell fails its run: 0 it passes, 1 WIDTH, 2 TIMEOUT, 3 AGREE. `agree` tells that the repeat check applies. -/
def Hits.failure (h : Hits) (agree : Bool) (tolerance : Nat) : Nat :=
  if h.1.length ≠ 1280 ∨ h.2.length ≠ 1280 ∨ h.1.sum ≠ 1048576 ∨ h.2.sum ≠ 1048576 then 2
  else if h.all.any fun k => decide (13107 < k) then 1
  else if agree && ((densityTable h.1).zip (densityTable h.2)).any
      (fun p => decide (512 * tolerance < (p.1 - p.2).natAbs)) then 3
  else 0

/-- A run over converters ends: those that pass take their tables. `ks` are the converters with their hits. -/
def State.densityDone (s : State) (i : Fin 64) (src : Source) (ks : List (Fin 13 × Hits)) (agree : Bool) (tol : Nat) : State :=
  let bad := ks.filter fun p => p.2.failure agree tol != 0
  let good := ks.filter fun p => p.2.failure agree tol == 0
  let cause := match bad.getLast? with
    | some p => p.2.failure agree tol
    | none => 0
  let s := s.forEach good fun p s => s.setTable i src p.1 (some (densityTable p.2.all))
  (s.tablesDone i (convBits (good.map (·.1)))).modTdc i fun t => { t with failed := convBits (bad.map (·.1)), cause := cause }

/-! ## Reads -/

/-- TDC_CAL.STATE. -/
def State.tdcState (s : State) (i : Fin 64) : Nat :=
  match (s.site i).tdc.run with
  | .pending => 1
  | .running => 2
  | _ => if s.special.runsAt s.clock then 3 else 0

/-- The status objects of chapter 11. -/
def State.tdcRead (s : State) (i : Fin 64) (off sub : Nat) : Option Nat :=
  let t := (s.site i).tdc
  if off = 0xE1 ∧ 5 ≤ sub then some (t.ints[(Fin.ofNat 4 (sub - 5)).val]).record.toNat
  else if off = 0xE5 ∧ 1 ≤ sub then
    let q := t.cells[(Fin.ofNat 8 (sub - 1)).val]
    some (q.queue.length + at_ (b2n q.conv.table.isNone) 7 + at_ q.drops 8 + at_ q.misses 32)
  else if off = 0xE6 ∧ (sub = 3 ∨ sub = 4) then some (t.freqs[(Fin.ofNat 2 (sub - 3)).val]).tWord.toNat
  else if off = 0xE6 ∧ (sub = 5 ∨ sub = 6) then some (t.freqs[(Fin.ofNat 2 (sub - 5)).val]).nWord.toNat
  else if off = 0xE8 ∧ sub = 3 then some (t.applied.toNat + at_ t.failed.toNat 16 + at_ t.cause 32 + at_ (s.tdcState i) 40)
  else if off = 0xE8 ∧ sub = 4 then some t.tLast.toNat
  else if off = 0xE8 ∧ 5 ≤ sub then some (s.conv i (Fin.ofNat 13 (sub - 5))).crc.toNat
  else none

/-- TDC_BINS as it reads: the active table. -/
def State.binsRead (s : State) (i : Fin 64) (sub : Nat) : List Byte := binBytes (s.conv i (Fin.ofNat 13 (sub - 1))).entries

end Sys2Proof.Machine
end

