-- ==== Sys2Proof/Machine/Thermal.lean ====
section
/-! DEFINITION. Thermal management and power (chapter 17): sensor checks, zones, throttle steps, shutdown and its
acknowledgement, the power estimate and the budget; procedures that temperature makes pending (R404). -/
namespace Sys2Proof.Machine

/-! ## Procedures become pending (R404, R405) -/

/-- Procedures `mask` become pending in a site from the present time on. -/
def State.calPend (s : State) (i : Fin 64) (mask : Nat) : State :=
  s.modCal i fun c =>
    let fresh (k : Fin 4) : Bool := bitOf mask k.val && !c.pending.getLsbD k.val
    { c with pending := c.pending ||| BitVec.ofNat 4 mask,
             since := Vector.ofFn fun k => if fresh k then s.clock else c.since[k.val] }

/-- AUTO of CAL_CTRL. -/
def State.calAuto (s : State) : Nat := s.cfg 0x2600 4

/-- The first entry into READY after the site left OFF (R404; Table 22.4 where the factory trims are unreadable). -/
def State.calFirstReady (s : State) (i : Fin 64) : State :=
  if (s.siteCal i).firstDone then s
  else
    let s := s.modCal i fun c => { c with firstDone := true }
    if !s.nvm.trimsValid then s.calPend i 15
    else if bitOf s.calAuto 4 then s.calPend i (s.calAuto % 16) else s

/-! ## Readings -/

/-- Thresholds of TH_THRESHOLDS: the low and the high half of a subindex. -/
def State.thSet (s : State) (sub : Nat) : Nat := field (s.cfg 0x2500 sub) 11 0
def State.thRel (s : State) (sub : Nat) : Nat := field (s.cfg 0x2500 sub) 27 16

/-- SUSPECT_DELTA. -/
def State.suspectDelta (s : State) : Nat := field (s.cfg 0x2500 5) 8 0

/-- `s` with a sensor of a site changed. -/
def State.modSensor (s : State) (i : Fin 64) (n : Fin 5) (f : Sensor → Sensor) : State :=
  s.modThermal i fun t => { t with sensors := vmod t.sensors n f }

/-- `s` with the thermal state of a region changed. -/
def State.modRegionThermal (s : State) (q : Fin 4) (f : RegionThermal → RegionThermal) : State :=
  { s with thermal := { s.thermal with regions := vmod s.thermal.regions q f } }

/-- The used reading of a site's sensor. -/
def State.usedReading (s : State) (i : Fin 64) (n : Fin 5) : Option Nat :=
  if s.siteState i = .off then none else ((s.siteThermal i).sensors[n.val]).used.map (·.toNat)

/-- `a` put in its place in a rising list. -/
def insertRising (a : Nat) : List Nat → List Nat
  | [] => [a]
  | b :: l => if a ≤ b then a :: b :: l else b :: insertRising a l

/-- Twice the median of readings: of an even number, the sum of the two in the middle. -/
def median2 (l : List Nat) : Option Nat :=
  let r := l.foldr insertRising []
  let n := r.length
  if n = 0 then none else some (r.getD ((n - 1) / 2) 0 + r.getD (n / 2) 0)

/-- The four cell sensors. -/
def cellSensors : List (Fin 5) := [0, 1, 2, 3]

/-- Twice the median of a site's cell sensors. -/
def State.cellMedian2 (s : State) (i : Fin 64) : Option Nat := median2 (cellSensors.filterMap fun n => s.usedReading i n)

/-- The used readings of the neighbours of a cell sensor (R365). -/
def State.neighbours (s : State) (i : Fin 64) (n : Fin 5) : List Nat :=
  let own := (cellSensors.filter fun m => m != n && !((s.siteThermal i).sensors[m.val]).suspect).filterMap fun m => s.usedReading i m
  let left := if 0 < i.val then (s.usedReading (Fin.ofNat 64 (i.val - 1)) n).toList else []
  let right := if i.val < 63 then (s.usedReading (Fin.ofNat 64 (i.val + 1)) n).toList else []
  own ++ left ++ right

/-- Open or shorted (R363). -/
def deadCode (k : Nat) : Bool := k == 0 || k == 4095

/-- A cell sensor's reading lies beyond SUSPECT_DELTA of what its neighbours and the gradient lead to expect (R365). -/
def State.suspicious (s : State) (i : Fin 64) (n : Fin 5) (k : Nat) : Bool :=
  match median2 (s.neighbours i n) with
  | none => false
  | some m2 =>
    let p : Nat := if n.val < 2 then (s.bridge i (Fin.ofNat 2 n.val)).pEst else 0
    let g : Int := (32 * field (s.cfg 0x2500 5) 25 16 * p : Nat)
    decide (20000 * s.suspectDelta < ((10000 * (2 * k : Nat) : Int) - (10000 * m2 : Nat) - g).natAbs)

/-- The used reading of a suspect sensor. -/
def State.standIn (s : State) (i : Fin 64) (n : Fin 5) : Option (BitVec 12) :=
  match s.neighbours i n with
  | [] => ((s.siteThermal i).sensors[4]).used
  | l => some (BitVec.ofNat 12 (l.foldl max 0))

/-- Counters of a sensor after a reading that shows the condition or not. -/
def Sensor.counted (x : Sensor) (k : BitVec 12) (bad : Bool) : Sensor :=
  { x with code := k, strikes := if bad then x.strikes + 1 else 0, goodRun := if bad then 0 else x.goodRun + 1 }

/-- A reading of a cell sensor is checked and used (R365). -/
def State.readCell (s : State) (i : Fin 64) (n : Fin 5) (k : BitVec 12) : State :=
  let dead := deadCode k.toNat
  let bad := dead || s.suspicious i n k.toNat
  let s := s.modSensor i n fun x => x.counted k bad
  let x := (s.siteThermal i).sensors[n.val]
  let rise := !x.suspect && (dead || decide (3 ≤ x.strikes))
  let clear := x.suspect && decide (64 ≤ x.goodRun) && x.clrAsked
  let s := s.modSensor i n fun x => { x with suspect := (x.suspect || rise) && !clear, clrAsked := x.clrAsked && !rise }
  let s := s.modSensor i n fun x => { x with used := if x.suspect then s.standIn i n else some k }
  if rise then s.present (.ofCell i n.val) 0xA2 k.toNat 0
  else if clear then s.gone (.ofCell i n.val) 0xA2
  else s

/-- How SS fails at a reading: 0 it does not, 1 OUT_OF_RANGE, 2 STUCK, 3 CHECK (R366). `x` holds the counters after it. -/
def State.ssCause (s : State) (i : Fin 64) (x : Sensor) (k : Nat) : Nat :=
  let med2 := (s.cellMedian2 i).getD 0
  if deadCode k ∨ k < 384 ∨ 3424 < k then 1
  else if 4096 ≤ x.same ∧ 64 < ((med2 : Int) - x.stuckMed).natAbs then 2
  else if 3 ≤ x.strikes then 3
  else 0

/-- A reading of SS is checked and used (R366). -/
def State.readSS (s : State) (i : Fin 64) (k : BitVec 12) : State :=
  let med2 := (s.cellMedian2 i).getD 0
  let far := (s.cellMedian2 i).isSome && decide (4 * s.suspectDelta < ((2 * k.toNat : Nat) - (med2 : Int)).natAbs)
  let s := s.modSensor i 4 fun x =>
    let same := x.code == k && x.used.isSome
    { x with code := k, strikes := if far then x.strikes + 1 else 0, used := some k,
             same := if same then x.same + 1 else 1, stuckMed := if same then x.stuckMed else med2 }
  let x := (s.siteThermal i).sensors[4]
  let cause := s.ssCause i x k.toNat
  let s := s.modSensor i 4 fun x => { x with goodRun := if cause = 0 ∧ ¬ far then x.goodRun + 1 else 0 }
  let t := s.siteThermal i
  if t.ssFail = 0 then
    if cause = 0 then s
    else
      let s := s.modSensor i 4 fun x => { x with clrAsked := false }
      (s.modThermal i fun t => { t with ssFail := cause }).present (.ofSite i) 0xA3 k.toNat 0
  else if 64 ≤ (t.sensors[4]).goodRun ∧ (t.sensors[4]).clrAsked then (s.modThermal i fun t => { t with ssFail := 0 }).gone (.ofSite i) 0xA3
  else s

/-- The sensors that count for a site: those with a reading, SS while it has not failed. -/
def State.countedSensors (s : State) (i : Fin 64) : List (Fin 5) :=
  (List.finRange 5).filter fun n => n.val < 4 || (s.siteThermal i).ssFail == 0

/-- The governing temperature (R368); none before the first reading (R369). -/
def State.governing (s : State) (i : Fin 64) : Option Nat :=
  match (s.countedSensors i).filterMap fun n => s.usedReading i n with
  | [] => none
  | l => some (l.foldl max 0)

/-! ## Steps (R370, R371) -/

/-- The THROTTLE mark of a change from `old`: the changes of one CK_SEQ cycle make one mark (Table 17.7). -/
def State.throttleMark (s : State) (i : Fin 64) (old : Nat) : State :=
  let this := (s.siteThermal i).stepMark.bind fun m => if s.cycleAt m.1 = s.cycle then some m else none
  let s := match this with
    | some m => s.modStream i fun q => { q with marks := q.marks.filter fun k => !(k.kind == 0x07 && k.time == time64 m.1) }
    | none => s
  let old := (this.map (·.2)).getD old
  let new := s.throttleStep i
  let s := s.modThermal i fun t => { t with stepMark := some (s.clock, old) }
  if new = old then s else s.queueMark i 0x07 s.clock (new + at_ old 4)

/-- The step in force has moved from `old`: limits, THROTTLE mark, TH_THROTTLE. -/
def State.stepMoved (s : State) (i : Fin 64) (old : Nat) : State :=
  let new := s.throttleStep i
  if new = old then s
  else
    let s := s.forEach allCells fun c s => s.ppmuLimit i c
    let s := s.forEach allUnits fun u s => s.buJudge i u
    let s := s.throttleMark i old
    if old = 0 then s.present (.ofSite i) 0xA1 ((s.governing i).getD 0) 0
    else if new = 0 then s.gone (.ofSite i) 0xA1
    else s

/-- `s` with the thermal state of a site changed by `f`, and the effects of a new step in force. -/
def State.restep (s : State) (i : Fin 64) (f : SiteThermal → SiteThermal) : State :=
  let old := s.throttleStep i
  (s.modThermal i f).stepMoved i old

/-- At or above THR_SET, or treated as hot (R366). -/
def State.thermalHigh (s : State) (i : Fin 64) : Bool :=
  (s.siteThermal i).ssFail != 0 || match s.governing i with
    | some g => decide (s.thSet 2 ≤ g)
    | none => false

/-- The zones and the down and up sequences after a reading; `first` tells a sensor's first reading, of code `k` (R368–R370). -/
def State.judgeZones (s : State) (i : Fin 64) (k : Nat) (first : Bool) : State :=
  let t := s.siteThermal i
  if s.governing i = none ∧ t.ssFail = 0 then s
  else
    let g := (s.governing i).getD 0
    let warn := decide (s.thSet 1 ≤ g) || (first && decide (s.thRel 1 < k)) || (t.warn && decide (s.thRel 1 < g))
    let high := s.thermalHigh i
    let band := first && decide (s.thRel 2 < k) && !high && !t.thr
    let thr := high || band || (t.thr && decide (s.thRel 2 < g))
    let s := s.modThermal i fun t => { t with warn := warn, thr := thr }
    let s := if warn && !t.warn then s.present (.ofSite i) 0xA0 g 0
             else if !warn && t.warn then s.gone (.ofSite i) 0xA0 else s
    let low := decide (g ≤ s.thRel 2) && t.ssFail == 0
    s.restep i fun t =>
      let down := (high && t.downFrom.isNone) || band
      { t with step := if down then min 8 (t.step + 1) else t.step,
               downFrom := if high then some (t.downFrom.getD s.clock) else none,
               upFrom := if low then some (t.upFrom.getD s.clock) else none }

/-! ## Shutdown (R372–R375) -/

/-- A shutdown record (Table 17.4). -/
def State.shutRecord (s : State) (level place sensor peak step : Nat) : BitVec 256 :=
  BitVec.ofNat 256 ((time64 s.clock).toNat + at_ (at_ level 14 + at_ place 8 + sensor) 64 + at_ peak 80 +
    at_ s.commit.generation.toNat 96 + at_ step 112)

/-- A record with PEAK raised to a reading. -/
def raisePeak (r : BitVec 256) (k : Nat) : BitVec 256 :=
  if field r.toNat 95 80 < k then BitVec.ofNat 256 (r.toNat - at_ (field r.toNat 95 80) 80 + at_ k 80) else r

/-- A shutdown makes its Assize entry, and its record with ASZ_COUNTER after it waits for RNVM (R375). -/
def State.recordShutdown (s : State) (p : AszPlace) (r : BitVec 256) : State × BitVec 256 :=
  let s := s.aszDevice 0x020 p (field r.toNat 127 64)
  let r := BitVec.ofNat 256 (r.toNat + at_ (s.aszCounter.toNat % 2 ^ 32) 128)
  (s.queueNvm (.shutdown r), r)

/-- A site shuts down at a reading of sensor `n` (R372). -/
def State.siteShutdown (s : State) (i : Fin 64) (n : Fin 5) : State :=
  let r := s.shutRecord (if n.val < 4 then 0 else 1) i.val n.val ((s.governing i).getD 0) (s.throttleStep i)
  let s := s.modThermal i fun t => { t with latched := true, acked := false }
  let s := s.present (if n.val < 4 then .ofCell i n.val else .ofSite i) 0xA8 ((s.usedReading i n).getD 0) 0
  let p := s.recordShutdown (.ofSite i) r
  p.1.modThermal i fun t => { t with shut := p.2 }

/-- The shutdown of a site is left: its records force it no longer, and the second record is written (R372, R375). -/
def State.shutReleased (s : State) (i : Fin 64) : State :=
  let s := s.queueNvm (.shutdown (s.siteThermal i).shut)
  let s := s.modThermal i fun t => { t with latched := false, acked := false }
  let mine (r : GtRecord) : Bool := r.kind == 0xA8 && decide (r.origin.home = .site i)
  let free (r : GtRecord) : GtRecord := if mine r then { r with scopes := [] } else r
  let s := { s with gauntlet := { s.gauntlet with slots := s.gauntlet.slots.map fun (r : Option GtRecord) => r.map free } }
  let s := s.forEach (s.gtRecords.filter mine) fun r s => s.gone r.origin r.kind
  s.settleSite .ack i

/-- The latest governing temperature allows the release. -/
def State.shutCool (s : State) (i : Fin 64) : Bool :=
  match s.governing i with
  | some g => decide (g ≤ s.thRel 3)
  | none => false

/-- A reading of sensor `n` is judged against the shutdown threshold and the release (R372). -/
def State.judgeShutdown (s : State) (i : Fin 64) (n : Fin 5) : State :=
  let k := (s.usedReading i n).getD 0
  let counts := n.val < 4 || (s.siteThermal i).ssFail == 0
  let hot := counts && decide (s.thSet 3 ≤ k)
  let s := if hot then s.modThermal i fun t => { t with hotAt := some s.clock } else s
  if (s.siteThermal i).latched then
    let s := s.modThermal i fun t => { t with shut := if counts then raisePeak t.shut k else t.shut, acked := t.acked && !hot }
    if (s.siteThermal i).acked && s.shutCool i then s.shutReleased i else s
  else if hot then s.siteShutdown i n
  else s

/-- The procedures of AUTO become pending for the temperature; one of them that runs is pending again after its exit (Table
19.5). -/
def State.calDrift (s : State) (i : Fin 64) : State :=
  let mask := s.calAuto % 16
  (s.calPend i mask).modCal i fun c => { c with again := c.again || (c.proc != 0 && bitOf mask (c.proc - 1)) }

/-- The temperature condition of R404, and T_REF at the first reading. The procedures become pending at the reading that first
exceeds CAL_TEMP_DELTA, or first exceeds it after T_REF was set: one excursion makes each pending once, as in the example of
chapter 19 (DEDUCED, log entry 1905). -/
def State.calTemp (s : State) (i : Fin 64) : State :=
  match s.governing i with
  | none => s
  | some g =>
    let c := s.siteCal i
    if !c.tRefSet then s.modCal i fun c => { c with tRef := BitVec.ofNat 12 g, tRefSet := true }
    else
      let far := decide (s.cfg 0x2601 1 < ((g : Int) - c.tRef.toNat).natAbs)
      let s := s.modCal i fun c => { c with drifted := far }
      if far && !c.drifted then s.calDrift i else s

/-- A used reading in a region that is shut down raises PEAK of the region's record (R375). -/
def State.regionPeak (s : State) (q : Fin 4) (k : Nat) : State :=
  if (s.thermal.regions[q.val]).shut then s.modRegionThermal q fun r => { r with record := raisePeak r.record k } else s

/-- A reading of a site's sensor. -/
def State.siteReading (s : State) (i : Fin 64) (n : Fin 5) (k : BitVec 12) : State :=
  if s.siteState i = .off then s
  else
    let first := ((s.siteThermal i).sensors[n.val]).used.isNone
    let s := if n.val < 4 then s.readCell i n k else s.readSS i k
    let k := (s.usedReading i n).getD 0
    let first := first && (n.val < 4 || (s.siteThermal i).ssFail == 0)
    (((s.regionPeak (regionOf i) k).judgeShutdown i n).judgeZones i k first).calTemp i

/-! ## Regions (R364, R367, R373, R374) -/

/-- The used SS readings of a region. -/
def State.regionSS (s : State) (q : Fin 4) : List Nat := (sitesOf q).filterMap fun i => s.usedReading i 4

/-- A reading of RQ is checked and used (R367); it ends a housekeeping round of the region. -/
def State.readRQ (s : State) (q : Fin 4) (k : BitVec 12) : State :=
  let ss := s.regionSS q
  let far := match median2 ss with
    | some m2 => decide (480 < ((2 * k.toNat : Nat) - (m2 : Int)).natAbs)
    | none => false
  let bad := deadCode k.toNat || far
  let used : Nat :=
    if bad then (if ss = [] then s.thRel 4 - 1 else min 4095 (ss.foldl max 0 + 80)) else k.toNat
  let was := (s.thermal.regions[q.val]).rq.suspect
  let round := s.hkRound q
  let s := s.modRegionThermal q fun r =>
    { r with rq := { r.rq with code := k, used := some (BitVec.ofNat 12 used), suspect := bad },
             peak := BitVec.ofNat 12 (max r.peak.toNat used), rounds := r.rounds + 1, hkUsed := round,
             siteGranted := min 65535 r.granting, granting := 0, held := r.held && decide (s.thRel 3 < used) }
  if bad && !was then s.present (.ofRegion q) 0xA3 k.toNat 0
  else if !bad && was then s.gone (.ofRegion q) 0xA3
  else s

/-- RQ against REGION_SHUT and CHIP_SHUT (R373, R374). A chip shutdown is followed by a reset, which the reading's command
makes. -/
def State.judgeRegion (s : State) (q : Fin 4) : State :=
  let r := s.thermal.regions[q.val]
  let k := match r.rq.used with
    | some u => u.toNat
    | none => 0
  let s := s.regionPeak q k
  let s :=
    if s.thSet 4 ≤ k ∧ ¬ r.shut then
      let rec_ := s.shutRecord 2 q.val 5 (((sitesOf q).filterMap s.governing).foldl max k) 0
      let s := s.modRegionThermal q fun r => { r with shut := true }
      let s := s.present (.ofRegion q) 0xA9 k 0
      let p := s.recordShutdown .chip rec_
      p.1.modRegionThermal q fun r => { r with record := p.2 }
    else s
  if s.thRel 4 ≤ k ∧ ¬ s.thermal.chipShut then
    let rec_ := s.shutRecord 3 q.val 5 k 0
    let s := { s with thermal := { s.thermal with chipShut := true } }
    (s.present .ofChip 0xAA k 0 |>.recordShutdown .chip rec_).1
  else s

/-! ## Hot class (R364) -/

/-- |I| × (15 V − |V|) in nW, of a current in µA and a force voltage in mV (R165). -/
def dissipation (out force : BitVec 16) : Nat := out.toInt.natAbs * (15000 - force.toInt.natAbs)

/-- P_EST and I_OUT of a unit computed from its output current in µA and its force voltage in mV. Which way a P_EST between two
steps of 0.1 mW falls is a free value (log entry 1709). A unit that is not connected carries no current. -/
def State.setPower (s : State) (i : Fin 64) (u : Fin 2) (out force : BitVec 16) : State :=
  if (s.bridge i u).connected then
    let p := dissipation out force
    if p % 100000 = 0 then s.modBridge i u fun b => { b with pEst := p / 100000, iOut := out }
    else s.drawn.modBridge i u fun b => { b with pEst := p / 100000 + (s.fresh 1).toNat, iOut := out }
  else s.modBridge i u fun b => { b with pEst := 0, iOut := 0 }

/-- P_EST of a unit lies above `percent` of P_LIM. -/
def State.powerAbove (s : State) (i : Fin 64) (u : Fin 2) (percent : Nat) : Bool :=
  decide (percent * 10 * field (s.buRange i u) 23 16 < 100 * (s.bridge i u).pEst)

/-- Both units lie at or below EXIT_LEVEL. -/
def State.unitsCalm (s : State) (i : Fin 64) : Bool := allUnits.all fun u => !s.powerAbove i u (field (s.cfg 0x2504 1) 14 8)

/-- Since when both units have stayed at or below EXIT_LEVEL. -/
def State.calmNoted (s : State) (i : Fin 64) : State :=
  s.modThermal i fun t => { t with calm := if s.unitsCalm i then some (t.calm.getD s.clock) else none }

/-- HOT_CLASS_ENTRY: the output stage of a unit computes P_EST and I_OUT, and P_EST exceeds LEVEL. -/
def execHotClassEntry (i : Fin 64) (u : Fin 2) (out force : BitVec 16) (s : State) : Host.Outcome State Fault Refusal :=
  if s.siteState i = .off then .next s
  else
    let s := (s.setPower i u out force).calmNoted i
    if s.powerAbove i u (field (s.cfg 0x2504 1) 6 0) then .next (s.modThermal i fun t => { t with hot := true }) else .next s

/-- HOT_CLASS_EXIT: both units have stayed at or below EXIT_LEVEL for 16.384 ms. -/
def execHotClassExit (i : Fin 64) (out0 force0 out1 force1 : BitVec 16) (s : State) : Host.Outcome State Fault Refusal :=
  if s.siteState i = .off then .next s
  else
    let s := ((s.setPower i 0 out0 force0).setPower i 1 out1 force1).calmNoted i
    match (s.siteThermal i).calm with
    | none => .next s
    | some t0 => .next ((s.advance (addGrains t0 (16384 * usGrains : Nat))).modThermal i fun t => { t with hot := false })

/-- THERMAL_STEP_DOWN (R370): 1.024 ms after the last step with the reading still at or above THR_SET. -/
def execThermalStepDown (i : Fin 64) (s : State) : Host.Outcome State Fault Refusal :=
  match (s.siteThermal i).downFrom with
  | some t0 =>
    if s.thermalHigh i then
      let s := s.advance (addGrains t0 (1024 * usGrains : Nat))
      .next (s.restep i fun t => { t with step := min 8 (t.step + 1), downFrom := some (addGrains t0 (1024 * usGrains : Nat)) })
    else .next s
  | none => .next s

/-- THERMAL_STEP_UP (R370): the 16.384 ms up timer expires. -/
def execThermalStepUp (i : Fin 64) (s : State) : Host.Outcome State Fault Refusal :=
  match (s.siteThermal i).upFrom with
  | some t1 =>
    let t := addGrains t1 (16384 * usGrains : Nat)
    .next ((s.advance t).restep i fun x => { x with step := x.step - 1, upFrom := some t })
  | none => .next s

/-! ## Power (R376–R380) -/

/-- N_UP. -/
def State.sitesUp (s : State) : Nat := (allSites.filter fun i => s.siteState i != .off).length

/-- P_BASE in 0.1 mW (Table 17.6). -/
def State.powerBase (s : State) : Nat :=
  let site (i : Fin 64) : Nat :=
    match s.siteState i with
    | .off => 0
    | .running => 2800 + 1100
    | _ => 1200 + 1100
  let memory (q : Fin 4) : Nat := if (sitesOf q).any fun i => s.siteState i != .off then 2000 else 0
  (allSites.map site).sum + ((List.finRange 4).map fun q => 3500 + memory q).sum +
    (2 * 11000 + 50 + 2500 + 1500 + 8000 + 1000 + 550 + 2 * 500)

/-- E_s in 0.1 mW: P_EST of both units, and |I| × 7.5 V of each connected PPMU, whose currents come in nA by global pin. -/
def State.siteLoad (s : State) (ppmu : List (BitVec 32)) (i : Fin 64) : Nat :=
  (s.bridge i 0).pEst + (s.bridge i 1).pEst +
    (allCells.map fun c => if (s.cell i c).connected then (ppmu.getD (8 * i.val + c.val) 0).toNat * 75 / 1000000 else 0).sum

/-- BUDGET above P_BASE, in 0.1 mW. -/
def State.powerLeft (s : State) : Nat := s.cfg 0x2503 1 * 1000 - s.thermal.pBase

/-- A load exceeds the site's share (R378). -/
def State.overShare (s : State) (i : Fin 64) (load : Nat) : Bool :=
  decide (throttleMul (s.siteThermal i).step * s.powerLeft < 100 * s.sitesUp * load)

/-- BUDGET_UPDATE (R377–R380), 1.024 ms after the last one: the currents and force voltages of the units (by global unit) and
the PPMU currents (by global pin) make P_CHIP;
above BUDGET, each site above its share steps down. -/
def execBudgetUpdate (iOut force : List (BitVec 16)) (ppmu : List (BitVec 32)) (s : State) : Host.Outcome State Fault Refusal :=
  let s := s.advance (addGrains s.thermal.pAt (1024 * usGrains : Nat))
  let s : State := { s with thermal := { s.thermal with pAt := s.clock } }
  let s := s.forEach allSites fun i s =>
    if s.siteState i = .off then s
    else
      (s.forEach allUnits fun u s =>
        s.setPower i u (iOut.getD (2 * i.val + u.val) 0) (force.getD (2 * i.val + u.val) 0)).calmNoted i
  let up := allSites.filter fun i => s.siteState i != .off
  let base := s.powerBase
  let chip := base + (up.map (s.siteLoad ppmu)).sum
  let budget := s.cfg 0x2503 1 * 1000
  let exceeds := decide (budget < chip)
  let low := decide (10 * chip ≤ 9 * budget)
  let was := s.thermal.overBudget
  let s := { s with thermal := { s.thermal with
    pChip := chip, pBase := base, overBudget := exceeds, lowSince := if low then some (s.thermal.lowSince.getD s.clock) else none } }
  let s := if exceeds && !was then s.presentObj .ofChip 0xA4 0x2503 2 else if !exceeds && was then s.gone .ofChip 0xA4 else s
  if exceeds then
    .next (s.forEach up fun i s =>
      if s.overShare i (s.siteLoad ppmu i) then s.restep i fun t => { t with budgetStep := min 8 (t.budgetStep + 1) } else s)
  else .next s

/-- BUDGET_STEP_UP (R380): P_CHIP has stayed at or below 0.9 × BUDGET for 16.384 ms. -/
def execBudgetStepUp (s : State) : Host.Outcome State Fault Refusal :=
  match s.thermal.lowSince with
  | some t0 =>
    let t := addGrains t0 (16384 * usGrains : Nat)
    let s := s.advance t
    let s := { s with thermal := { s.thermal with lowSince := some t } }
    .next (s.forEach allSites fun i s => s.restep i fun x => { x with budgetStep := x.budgetStep - 1 })
  | none => .next s

/-! ## Writes and reads -/

/-- A release lies below its set value, and the sets rise (R381's objects; DEPENDENCY). -/
def thermalDep (view : Nat → Nat) (index sub : Nat) : Bool :=
  let lo (k : Nat) : Nat := field (view (addrOf 0x2500 k)) 11 0
  let hi (k : Nat) : Nat := field (view (addrOf 0x2500 k)) 27 16
  if index = 0x2500 ∧ sub ≤ 4 then
    decide (hi 1 < lo 1) && decide (hi 2 < lo 2) && decide (hi 3 < lo 3) && decide (lo 1 ≤ lo 2) && decide (lo 2 < lo 3) &&
      decide (lo 3 ≤ lo 4) && decide (lo 4 ≤ hi 4)
  else if index = 0x2504 then
    let v := view (addrOf 0x2504 1)
    decide (field v 14 8 ≤ field v 6 0)
  else true

/-- TH_ACK (R372): the bits of ACK. -/
def State.shutAck (s : State) (bits : Nat) : State :=
  s.forEach allSites fun i s =>
    if bitOf bits i.val && (s.siteThermal i).latched then
      let hotNow := (s.siteThermal i).hotAt.any fun t => s.cycleAt t == s.cycle
      if hotNow then s
      else if s.shutCool i then s.shutReleased i
      else s.modThermal i fun t => { t with acked := true }
    else s

/-- TH_SENSOR_CLR (R365, R366): the bits of CLR; a flag whose condition has been absent for 64 readings clears at once. -/
def State.sensorClear (s : State) (bits : Nat) : State :=
  s.forEach allSites fun i s =>
    if bitOf bits i.val then
      let s := s.forEach (List.finRange 5) fun n s => s.modSensor i n fun x => { x with clrAsked := true }
      let s := s.forEach cellSensors fun n s =>
        let x := (s.siteThermal i).sensors[n.val]
        if x.suspect && decide (64 ≤ x.goodRun) then
          (s.modSensor i n fun x => { x with suspect := false }).gone (.ofCell i n.val) 0xA2
        else s
      if (s.siteThermal i).ssFail != 0 && decide (64 ≤ ((s.siteThermal i).sensors[4]).goodRun) then
        (s.modThermal i fun t => { t with ssFail := 0 }).gone (.ofSite i) 0xA3
      else s
    else s

/-- ZONE (Table 17.10). -/
def State.zone (s : State) (i : Fin 64) : Nat :=
  let t := s.siteThermal i
  if t.latched then 3 else if t.thr then 2 else if t.warn then 1 else 0

/-- The shutdowns that RNVM holds, newest first, each by its later record (R375). -/
def shutdowns : List (BitVec 256) → List (BitVec 256)
  | [] => []
  | r :: rest => r :: (shutdowns rest).filter fun x => field x.toNat 79 0 != field r.toNat 79 0

/-- PWR_DOMAIN_STATE.OTHERS. -/
def State.domains (s : State) : Nat :=
  let core := !s.furlong.bypassed
  let nvm := core || decide (s.assize.queued ≠ 0)
  let memory := ((List.finRange 4).map fun q => b2n ((sitesOf q).any fun i => s.siteState i != .off) * 2 ^ q.val).sum
  (if core then 15 else 0) + at_ memory 4 + at_ 1 8 + at_ (b2n core) 9 + at_ 7 10 + at_ (b2n nvm) 13 +
    at_ (if core then 15 else 0) 14

/-- Bits of the sites for which `f` holds. -/
def siteBits (f : Fin 64 → Bool) : Nat := (allSites.map fun i => b2n (f i) * 2 ^ i.val).sum

/-- The status objects of chapter 17 at chip level. -/
def State.thermalRead (s : State) (index sub : Nat) : Option Nat :=
  let i : Fin 64 := Fin.ofNat 64 (sub - 1)
  let t := s.siteThermal i
  let r := s.thermal.regions[(Fin.ofNat 4 (sub - 0x41)).val]
  if sub = 0 then none
  else match index with
    | 0x2501 =>
      if sub ≤ 64 then some (((List.finRange 5).map fun n => at_ ((s.usedReading i n).getD 0) (12 * n.val)).sum)
      else some ((r.rq.used.getD 0).toNat + at_ r.peak.toNat 16)
    | 0x2502 =>
      if sub ≤ 64 then
        some (t.step + at_ t.budgetStep 4 + at_ (s.throttleStep i) 8 + at_ (s.zone i) 12 + at_ (b2n t.acked) 14 + at_ (b2n t.latched) 15)
      else none
    | 0x2503 =>
      if sub = 2 then
        let share := if s.sitesUp = 0 then 0 else s.powerLeft / s.sitesUp / 10
        some (s.thermal.pChip / 1000 % 65536 + at_ (s.thermal.pBase / 1000 % 65536) 16 + at_ (share % 65536) 32 +
          at_ (b2n s.thermal.overBudget) 48)
      else if sub = 3 then some s.sitesUp
      else none
    | 0x2505 =>
      if sub ≤ 64 then
        some (((cellSensors.map fun n => b2n (t.sensors[n.val]).suspect * 2 ^ n.val).sum) + at_ t.ssFail 4)
      else if sub = 0x42 then some (((List.finRange 4).map fun q => b2n (s.thermal.regions[q.val]).rq.suspect * 2 ^ q.val).sum)
      else none
    | 0x2506 => if sub ≤ 2 then some (siteBits fun i => s.siteState i != .off) else some s.domains
    | 0x2507 => some ((shutdowns ((s.nvm.eventLog.filter (·.1)).map (·.2))).getD (sub - 1) 0).toNat
    | _ => none

/-- RG_HK. -/
def State.hkRead (s : State) (q : Fin 4) (off sub : Nat) : Option Nat :=
  let r := s.thermal.regions[q.val]
  if off = 0x30 then
    if sub = 1 then some r.rounds.toNat else if sub = 2 then some (r.hkUsed + at_ r.siteGranted 8) else none
  else none

end Sys2Proof.Machine
end

