-- ==== Sys2Proof/Machine/Cal.lean ====
section
/-! DEFINITION. Calibration and trimming (chapter 19): entry, steps and their checks, trims, exit, the sweep, and the
code-density runs that calibration governs (R260, R261, R263). -/
namespace Sys2Proof.Machine

/-! ## Procedures (Table 19.2): 1 BU0, 2 BU1, 3 PIN_DC, 4 PIN_TIMING -/

/-- The trim fields that the steps of a procedure find: low bit and width (Table 19.9). -/
def calSteps (p : Nat) : List (List (Nat × Nat)) :=
  match p with
  | 1 => [[(0, 12)], [(24, 12)], [(12, 12), (36, 12)], [(48, 10)]]
  | 2 => [[(0, 12)], [(24, 12)], [(12, 12), (36, 12)], [(48, 10)]]
  | 3 => [[(0, 8)], [(8, 8)], [(16, 8)], [(24, 8)], [(32, 8)], [(40, 8)]]
  | 4 => [[(48, 8)], [(56, 8)]]
  | _ => []

/-- A pin procedure. -/
def calPins (p : Nat) : Bool := p == 3 || p == 4

/-- Trim subindices that a procedure may change (R407). -/
def calEntries (p : Nat) : Nat := if calPins p then 8 else if p = 1 ∨ p = 2 then 1 else 0

/-- CAL_BU_TRIM of a unit. -/
def buTrimAddr (i : Fin 64) (u : Nat) : Nat := addrOf 0x2606 (2 * i.val + u + 1)

/-- CAL_PC_TRIM of a cell. -/
def pinTrimAddr (i : Fin 64) (c : Nat) : Nat := addrOf (0x2610 + (8 * i.val + c) / 128) ((8 * i.val + c) % 128 + 1)

/-- The trim subindices of a procedure, by place. -/
def calAddrs (i : Fin 64) (p : Nat) : List Nat :=
  if calPins p then (List.range 8).map (pinTrimAddr i) else if p = 1 ∨ p = 2 then [buTrimAddr i (p - 1)] else []

/-- REPEAT applies (R411). -/
def State.calRepeat (s : State) : Bool :=
  s.cfg 0x2602 1 == 2 || (s.cfg 0x2602 1 == 0 && decide (2 ≤ s.furlong.chainLen.toNat))

/-- A trim was committed: results whose window spans the cycle carry DISTURBED (R402). -/
def State.trimEffect (s : State) (addr : Nat) : State :=
  if indexOf addr = 0x2606 ∧ subOf addr ≠ 0 then
    let n := subOf addr - 1
    s.modBridge (Fin.ofNat 64 (n / 2)) (Fin.ofNat 2 n) fun b => { b with cfgChange := true }
  else s

/-- A subindex is a trim of a procedure that is running (Table 19.5). -/
def State.trimBusy (s : State) (addr : Nat) : Bool := allSites.any fun i => (calAddrs i (s.siteCal i).proc).contains addr

/-! ## Entry (R406, R407) -/

/-- The first pending procedure; 5 stands for a code-density run, which comes after the four. -/
def State.calNext (s : State) (i : Fin 64) : Option Nat :=
  match (List.range 4).find? fun k => (s.siteCal i).pending.getLsbD k with
  | some k => some (k + 1)
  | none => if (s.site i).tdc.run = .pending then some 5 else none

/-- The sweep is in its phase `p` with sites of a region, and takes the region's ADC or timing references turn by turn. -/
def State.sweepTakes (s : State) (q : Fin 4) (p : Nat) : Bool :=
  s.cal.sweep.phase == p && (sitesOf q).any fun j => (s.siteCal j).swept

/-- The conditions of R407. -/
def State.calAdmits (s : State) (i : Fin 64) (p : Nat) : Bool :=
  let others (n : Nat) : Nat := ((sitesOf (regionOf i)).filter fun j => j != i && (s.siteCal j).proc == n).length
  match p with
  | 3 => others 3 == 0 && !s.sweepTakes (regionOf i) 3 && s.aszTakes 8
  | 4 => decide (others 4 < 2) && !s.sweepTakes (regionOf i) 4 && s.aszTakes 8
  | 5 => true
  | _ => s.aszTakes 1

/-- A procedure begins in a site that is in CAL. -/
def State.calBegin (s : State) (i : Fin 64) (p : Nat) (t : Time) : State :=
  let s := if calPins p then s.forEach allCells fun c s => s.cellZ i t c else s
  let again := s.calRepeat
  s.modCal i fun c =>
    { c with pinsOut := c.pinsOut || calPins p, proc := p, step := 0, stepFrom := t, second := false, repeat_ := again,
             firstRun := [], found := [], reserved := calEntries p }

/-- The site enters CAL at time `t`: it has left READY or RUNNING, so that PPMU measurements in progress end (R100). -/
def State.calEnter (s : State) (i : Fin 64) (t : Time) : State :=
  let s := s.forEach allCells fun c s => s.modCell i c fun q => q.abortMeas s.cycle
  (s.modCtl i fun c => { c.goto .cal .calBegin t with calFrom := c.state }).acqSuspend i true

/-- The site enters CAL for procedure `p`, at a CAL_PERMIT or at an idle moment. -/
def State.calEntry (s : State) (i : Fin 64) (p : Nat) (t : Time) : State :=
  let s := s.calEnter i t
  let s := s.modCal i fun c => { c with running := if p = 5 then 0 else p }
  if p = 5 then (s.tdcClose i true).modTdc i fun x => { x with run := .running } else (s.calBegin i p t).aszWatch

/-- The procedure that a site may enter now. -/
def State.calReady (s : State) (i : Fin 64) : Option Nat :=
  match s.calNext i with
  | some p => if s.calAdmits i p then some p else none
  | none => none

/-- An idle moment (R406). -/
def State.idleMoment (s : State) (i : Fin 64) : Bool :=
  s.siteState i == .ready && (s.psq i).state == .idle && (s.mse i).state == .idle && (s.site i).ctl.trans.isNone

/-- The writes start an engine of the site, so that they leave it RUNNING (Tables 1.9 and 5.9). -/
def startsEngine (es : List (Nat × Nat)) (i : Fin 64) : Bool :=
  es.any fun e => e.2 == 1 && (e.1 == siteAddr i 0x60 1 || e.1 == siteAddr i 0xA0 1)

/-- A group that applies in the present CK_SEQ cycle, or is overdue, starts an engine of the site (R30). -/
def State.startDue (s : State) (i : Fin 64) : Bool := s.dueNow fun es => startsEngine es i

/-- Sites of the region below a site that are due for procedure `p` at an idle moment of the present cycle: they enter first
(Table 19.5). -/
def State.calBelow (s : State) (i : Fin 64) (p : Nat) : Nat :=
  ((sitesOf (regionOf i)).filter fun j =>
    decide (j.val < i.val) && s.idleMoment j && !s.startDue j && s.calNext j == some p).length

/-- Slots of the region that procedure `p` would find taken, by sites that run it and by sites that go first. -/
def State.calRoom (s : State) (i : Fin 64) (p : Nat) : Bool :=
  let running := ((sitesOf (regionOf i)).filter fun j => j != i && (s.siteCal j).proc == p).length
  match p with
  | 3 => decide (running + s.calBelow i 3 < 1)
  | 4 => decide (running + s.calBelow i 4 < 2)
  | _ => true

/-- CAL_ENTRY (R406): a pending site at an idle moment enters CAL. A commit of the same cycle that starts an engine goes first,
and the calibration stays deferred (R30). -/
def execCalEntry (i : Fin 64) (s : State) : Host.Outcome State Fault Refusal :=
  if s.idleMoment i && !s.startDue i then
    match s.calReady i with
    | some p => .next (if s.calRoom i p then s.calEntry i p s.clock else s)
    | none => .next s
  else .next s

/-- CAL_PERMIT (R133): the vector executes; stops come first, then a pending calibration, outside the MSE's committed window and
where no commit of the cycle starts an engine (R30, R210). -/
def execCalPermit (i : Fin 64) (below inside above : BitVec 8) (s : State) : Host.Outcome State Fault Refusal :=
  .next (s.vecRun i 0x0B ⟨below, inside, above⟩ fun _ s =>
    let t := (s.psq i).zero
    match s.psqStops i t, s.calReady i with
    | some s, _ => s
    | none, some p =>
      if s.mseShut i || s.startDue i then s.psqBoundary i .advance
      else (((s.psqPause i .calHold none t).mseCause i 2).calEntry i p t)
    | none, none => s.psqBoundary i .advance)

/-! ## Exit (R410, R133) -/

/-- The site leaves CAL for the state it held: cells that a pin procedure has taken return to their balls, units follow their
settings, and a PSQ in CAL_HOLD will begin its next vector at the first grid point at least 64 CK_PAT cycles on, where a pending
GOTO takes effect (R133). Where a STOP has ended CAL_HOLD, the drivers return to IDLE and a RUNNING site becomes READY (R87). -/
def State.calExit (s : State) (i : Fin 64) : State :=
  let t := s.clock
  let held := s.pinsHeld i
  let s := s.modCtl i fun c => c.goto c.calFrom .calEnd t
  let s := (s.acqSuspend i false).modCal i fun c => { c with running := 0, pinsOut := false }
  let s := if held then s.forEach allCells fun c s => s.cellReturn i t c else s
  let s := s.forEach allUnits fun u s => s.buRelease i u
  let p := s.psq i
  let s := if p.idles .calHold then s.psqResume i (gridAfter p.zero t 81920) none else s
  s.engineIdle i

/-- Nothing is pending any longer: CAL_STALE goes (R408) and T_REF is set (R405). -/
def State.calSettled (s : State) (i : Fin 64) : State :=
  if (s.siteCal i).pending = 0 then
    let g := s.governing i
    let s := s.modCal i fun c =>
      { c with tRef := (match g with | some k => BitVec.ofNat 12 k | none => c.tRef), drifted := false, stale := false }
    s.gone (.ofSite i) 0xB0
  else s

/-! ## The sweep (R413) -/

/-- The sites that take part in the sweep. -/
def State.sweepSites (s : State) : List (Fin 64) := allSites.filter fun i => (s.siteCal i).swept

/-- Turns of a phase (Table 19.4). -/
def sweepTurns (phase : Nat) : Nat := [0, 1, 2, 16, 8].getD phase 0

/-- The sites of a turn of a phase. -/
def State.sweepTurn (s : State) (phase turn : Nat) : List (Fin 64) :=
  s.sweepSites.filter fun i =>
    match phase with
    | 3 => (localOf i).val == turn
    | 4 => (localOf i).val / 2 == turn
    | _ => true

/-- The procedure of a turn. -/
def sweepProc (phase turn : Nat) : Nat := if phase = 2 then turn + 1 else phase

/-- Starts the first turn from `turn` on that a swept site takes part in; past the last turn the phase has ended. -/
def State.sweepFrom (s : State) (turn : Nat) : State :=
  let ph := s.cal.sweep.phase
  let put (s : State) (n : Nat) : State := { s with cal := { s.cal with sweep := { s.cal.sweep with units := n } } }
  match (List.range (sweepTurns ph)).find? fun n => decide (turn ≤ n) && !(s.sweepTurn ph n).isEmpty with
  | none => put s (sweepTurns ph)
  | some n =>
    (put s n).forEach (s.sweepTurn ph n) fun i s =>
      if ph = 1 then (s.tdcClose i true).modTdc i fun x => { x with run := .running }
      else (s.calBegin i (sweepProc ph n) s.clock).modCal i fun c => { c with reserved := 0 }

/-- A swept site still runs a procedure of the phase. -/
def State.sweepBusy (s : State) : Bool := s.sweepSites.any fun i => (s.siteCal i).proc != 0 || (s.site i).tdc.run == .running

/-- A procedure of the sweep has ended in a site: `n` reserved entries are released, and the next turn starts when no other
site of the turn runs. -/
def State.sweepEnded (s : State) (n : Nat) : State :=
  let s := { s with cal := { s.cal with sweep := { s.cal.sweep with reserved := s.cal.sweep.reserved - n } } }
  if s.sweepBusy then s.aszFreed else s.aszFreed.sweepFrom (s.cal.sweep.units + 1)

/-- Entries that the sweep of a site may produce (R413): eight tables, one trim subindex of each unit, eight cells twice. -/
def sweepEntries : Nat := 26

/-- SITES as the entries of a sweep name them, with the check mode in force. -/
def State.sweepPayload (s : State) (sites : List (Fin 64)) : Nat :=
  siteBits (fun i => sites.contains i) + at_ (s.cfg 0x2602 1) 64

/-- The counter that the next entry takes. -/
def State.aszNext (s : State) : BitVec 64 := s.aszCounter + BitVec.ofNat 64 s.aszOwed

/-- A committed SWEEP begins: the sites enter CAL in the next CK_SEQ cycle (R413). -/
def State.sweepOpen (s : State) (sites : List (Fin 64)) : State :=
  let ctr := s.aszNext
  let s := s.forEach sites fun i s =>
    (s.calEnter i (s.cyclesOn 1)).modCal i fun c =>
      { c with pending := 0, stale := false, running := 5, swept := true, sweepDone := false }
  let s := s.forEach sites fun i s => s.gone (.ofSite i) 0xB0
  let s := { s with
    cal := { s.cal with sweep := { phase := 1, units := 0, counter := ctr, reserved := sweepEntries * sites.length + 1 } },
    assize := { s.assize with marks := s.assize.marks ++ [OpenMark.sweep ctr] } }
  let s := s.aszEntry 0x030 (.cal) .chip (s.sweepPayload sites)
  s.sweepFrom 0

/-- The sweep closes: every swept site leaves CAL, the closing entry is made, T_REF is set. -/
def State.sweepClose (s : State) : State :=
  let sites := s.sweepSites
  let s := s.forEach sites fun i s => if s.siteState i = .cal then s.calExit i else s
  let s := s.forEach sites fun i s => (s.modCal i fun c => { c with swept := false, sweepDone := false }).calSettled i
  let s := { s with cal := { s.cal with sweep := { phase := 0, units := 0, counter := 0, reserved := 0 } } }
  let s := s.aszEntry 0x031 (.cal) .chip (s.sweepPayload sites)
  { s with assize := { s.assize with marks := s.assize.marks.filter fun (m : OpenMark) => match m with | .sweep _ => false | _ => true } }

/-- The next phase of the sweep finds its slots free: no site outside it runs the procedure in a region of it (R407). -/
def State.sweepRoom (s : State) (phase : Nat) : Bool :=
  phase ≤ 2 || allSites.all fun i => !((s.siteCal i).proc == phase && !(s.siteCal i).swept &&
    (sitesOf (regionOf i)).any fun j => (s.siteCal j).swept)

/-- SWEEP_PHASE_DONE (R413): nothing of the phase runs any longer; the next turn or phase starts, or the sweep closes. -/
def execSweepPhaseDone (s : State) : Host.Outcome State Fault Refusal :=
  let w := s.cal.sweep
  if w.phase = 0 ∨ s.sweepBusy then .next s
  else if w.units < sweepTurns w.phase then .next (s.sweepFrom (w.units + 1))
  else if 4 ≤ w.phase then .next s.sweepClose
  else if !s.sweepRoom (w.phase + 1) then .next s
  else
    let s := s.forEach s.sweepSites fun i s => s.modCal i fun c => { c with sweepDone := false }
    .next (({ s with cal := { s.cal with sweep := { w with phase := w.phase + 1, units := 0 } } }).sweepFrom 0)

/-! ## The end of a procedure (R405, R409, R412) -/

/-- The procedure in progress ends: it is no longer pending, and the site leaves CAL unless the sweep holds it. -/
def State.calEnd (s : State) (i : Fin 64) : State :=
  let p := (s.siteCal i).proc
  let last := BitVec.ofNat 32 (field (grains s.clock) 51 20)
  let done := s.cal.sweep.phase != 2 || p == 2
  let s := s.modCal i fun c =>
    { c with pending := if c.again then c.pending else c.pending &&& ~~~ (1#4 <<< (p - 1)),
             since := if c.again then vmodN c.since (p - 1) fun _ => s.clock else c.since, again := false,
             proc := 0, step := 0, second := false, firstRun := [], found := [], reserved := 0, tLast := last,
                 sweepDone := c.swept && done }
  if (s.siteCal i).swept then s.sweepEnded (calEntries p) else (s.aszFreed.calExit i).calSettled i

/-- A step fails (R412): 1 TIMEOUT, 2 AGREE, 3 RANGE. -/
def State.calFail (s : State) (i : Fin 64) (cause : Nat) : State :=
  let p := (s.siteCal i).proc
  let s := s.modCal i fun c => { c with failed := c.failed ||| (1#4 <<< (p - 1)), cause := cause }
  (s.calEnd i).present (.ofSite i) 0xB1 p 0

/-- A trim value with the codes found in its place. -/
def trimWith (old : Nat) (found : List (Nat × Nat × Int)) (place : Nat) (fields : List (Nat × Nat)) : Nat :=
  fields.foldl (fun v f =>
    match found.find? fun e => e.1 == place && e.2.1 == f.1 with
    | some e => v - at_ (field v (f.1 + f.2 - 1) f.1) f.1 + at_ (ofInt e.2.2 f.2) f.1
    | none => v) old

/-- Every step has passed: the trims are applied in one cycle, logged, and the site leaves CAL (R402, R409). -/
def State.calPass (s : State) (i : Fin 64) : State :=
  let c := s.siteCal i
  let fields := (calSteps c.proc).flatten
  let new := (calAddrs i c.proc).zipIdx.map fun a => (a.1, trimWith (s.val a.1) c.found a.2 fields)
  let s := s.modCal i fun c =>
    { c with failed := c.failed &&& ~~~ (1#4 <<< (c.proc - 1)), reserved := 0,
             unproven := if c.proc ≤ 2 then c.unproven &&& ~~~ (1#2 <<< (c.proc - 1)) else c.unproven }
  let s := s.forEach new fun e s => (s.aszChange .cal e.1 8 (s.val e.1) e.2).setVal e.1 e.2
  s.calEnd i

/-- The codes of the present step as a list of place, field and code. -/
def State.calCodes (s : State) (i : Fin 64) (codes : List Int) : List (Nat × Nat × Int) :=
  let c := s.siteCal i
  let fields := (calSteps c.proc).getD c.step []
  if calPins c.proc then (List.range 8).map fun k => (k, (fields.headD (0, 8)).1, codes.getD k 0)
  else fields.zipIdx.map fun f => (0, f.1.1, codes.getD f.2 0)

/-- A code lies outside the span of its field (Table 19.1). -/
def calBeyond (fields : List (Nat × Nat)) (e : Nat × Nat × Int) : Bool :=
  let w := ((fields.find? fun f => f.1 == e.2.1).getD (0, 8)).2
  decide (2 ^ (w - 1) - 1 < e.2.2.natAbs)

/-- The codes of two runs of a step differ by more than CAL_TOLERANCE. -/
def calDiffer (tol : Nat) (a b : List Int) : Bool := (a.zip b).any fun p => decide (tol < (p.1 - p.2).natAbs)

/-- Four times the nominal time of a step (Table 19.2), after which it fails (R411). -/
def calLimit (p : Nat) : Nat := 4 * (if p = 4 then 3200 else 400) * usGrains

/-- When the step in progress times out (R411). -/
def State.calTimeout (s : State) (i : Fin 64) : Time := addGrains (s.siteCal i).stepFrom (calLimit (s.siteCal i).proc : Nat)

/-- CAL_STEP_DONE (R409, R411): the step in progress ends with its trim codes: one for each field of a bridge step, eight, by
cell, of a pin step. -/
def execCalStepDone (i : Fin 64) (codes : List Int) (s : State) : Host.Outcome State Fault Refusal :=
  let c := s.siteCal i
  let fields := (calSteps c.proc).getD c.step []
  let got := s.calCodes i codes
  if s.siteState i ≠ .cal ∨ c.proc = 0 then .next s
  else if before (s.calTimeout i) s.clock then .next (s.calFail i 1)
  else if got.any (calBeyond fields) then .next (s.calFail i 3)
  else if c.repeat_ && !c.second then
    .next (s.modCal i fun c =>
      { c with second := true, stepFrom := s.clock, firstRun := got.map fun e => e.2.2 })
  else if c.repeat_ && calDiffer (s.cfg 0x2603 1) c.firstRun (got.map fun e => e.2.2) then .next (s.calFail i 2)
  else
    let s := s.modCal i fun c => { c with step := c.step + 1, stepFrom := s.clock, second := false, firstRun := [],
                                          found := c.found ++ got }
    if c.step + 1 < (calSteps c.proc).length then .next s else .next (s.calPass i)

/-- CAL_STEP_TIMEOUT (R411): a step has not completed within four times its nominal time. -/
def execCalStepTimeout (i : Fin 64) (s : State) : Host.Outcome State Fault Refusal :=
  if s.siteState i = .cal ∧ (s.siteCal i).proc ≠ 0 then .next ((s.advance (s.calTimeout i)).calFail i 1) else .next s

/-! ## Staleness (R408) -/

/-- Since when the first of the pending procedures that do not run has waited. -/
def State.calOldest (s : State) (i : Fin 64) : Option Time :=
  let c := s.siteCal i
  (List.finRange 4).foldl (fun a k =>
    if c.pending.getLsbD k.val && c.proc != k.val + 1 then
      match a with
      | none => some c.since[k.val]
      | some t => some (if before c.since[k.val] t then c.since[k.val] else t)
    else a) none

/-- CAL_MAX_DEFER_EXPIRY (R408). -/
def execCalMaxDeferExpiry (i : Fin 64) (s : State) : Host.Outcome State Fault Refusal :=
  match s.calOldest i with
  | none => .next s
  | some t =>
    if (s.siteCal i).stale then .next s
    else
      let s := s.advance (addGrains t (s.cfg 0x2604 1 * msGrains : Nat))
      .next ((s.modCal i fun c => { c with stale := true }).presentObj (.ofSite i) 0xB0 0x2605 (i.val + 1))

/-! ## Code-density runs -/

/-- TDC_RUN_DONE (R261): the run of a site ends with the hits of its eight cells, the first and the second half of each. In
the sweep every cell takes part. -/
def execTdcRunDone (i : Fin 64) (hits : List (List Nat × List Nat)) (s : State) : Host.Outcome State Fault Refusal :=
  if (s.site i).tdc.run ≠ .running then .next s
  else
    let swept := (s.siteCal i).swept
    let ks := if swept then List.range 8 else maskBits (s.tdcMask i % 256) |>.map (·.val)
    let s := s.densityDone i .cal (ks.map fun k => (Fin.ofNat 13 k, hits.getD k ([], []))) s.calRepeat (s.cfg 0x2603 1)
    let s := (s.modTdc i fun t => { t with run := .idle, reserved := 0 }).aszFreed
    if swept then .next ((s.modCal i fun c => { c with sweepDone := true }).sweepEnded 8) else .next (s.calExit i)

/-- TDC_SPECIAL_DONE (R263): the run of the five special-source converters ends; every site block shows its results. -/
def execTdcSpecialDone (hits : List (List Nat × List Nat)) (s : State) : Host.Outcome State Fault Refusal :=
  if !s.special.taken then .next s
  else
    let i := Fin.ofNat 64 s.special.site
    let s := s.specialBegun
    let ks := (maskBits (s.tdcMask i)).filter fun k => 8 ≤ k.val
    let s := s.densityDone i .cal (ks.map fun k => (k, hits.getD (k.val - 8) ([], []))) s.calRepeat (s.cfg 0x2603 1)
    let t := (s.site i).tdc
    let s := s.forEach allSites fun j s =>
      s.modTdc j fun x => { x with applied := t.applied, failed := t.failed, cause := t.cause, tLast := t.tLast }
    .next ({ s with special := { s.special with start := none, reserved := 0 } }).aszFreed

/-! ## Commands of CAL_CTRL (Table 19.6) -/

/-- SITES of CAL_CTRL. -/
def State.calSites (s : State) : List (Fin 64) := allSites.filter fun i => bitOf (s.cfg 0x2600 2) i.val

/-- PROCS of CAL_CTRL. -/
def State.calProcs (s : State) : Nat := s.cfg 0x2600 3 % 16

/-- Why a command is refused: 8 STATE, for a log without room for a sweep too (R413); 0 it is accepted. -/
def State.calCtrlCheck (s : State) (cmd : Nat) : Nat :=
  let sites := s.calSites
  match cmd with
  | 1 => if sites.any fun i => (s.siteCal i).swept then 8 else 0
  | 2 => if sites.any fun i => (s.siteCal i).swept then 8 else 0
  | 3 =>
    let on := sites.filter fun i => s.siteState i != .off
    if s.cal.sweep.phase ≠ 0 ∨ (on.any fun i => s.siteState i != .ready || (s.site i).ctl.trans.isSome) then 8
    else if ¬ s.aszTakes (sweepEntries * on.length + 2) then 8
    else 0
  | 4 =>
    if sites.any fun i => (s.siteCal i).proc != 0 && bitOf s.calProcs ((s.siteCal i).proc - 1) then 8 else 0
  | _ => 6

/-- REQUEST and CANCEL (R404). -/
def State.calRequest (s : State) : State :=
  s.forEach (s.calSites.filter fun i => s.siteState i != .off) fun i s => s.calPend i s.calProcs

/-- CANCEL. -/
def State.calCancel (s : State) : State :=
  s.forEach s.calSites fun i s =>
    let keep (c : SiteCal) : BitVec 4 := if c.proc = 0 then 0 else c.pending &&& (1#4 <<< (c.proc - 1))
    (s.modCal i fun c => { c with pending := keep c, stale := false }).gone (.ofSite i) 0xB0

/-- SWEEP. -/
def State.calSweep (s : State) : State := s.sweepOpen (s.calSites.filter fun i => s.siteState i != .off)

/-- What FACTORY writes (R416): the fields of the named procedures at their factory values, in sites that are not OFF. -/
def State.factoryWrites (s : State) : List (Nat × Nat) :=
  (s.calSites.filter fun i => s.siteState i != .off).flatMap fun i =>
    let bu := ([0, 1].filter fun u => bitOf s.calProcs u).map fun u => (buTrimAddr i u, initial (buTrimAddr i u))
    let dc := bitOf s.calProcs 2
    let tm := bitOf s.calProcs 3
    let pin (c : Nat) : Nat × Nat :=
      let a := pinTrimAddr i c
      let low := if dc then initial a % 2 ^ 48 else s.val a % 2 ^ 48
      let high := if tm then initial a / 2 ^ 48 else s.val a / 2 ^ 48
      (a, low + at_ high 48)
    bu ++ (if dc || tm then (List.range 8).map pin else [])

/-! ## Reads -/

/-- CAL_STATUS (Table 19.8). -/
def State.calRead (s : State) (index sub : Nat) : Option Nat :=
  if index = 0x2605 ∧ 1 ≤ sub ∧ sub ≤ 64 then
    let c := s.siteCal (Fin.ofNat 64 (sub - 1))
    some (c.pending.toNat + at_ (b2n c.stale) 4 + at_ c.running 5 + at_ c.failed.toNat 8 + at_ c.cause 12 + at_ c.tRef.toNat 16 +
      at_ c.tLast.toNat 32)
  else if index = 0x2605 ∧ sub = 65 then
    some (s.cal.sweep.phase + at_ (b2n (s.cal.sweep.phase != 0)) 3 +
      at_ ((s.sweepSites.filter fun i => (s.siteCal i).sweepDone).length) 8)
  else none

end Sys2Proof.Machine
end

