-- ==== Sys2Proof/Machine/Site.lean ====
section
/-! DEFINITION. Site states: STATE_REQ, the transitions of Table 1.9 and their completion (R29, R56, R470). -/
namespace Sys2Proof.Machine

/-- STATE_REQ values (Table 1.11). -/
inductive StateReq where
  | powerUp | powerDown | unpark | park | fence | unfence
  deriving DecidableEq, Repr

/-- The request that a value names; 0 names none. -/
def stateReqOf (v : Nat) : Option StateReq :=
  match v with
  | 1 => some .powerUp | 2 => some .powerDown | 3 => some .unpark | 4 => some .park | 5 => some .fence | 6 => some .unfence
  | _ => none

/-- STATE_REQ of a request. -/
def StateReq.code : StateReq → Nat
  | .powerUp => 1 | .powerDown => 2 | .unpark => 3 | .park => 4 | .fence => 5 | .unfence => 6

/-- The states from which a request names a transition (Table 1.9). -/
def StateReq.from_ : StateReq → List SiteState
  | .powerUp => [.off]
  | .powerDown => [.parked, .safe, .fenced]
  | .unpark => [.parked]
  | .park => [.ready, .running]
  | .fence => [.parked, .ready, .safe]
  | .unfence => [.fenced]

/-- A failed offline self-test holds every site OFF (R453). -/
def State.selfTestFailed (s : State) : Bool := s.rst.selftest.toNat / 2 != 0

/-- A request is accepted from where the site stands: no transition in progress, a transition of Table 1.9, the PLL in FULL and
locked for UNPARK and FENCE, no hold of R451, R453 or R373, and the MASK bit that the transaction leaves for POWER_UP (R56). -/
def State.reqAllowed (s : State) (view : View) (i : Fin 64) (r : StateReq) : Bool :=
  let c := (s.site i).ctl
  c.trans.isNone && r.from_.contains c.state &&
    match r with
    | .powerUp =>
      bitOf (view (addrOf 0x2002 1)) i.val && !s.selfTestFailed && !s.thermal.regions[(regionOf i).val].held
    | .unpark => s.pllReady && !s.rst.outputsHeld
    | .fence => s.pllReady
    | _ => true

/-- A group's request meets a force of the same cycle: every request but POWER_DOWN and FENCE is overridden (R21). -/
def State.reqOverridden (s : State) (i : Fin 64) (r : StateReq) : Bool :=
  s.safeNow i && r != .powerDown && r != .fence

/-- When the checks of a set of writes are made: at TXN_PREPARE, in the apply cycle of a group (R292), or for a single-write
transaction, whose acceptance and application share one cycle (R40). -/
inductive CheckAt where
  | prepare | commit | single
  deriving DecidableEq, Repr

/-- The writes take effect in the cycle of the check. -/
def CheckAt.lands : CheckAt → Bool
  | .prepare => false | _ => true

/-- The DSTAT of a STATE_REQ: STATE where it names no transition and no force of the same cycle overrides it. -/
def State.siteCheck (s : State) (view : View) (i : Fin 64) (off sub v : Nat) (at_ : CheckAt) : Dstat :=
  if off = 0x00 ∧ sub = 1 then
    match stateReqOf v with
    | none => 0
    | some r => if (at_.lands && s.reqOverridden i r) || s.reqAllowed view i r then 0 else 8
  else 0

/-- REQ_RESULT of a site. -/
def State.reqResult (s : State) (i : Fin 64) (r : ReqResult) : State := s.modCtl i fun c => { c with reqResult := r }

/-- A request is refused or fails; IN_PROGRESS stays while a transition is in progress (R29). -/
def State.reqTurned (s : State) (i : Fin 64) (r : ReqResult) : State :=
  if (s.site i).ctl.trans.isSome then s else s.reqResult i r

/-- A transition begins (R29). -/
def State.transBegin (s : State) (i : Fin 64) (t : Transition) : State :=
  s.modCtl i fun c => { c with trans := some t, reqResult := .inProgress }

/-- An in-service test in progress is aborted; completed results stay (R454). -/
def State.testAbort (s : State) (i : Fin 64) : State :=
  s.modSite i fun t => if t.test.state = 1 then { t with test := { t.test with state := 3, left := [] } } else t

/-- Both engines of a site have stopped. -/
def State.enginesStopped (s : State) (i : Fin 64) : Bool := (s.psq i).state == .idle && !(s.mse i).state.busy

/-- What a request starts. PARK and FENCE wait for an MSE routine in its committed window to end (R209), and PARK for the next
vector boundary of a PSQ that has one to come; where none is to come the PSQ stops at once. -/
def State.reqBegin (s : State) (i : Fin 64) (r : StateReq) : State :=
  match r with
  | .powerUp => s.transBegin i .powerUp
  | .powerDown => (s.transBegin i .powerDown).testAbort i
  | .unpark => (s.transBegin i .unpark).forEach allUnits fun u s => if s.buOutput i u then s.buConnect i u else s
  | .park =>
    let running := s.siteState i == .running
    let s := s.transBegin i .park
    if running then
      let s := s.mseCause i 4
      let p := s.psq i
      if p.state = .idle then s.engineIdle i
      else if p.state = .run ∨ p.resume.isSome then s
      else (if p.state = .underrun then s.underrunGone i else s).psqStop i .park s.clock
    else (s.mseCause i 4).parkOutputs i
  | .fence =>
    let s := (((s.transBegin i .fence).mseCause i 5).modDsp i Dsp.fenced)
    if s.siteState i = .parked ∨ s.enginesStopped i = false then s else s.parkOutputs i
  | .unfence => (s.transBegin i .unfence).testAbort i

/-- A committed STATE_REQ takes effect; it reads 0 from then on. -/
def State.siteRequest (s : State) (i : Fin 64) (v : Nat) : State :=
  let s := s.setVal (siteAddr i 0x00 1) 0
  match stateReqOf v with
  | none => s
  | some r => if s.reqOverridden i r then s.reqResult i .overriddenSafe else (s.reqBegin i r).superviseEnd

/-! ## Completion -/

/-- A transition completes: the new state, cause REQUEST, REQ_RESULT APPLIED. -/
def State.transDone (s : State) (i : Fin 64) (st : SiteState) : State :=
  s.modCtl i fun c => { c.goto st .request s.clock with trans := none, reqResult := .applied }

/-- CAUSE of the force that waits for a site. -/
def State.forcedCause (s : State) (i : Fin 64) : SiteCause :=
  if s.thermalHeld i then .thermal
  else match (s.site i).ctl.forces with
    | .region _ :: _ => .region
    | .chip :: _ => .chip
    | _ => .fault

/-- A site that has become PARKED enters SAFE when a force has waited for it (R470). -/
def State.siteLanded (s : State) (i : Fin 64) : State :=
  if s.thermalHeld i ∨ (s.site i).ctl.forces ≠ [] then s.siteToSafe i (s.forcedCause i) else s

/-- The transition in progress. -/
def State.inTrans (s : State) (i : Fin 64) (t : Transition) : Bool := (s.site i).ctl.trans == some t

/-- The site's objects, memories, cells and units as POWER_UP leaves them. -/
def State.sitePowered (s : State) (i : Fin 64) : State :=
  let s := (s.modSite i Site.gated).siteReload i
  let s := s.forEach allUnits fun u s => s.buPowered i u
  let s := s.forEach allCells fun c s => s.cellPowered i c
  let s := s.tdcArm i
  s.modCal i fun c => { c with unproven := if s.nvm.trimsValid then 0 else 3 }

/-- POWER_UP_COMPLETE. -/
def execPowerUpComplete (i : Fin 64) (s : State) : Host.Outcome State Fault Refusal :=
  if s.inTrans i .powerUp then .next (((s.sitePowered i).transDone i .parked).siteLanded i) else .next s

/-- What a site that has gone OFF keeps of its thermal state: the latch and its records (R372). -/
def SiteThermal.gated (t : SiteThermal) : SiteThermal :=
  { SiteThermal.reset with acked := t.acked, latched := t.latched, shut := t.shut }

/-- The site's domains are gated: memories, engines and readings are lost, its conditions are gone. A spare that serves the site
loses what it held for it (R216). -/
def State.siteGated (s : State) (i : Fin 64) : State :=
  let s := (s.goneSite i).xipDrop i
  let s := if s.spareServes i then s.modDsp i fun _ => Dsp.reset else s
  let s := (s.modSite i Site.gated).modThermal i SiteThermal.gated
  { s with cal := { s.cal with sites := vmod s.cal.sites i fun _ => SiteCal.reset } }

/-- With its last site OFF a region loses its pattern memory (Table 17.5); it reads 0 when it is powered again. -/
def State.regionGated (s : State) (q : Fin 4) : State :=
  if (sitesOf q).all fun j => s.siteState j == .off then s.modRegion q fun r => { r with patMem := [] } else s

/-- SAFE_EXIT of a site that leaves SAFE by a request (R31). -/
def State.safeLeft (s : State) (i : Fin 64) : State :=
  if s.siteState i = .safe then s.queueMark i 0x09 s.clock SiteCause.request.code else s

/-- POWER_DOWN_COMPLETE. -/
def execPowerDownComplete (i : Fin 64) (s : State) : Host.Outcome State Fault Refusal :=
  if s.inTrans i .powerDown then
    .next (((((s.safeLeft i).siteGated i).transDone i .off).regionGated (regionOf i)).modCtl i fun c => { c with forces := [] })
  else .next s

/-- The outputs of a site that becomes READY from PARKED: cells at their idle states, units connected. -/
def State.siteConnect (s : State) (i : Fin 64) : State :=
  let s := s.forEach allCells fun c s => s.cellIdle i s.clock c
  s.forEach allUnits fun u s =>
    let s := if s.buOutput i u then (if (s.bridge i u).connected then s else (s.buConnect i u).buClosed i u) else s
    s.acqReady i u

/-- UNPARK_COMPLETE: the isolation switches have closed. -/
def execUnparkComplete (i : Fin 64) (s : State) : Host.Outcome State Fault Refusal :=
  if s.inTrans i .unpark then .next (((((s.transDone i .ready).siteConnect i).tdcReady i).bushelSite i).calFirstReady i) else .next s

/-- The time at which the last of a site's bridge units comes to rest. -/
def State.slewsEnd (s : State) (i : Fin 64) : Time :=
  allUnits.foldl (fun t u => laterOf t (laterOf ((s.bridge i u).offset.endTime t) ((s.bridge i u).ampl.endTime t))) s.clock

/-- A range change of a connected unit is to complete before its switches open (R170, R171). -/
def State.rangesDone (s : State) (i : Fin 64) : Bool :=
  allUnits.all fun u => !(s.bridge i u).connected || (s.bridge i u).range.isNone

/-- PARK_COMPLETE: the PSQ has stopped at its boundary, the routine has ended and the outputs are at rest. -/
def execParkComplete (i : Fin 64) (s : State) : Host.Outcome State Fault Refusal :=
  let s := if s.inTrans i .park then s.psqReach i else s
  if s.inTrans i .park && s.enginesStopped i && s.rangesDone i then
    .next (((s.advance (s.slewsEnd i)).siteIsolate i).transDone i .parked).superviseEnd
  else .next s

/-- FENCE_COMPLETE. -/
def execFenceComplete (i : Fin 64) (s : State) : Host.Outcome State Fault Refusal :=
  if s.inTrans i .fence && s.enginesStopped i && s.rangesDone i then
    let s := ((s.advance (s.slewsEnd i)).safeLeft i).siteIsolate i
    .next (((s.transDone i .fenced).siteLevels i).modCtl i fun c => { c with forces := [] }).superviseEnd
  else .next s

/-- UNFENCE_COMPLETE. -/
def execUnfenceComplete (i : Fin 64) (s : State) : Host.Outcome State Fault Refusal :=
  if s.inTrans i .unfence then .next ((s.transDone i .parked).siteLanded i) else .next s

/-! ## Reads -/

/-- SITE_STATE and SITE_CLASS (Tables 1.12, 1.13). -/
def State.siteRead (s : State) (i : Fin 64) (off sub : Nat) : Option Nat :=
  let c := (s.site i).ctl
  match off, sub with
  | 0x01, 1 => some c.state.code
  | 0x01, 2 => some c.prev.code
  | 0x01, 3 => some c.cause.code
  | 0x01, 4 => some c.reqResult.code
  | 0x01, 5 => some c.tLast.toNat
  | 0x02, 1 => some (b2n (s.siteThermal i).hot)
  | 0x02, 2 => some (s.throttleStep i)
  | 0x02, 3 => some (b2n ((s.siteThermal i).ssFail != 0))
  | 0x02, 4 => some (b2n (s.spareServes i))
  | _, _ => none

end Sys2Proof.Machine
end

