-- ==== Sys2Proof/Machine/MitCfg.lean ====
section
/-! DEFINITION. Mitten as the dictionary sees it (chapter 20): ranges, dependencies, effects of writes, reads. -/
namespace Sys2Proof.Machine

/-- A source number of Table 20.1. -/
def mitSrcOk (src : Nat) : Bool := decide (src ≤ 34)

/-- An analogue source: SRC 0–7 and 24–30 (R421). -/
def mitAnalogue (src : Nat) : Bool := src ≤ 7 || (24 ≤ src && decide (src ≤ 30))

/-- Reserved encodings of MIT_FILTER and MIT_RULE that depend on another field (Tables 20.7, 20.8). DESIGN CHOICE (log entry
2006): with TYPE = OFF every K is accepted, where Table 20.7 names no reaction. -/
def mitRange (index sub v : Nat) : Bool :=
  if index = 0x2702 then
    mitSrcOk (field v 5 0) && (field v 7 6 != 1 || (1 ≤ field v 11 8 && decide (field v 11 8 ≤ 12)))
  else if index = 0x2703 ∧ sub ≤ 16 then
    (if bitOf v 6 then field v 5 3 == 0 else mitSrcOk (field v 5 0)) && (field v 8 7 == 0 || field v 63 48 != 0)
  else true

/-- The source that an enabled filter or rule samples. -/
def filterSrc (v : Nat) : Option Nat := if field v 7 6 = 0 then none else some (field v 5 0)
def ruleSrc (v : Nat) : Option Nat := if field v 8 7 = 0 ∨ bitOf v 6 then none else some (field v 5 0)

/-- The sources that a configuration samples, each once. -/
def mitSources (view : View) : List Nat :=
  let fs := (List.range 8).filterMap fun j => filterSrc (view (addrOf 0x2702 (j + 1)))
  let rs := (List.range 16).filterMap fun k => ruleSrc (view (addrOf 0x2703 (k + 1)))
  (fs ++ rs).eraseDups

/-- MCK cycles that a tick needs: 8 + 2A + F + R (R421). -/
def mitCycles (view : View) : Nat :=
  8 + 2 * ((mitSources view).filter mitAnalogue).length +
    ((List.range 8).filter fun j => field (view (addrOf 0x2702 (j + 1))) 7 6 != 0).length +
    ((List.range 16).filter fun k => field (view (addrOf 0x2703 (k + 1))) 8 7 != 0).length

/-- The tick fits its period (R421), and a rule's REL and SET are in order (R423). -/
def mitDep (view : View) (index sub v : Nat) : Bool :=
  let fits := decide (mitCycles view ≤ view (addrOf 0x2701 1))
  if (index = 0x2701 ∧ sub = 1) ∨ (index = 0x2702 ∧ sub ≤ 8) then fits
  else if index = 0x2703 ∧ sub ≤ 16 then
    let set := toInt (field v 31 16) 16
    let rel := toInt (field v 47 32) 16
    fits && (match field v 8 7 with
      | 1 => decide (rel < set)
      | 2 => decide (set < rel)
      | _ => true)
  else true

/-- A filter that restarts: its next sample counts as its first (R422). -/
def MitFilter.restarted (f : MitFilter) : MitFilter := { f with hist := [], valid := false }

/-- A rule that restarts with an operation: its next evaluation counts as a first one (R423). -/
def MitRule.restarted (r : MitRule) (op : Nat) : MitRule :=
  { r with state := if op = 0 then .off else .unknown, first := true, count := 0, fired := false }

/-- The operation of rule `k`. -/
def State.ruleOp (s : State) (k : Nat) : Nat := field (s.cfg 0x2703 (k + 1)) 8 7

/-- Every filter and every rule restarts (Table 20.5). -/
def State.mitRestart (s : State) : State :=
  { s with mitten := { s.mitten with
      filters := s.mitten.filters.map MitFilter.restarted
      rules := Vector.ofFn fun k => (s.mitten.rules[k.val]).restarted (s.ruleOp k.val) } }

/-- The tick that last fired WAKE_OUT has not ended: it takes 8 + 2A + F + R MCK cycles of 250 ns (Table 20.2), at MCK's nominal
rate. -/
def State.outTick (s : State) : Bool := match s.mitten.outAt with
  | some t => before s.clock (addGrains t (mitCycles s.val * 128000 : Nat))
  | none => false

/-- CMD of MIT_CTRL (Table 20.5). CLR_WAKE in the tick of a firing leaves WAKE_OUT high (Table 20.4). -/
def State.mitCmd (s : State) (v : Nat) : State :=
  match v with
  | 1 => { s with mitten := { s.mitten with wakeOut := s.mitten.wakeOut && s.outTick, woke := false } }
  | 2 => { s with mitten := { s.mitten with lost := 0, rules := s.mitten.rules.map fun (r : MitRule) => { r with fires := 0 } } }
  | _ => s

/-- Effects of writes to the Mitten objects. -/
def State.mitEffect (s : State) (index sub old v : Nat) : State :=
  match index with
  | 0x2700 =>
    if sub = 1 then (if bitOf v 0 && !bitOf old 0 then s.mitRestart else s)
    else if sub = 2 then s.mitCmd v else s
  | 0x2702 =>
    { s with mitten := { s.mitten with filters := vmodN s.mitten.filters (sub - 1) MitFilter.restarted } }
  | 0x2703 =>
    if v = old then s
    else { s with mitten := { s.mitten with rules := vmodN s.mitten.rules (sub - 1) fun r => r.restarted (field v 8 7) } }
  | _ => s

/-- STATE codes of Table 20.8. -/
def RuleState.code : RuleState → Nat
  | .isFalse => 0 | .isTrue => 1 | .unknown => 2 | .off => 3

/-- MIT_CTRL.STATUS (Table 20.5). -/
def Mitten.status (m : Mitten) : Nat :=
  b2n m.wakeOut + at_ (b2n m.woke) 1 + at_ (b2n (m.wake != .idle)) 2 + at_ m.result 8 + at_ (b2n m.stage) 12 +
    at_ m.stale.toNat 16 + at_ m.lost 51

/-- The status objects of chapter 20. -/
def State.mitRead (s : State) (index sub : Nat) : Option Nat :=
  match index, sub with
  | 0x2700, 0x17 => some s.mitten.status
  | 0x2701, 2 => some s.mitten.ticks.toNat
  | 0x2702, k =>
    if 9 ≤ k then
      let f := vgetN s.mitten.filters (k - 9) MitFilter.reset
      some (f.out.toNat + at_ (b2n f.stale) 16 + at_ (b2n f.valid) 17)
    else none
  | 0x2703, k =>
    if 0x11 ≤ k then
      let r := vgetN s.mitten.rules (k - 0x11) MitRule.reset
      some (r.state.code + at_ r.count 16 + at_ r.fires.toNat 32)
    else none
  | _, _ => none

end Sys2Proof.Machine
end

