-- ==== Sys2Proof/Machine/FurlongOps.lean ====
section
/-! DEFINITION. The Furlong link layer (chapter 14): link control blocks, training, replay, the loss of a port and what
becomes of its traffic, enumeration and breaks. -/
namespace Sys2Proof.Machine

/-! ## Blocks that a port sends -/

/-- A port sends an ACK for every packet received so far (R313). -/
def State.sendAck (s : State) (p : Fin 2) : State :=
  let s := s.sendBlock p (ctlBlock 0x81 (at_ ((s.port p).rxSeq - 1).toNat 40))
  s.modPort p fun q => { q with rxUnacked := 0, ackOwed := false }

/-- A port sends a NAK for the packet it expects (R314). -/
def State.sendNak (s : State) (p : Fin 2) : State := s.sendBlock p (ctlBlock 0x82 (at_ (s.port p).rxSeq.toNat 40))

/-! ## Training (R310) -/

/-- A packet's words have been in the replay buffer of a port: what it holds now. -/
def Port.replayWords (q : Port) : Nat := (q.replay.map fun e => e.2.words).sum

/-- The packets that a port has sent or has been given: those unacknowledged, whose residence goes on from `t`, then those
waiting. -/
def Port.traffic (q : Port) (t : Time) : List TxWait :=
  (q.replay.map fun e => { through := true, packet := e.2, held := none, stamp := t }) ++ q.txWait

/-- The link layer of a port as training leaves it; packets unacknowledged are sent again. -/
def Port.fresh (q : Port) (t : Time) : Port :=
  { q with txWait := q.traffic t, locked := Vector.replicate 4 false, aligned := Vector.replicate 4 false, samples := [],
           since := t, txSeq := 0, rxSeq := 0,
           replay := [], replayRow := 0, waitReplay := false, credits := #v[512, 1024, 4096], rxUnacked := 0, ackOwed := false }

/-- A port begins to train, when the link PLL is locked. -/
def State.portTrain (s : State) (p : Fin 2) : State :=
  s.modPort p fun q => { q.fresh s.clock with state := if s.pll.linkLocked then .training else .down, width := 0 }

/-- The width that the aligned lanes allow. -/
def Port.widthOf (q : Port) : Nat :=
  let a (k : Fin 4) : Bool := q.aligned[k.val] && q.locked[k.val]
  if a 0 && a 1 && a 2 && a 3 then 4
  else if (a 0 && a 1) || (a 2 && a 3) then 2
  else if a 0 then 1 else 0

/-! ## Routing -/

/-- The packet with REV set. -/
def Packet.reversed (p : Packet) : Packet := { p with h0 := p.h0 ||| (1#64 <<< 28) }

/-- A packet of port `p` goes out under the routing in force with REV = 1 (R330). With no route it is discarded and
counted, or, of a stream in a chip that is CUT, held (R329). -/
def State.reroute (s : State) (p : Fin 2) (w : TxWait) : State :=
  let w : TxWait := { w with packet := w.packet.reversed }
  let out := if w.packet.dest = 0xFFFF then otherPort p else s.egressOf w.packet.dest
  if out ≠ p then s.toPort out w
  else if s.furlong.topo = .cut ∧ classOf w.packet.type = 5 then s.modPort p fun q => { q with txWait := q.txWait ++ [w] }
  else s.dropAt p w

/-- The traffic of a port moves to the routing in force. -/
def State.rerouteAll (s : State) (p : Fin 2) : State :=
  let ws := (s.port p).traffic s.clock
  (s.modPort p fun q => { q with replay := [], txWait := [] }).forEach ws fun w s => s.reroute p w

/-- Packets that wait at a port which is left take the routing in force; broadcasts stay (R330, R332). -/
def State.moveWaiting (s : State) (p : Fin 2) : State :=
  let ws := (s.port p).txWait
  (s.modPort p fun q => { q with txWait := [] }).forEach ws fun w s =>
    if w.packet.dest = 0xFFFF then s.toPort p w else s.toPort (s.egressOf w.packet.dest) w

/-- The traffic of a port that is lost in MODE CHAIN (R329): stream packets are held, the others discarded and counted. -/
def State.holdStreams (s : State) (p : Fin 2) : State :=
  let ws := (s.port p).traffic s.clock
  let s := s.modPort p fun q => { q with replay := [], txWait := ws.filter fun w => classOf w.packet.type == 5 }
  s.forEach (ws.filter fun w => classOf w.packet.type != 5) fun w s => s.dropAt p w

/-- MODE RING. -/
def State.ringMode (s : State) : Bool := bitOf (s.cfg 0x2200 1) 0

/-- STATE and the host port in force as the losses on either side leave them (R329, R330). -/
def Furlong.settled (f : Furlong) (ring : Bool) : Furlong :=
  if f.addr = 0 then f
  else if f.lostLo && (f.lostHi || !ring) then { f with topo := .cut }
  else if f.lostLo then { f with topo := .reversed, hostPort := otherPort f.enumPort }
  else { f with topo := .normal, hostPort := f.enumPort }

/-- THROUGH (R325): the chips whose host-bound traffic passes through this one. -/
def Furlong.counted (f : Furlong) : Furlong :=
  { f with through := if f.addr = 0 then 0
                      else if f.hostPort = f.enumPort then f.reachHi - f.addr else f.addr - f.reachLo }

/-- REACH narrowed by a break at EDGE (R330): DIR 1 loses the addresses at or below it, DIR 0 those at or above it. -/
def Furlong.narrowed (f : Furlong) (edge : BitVec 16) (dir : Bool) : Furlong :=
  if dir then { f with lostLo := true, reachLo := if f.reachLo.toNat ≤ edge.toNat then edge + 1 else f.reachLo }
  else { f with lostHi := true, reachHi := if edge.toNat ≤ f.reachHi.toNat then edge - 1 else f.reachHi }

/-- A break takes effect on the routing. -/
def State.broken (s : State) (edge : BitVec 16) (dir : Bool) : State :=
  { s with furlong := ((s.furlong.narrowed edge dir).settled s.ringMode).counted }

/-- A BREAK received takes effect: what waits for a host port that is left follows the new routing. -/
def State.breakSeen (s : State) (edge : BitVec 16) (dir : Bool) : State :=
  let old := s.furlong.hostPort
  let s := s.broken edge dir
  if s.furlong.hostPort = old then s else s.moveWaiting old

/-- The content of a BREAK. -/
def breakContent (edge : BitVec 16) (dir : Bool) : Nat := at_ edge.toNat 40 + at_ (b2n dir) 39

/-! ## The loss of a port (R316, R329, R330) -/

/-- A Furlong kind is presented where Gauntlet runs: not in reset or bypass. -/
def State.presentLink (s : State) (kind index sub : Nat) : State :=
  if s.rst.phase = .inReset ∨ s.rst.phase = .bypassed ∨ s.rst.phase = .vaonLost then s else s.presentObj .ofChain kind index sub

/-- A port goes DOWN: FL_LINK_DOWN is presented, the routing and the traffic follow, and the port retrains. -/
def State.portDown (s : State) (p : Fin 2) : State :=
  let host := p = s.furlong.enumPort
  let edge : BitVec 16 := if host then s.furlong.addr - 1 else s.furlong.addr + 1
  let s := s.modPort p fun q => { q with state := .down, width := 0, linkDowns := satInc 0xFFFF q.linkDowns }
  let s := s.presentLink 0x80 0x2202 (p.val + 1)
  let s :=
    if s.furlong.addr = 0 then s.holdStreams p
    else if s.ringMode then
      let s := s.modPort p fun q => { q with broken := true }
      let s := s.sendBlock (otherPort p) (ctlBlock 0x86 (breakContent edge host))
      let s := (s.broken edge host).rerouteAll p
      s.presentLink 0x81 0x2200 3
    else if host then (s.broken edge true).holdStreams p
    else s.holdStreams p
  s.portTrain p

/-- FL_LINK_DOWN goes when no port that has been lost is still DOWN or training. -/
def State.linkUp (s : State) : State :=
  let lost (p : Fin 2) : Bool := (s.port p).linkDowns != 0 && ((s.port p).state == .down || (s.port p).state == .training)
  if lost 0 || lost 1 then s else s.gone .ofChain 0x80

/-- RESTORE (R332): REACH as enumeration left it, the host port of enumeration, STANDBY ports active again. -/
def State.flRestore (s : State) : State :=
  let old := s.furlong.hostPort
  let f := s.furlong
  let f : Furlong := { f with lostLo := false, lostHi := false, reachLo := if f.addr = 0 then 0 else 1,
                              reachHi := if f.addr = 0 then 0 else f.chainLen }
  let s := { s with furlong := (f.settled true).counted }
  let s := s.forEach [0, 1] fun p s =>
    s.modPort p fun q => { q with broken := false, state := if q.state = .standby then .active else q.state }
  if s.furlong.hostPort = old then s else s.moveWaiting old

/-! ## Enumeration (R323) -/

/-- An ENUM token accepted on a port. -/
def State.enumerated (s : State) (p : Fin 2) (next : BitVec 16) (acc : BitVec 32) : State :=
  let lat := acc + (s.port p).linkLat.setWidth 32
  let f : Furlong := { s.furlong with addr := next, pathLat := lat, hostPort := p, enumPort := p, lostLo := false, lostHi := false,
                                      reachLo := 1, reachHi := next, topo := .normal }
  let s := { s with furlong := f.counted }
  let s := s.setVal (addrOf 0x2200 1) (s.cfg 0x2200 1 &&& 5)
  let far := otherPort p
  if (s.port far).state = .down ∨ (s.port far).state = .training then
    let s := s.sendBlock p (ctlBlock 0x85 (at_ next.toNat 40))
    { s with furlong := { s.furlong with chainLen := next } }
  else if next = 0xFFFE then s
  else s.sendBlock far (ctlBlock 0x84 (at_ (next.toNat + 1) 40 + at_ ((lat.toNat + 20480) % 2 ^ 32) 8))

/-- ENUM_END on its way to the host: CHAIN_LEN, and REACH spans the chain. -/
def State.enumEnd (s : State) (p : Fin 2) (last : BitVec 16) : State :=
  let f : Furlong := { s.furlong with chainLen := last, reachHi := if s.furlong.addr = 0 ∨ s.furlong.lostHi then
      s.furlong.reachHi else last }
  let s := { s with furlong := f.counted }
  s.sendBlock (otherPort p) (ctlBlock 0x85 (at_ last.toNat 40))

end Sys2Proof.Machine
end

