-- ==== Sys2Proof/Machine/ResetOps.lean ====
section
/-! DEFINITION. What a chip reset and the entry into bypass discard and what they keep (R298, R333, R442–R444). -/
namespace Sys2Proof.Machine

/-- Configuration that a reset leaves in force: the Mitten objects (R417, R418), and for sources 3–6 FL_TOPOLOGY. -/
def keepsConfig (ports : Bool) (addr : Nat) : Bool :=
  (0x2700 ≤ indexOf addr && decide (indexOf addr < 0x2800)) || (ports && indexOf addr == 0x2200)

/-- A site in reset: OFF, memories and engines at reset. -/
def Site.inReset : Site := { Site.reset with ctl := { SiteCtl.reset with state := .off } }

/-- The PLL in reset: BYPASS (Table 3.5). -/
def Pll.inReset (p : Pll) : Pll := { Pll.reset with state := .bypass, linkLocked := p.linkLocked, refPresent := p.refPresent }

/-- The records that a reset writes as it ends the thermal shutdowns of sites and regions (R375). -/
def State.shutdownsLeft (s : State) : List NvmJob :=
  ((allSites.filter fun i => (s.siteThermal i).latched).map fun i => .shutdown (s.siteThermal i).shut) ++
    (((List.finRange 4).filter fun q => (s.thermal.regions[q.val]).shut).map fun q => .shutdown (s.thermal.regions[q.val]).record)

/-- A job that a reset does not discard: the shutdown records (R375). -/
def NvmJob.survives : NvmJob → Bool
  | .shutdown _ => true
  | _ => false

/-- RNVM across a reset: the areas stand (R449), the counts of NVM_STATUS are those since reset, writes in progress are lost. -/
def State.nvmKept (s : State) : Nvm :=
  { s.nvm with writes := 0, corrected := 0, uncorrectable := 0, safeDone := Vector.replicate 128 false,
               jobs := s.nvm.jobs.filter NvmJob.survives ++ s.shutdownsLeft }

/-- A region's thermal state across a reset: its always-on element keeps its reading, and a region that was shut down is held
until it is cool (R373). -/
def RegionThermal.kept (r : RegionThermal) : RegionThermal :=
  { RegionThermal.reset with rq := { Sensor.reset with used := r.rq.used, code := r.rq.code }, held := r.shut }

/-- Overlay slots and base images across a reset: slot 17 is volatile; a SAVE in progress has no image (R449). -/
def CommitUnit.kept (c : CommitUnit) : CommitUnit :=
  { CommitUnit.reset with store := c.store.set 16 [], userBase := c.userBase, userCrc := c.userCrc }

/-- Furlong across a reset (R442, R444): sources 3–6 keep the ports, the routing and what is being forwarded. -/
def Furlong.kept (f : Furlong) (ports : Bool) : Furlong :=
  if ports then
    { f with ports := f.ports.map fun (q : Port) => { q with txWait := q.txWait.filter (·.through),
                                                             state := if q.state = .bypass then .active else q.state }, bypassed := false,
             inbox := [], hops := [], transfers := [], seqs := [], sseqs := [], sseqOut := 0,
             egress := Vector.replicate 4 Wrr.reset, egressPos := 0 }
  else Furlong.reset

/-- Mitten across a reset: a wake in progress becomes pending again (R426). -/
def Mitten.kept (m : Mitten) : Mitten := { m with wake := .idle, outAt := none, pending := m.pending || m.wake != .idle }

/-- RG_RESET after a reset by source `cause` (Table 22.11). -/
def ResetCtl.after (r : ResetCtl) (cause : Nat) : ResetCtl :=
  { r with phase := .inReset, cause := cause, resets := if cause = 0 then 0 else satInc 0xFFFF r.resets,
           watchdogs := if cause = 0 then 0 else if cause = 5 then satInc 0xFFFF r.watchdogs else r.watchdogs,
           runNext := r.runNext && decide (cause ≠ 0), selftest := 0,
               thermalHold := (r.thermalHold && decide (cause ≠ 0)) || decide (cause = 6),
           configSource := 0, outputsHeld := false, supplyFault := none }

/-- The chip in reset (R442, R443): pin cells Z, switches open, sites, regions, groups, records and interfaces at reset. -/
def State.coreCleared (s : State) (cause : Nat) : State :=
  let ports := decide (3 ≤ cause)
  { State.reset with
    clock := s.clock, dict := s.dict.filter (fun e => keepsConfig ports e.1 && decide (cause ≠ 0)),
    sites := Vector.replicate 64 Site.inReset, pll := s.pll.inReset,
    special := { SpecialTdc.reset with levels := s.special.levels }, commit := s.commit.kept,
    assize := { s.assize with lost := 0, nearIn := false, fullIn := false }, nvm := s.nvmKept,
    thermal := { Thermal.reset with regions := s.thermal.regions.map RegionThermal.kept },
    mitten := if cause = 0 then Mitten.reset else s.mitten.kept, can := { Can.reset with straps := s.can.straps },
    furlong := s.furlong.kept ports,
    rst := { s.rst.after cause with refQualified := s.rst.refQualified && s.pll.refPresent && decide (cause ≠ 0) }, tap := s.tap,
        freeCount := s.freeCount, pending := s.pending }

/-- A chip reset is asserted. A source of a lower code than one that holds the core already is reported in its place (R442). -/
def State.chipReset (s : State) (cause : Nat) : State :=
  let merged := s.rst.phase = .inReset ∧ s.rst.cause ≤ cause
  if merged then { s with rst := { s.rst with thermalHold := s.rst.thermalHold || decide (cause = 6) } }
  else s.coreCleared cause

/-- The chip powered down to a forwarding-only bypass (R333): its own packets still leave, the ports read BYPASS. -/
def State.enterBypass (s : State) : State :=
  let f := s.furlong
  let t := s.coreCleared 3
  let up (q : Port) : Port := { q with state := if q.state = .active then .bypass else q.state }
  { t with
    furlong := { t.furlong with ports := f.ports.map up, bypassed := true, seqs := f.seqs },
    nvm := s.nvm, rst := { s.rst with phase := .bypassed }, can := { t.can with bus := .silent } }

end Sys2Proof.Machine
end

