-- ==== Sys2Proof/Machine/LinkCfg.lean ====
section
/-! DEFINITION. The chip and region objects of chapters 03, 14–18, 21 and 22 as the dictionary sees them: ranges, checks,
effects of writes, reads. -/
namespace Sys2Proof.Machine

/-! ## Gauntlet (chapter 18) -/

/-- A GT_CLASS_CFG value that the class does not accept (R384): of a fixed class every change. -/
def State.classOk (s : State) (cls v : Nat) : Bool :=
  match gtLevels cls with
  | some (lo, hi) => lo ≤ field v 2 0 && decide (field v 2 0 ≤ hi)
  | none => v == s.cfg 0x2403 cls

/-- The slot and RSEQ of a GT_ACK name a record held (R395). -/
def State.ackOk (s : State) (v : Nat) : Bool :=
  match s.gtSlot (field v 6 0) with
  | some r => r.rseq.toNat == field v 31 16
  | none => false

/-- GT_ACK (R395). -/
def State.gtAckCmd (s : State) (sub v : Nat) : State :=
  if sub = 1 then s.gtAck (field v 6 0)
  else if bitOf v 0 then s.forEach ((List.range 64).map (· + 1)) fun n s => if (s.gtSlot n).isSome then s.gtAck n else s
  else s

/-- The status objects of chapter 18. -/
def State.gtRead (s : State) (index sub : Nat) : Option Nat :=
  match index with
  | 0x2400 =>
    if sub = 3 then
      let full := s.gtFree.isNone
      some (s.gtRecords.length + at_ (b2n full) 7 + at_ (b2n s.errNLow) 8 + at_ (b2n s.irqNLow) 9 + at_ s.gauntlet.nvDrops 32)
    else none
  | 0x2401 => if sub = 0 then none else some (((s.gtSlot sub).map GtRecord.value).getD 0)
  | 0x2405 =>
    if sub = 0 then none
    else
      let c := vgetN s.gauntlet.recovery (sub - 1) RecoveryCount.reset
      some (c.count + at_ (b2n c.latched) 8)
  | _ => none

/-! ## Furlong (chapter 14) -/

/-- Checks of FL_TOPOLOGY and FL_BYPASS: SYNC_MASTER with SOURCE = 1, RESTORE with a port DOWN (R332), ENTER (R333). -/
def State.flCheck (s : State) (index sub v : Nat) : Dstat :=
  match index, sub with
  | 0x2200, 1 => if bitOf v 2 && s.cfg 0x2120 1 == 1 then 7 else 0
  | 0x2200, 2 => if v = 1 ∧ ((s.port 0).state = .down ∨ (s.port 1).state = .down) then 8 else 0
  | 0x2204, 1 =>
    let held := s.commit.groups.any fun g => g.state == .opened || g.state == .preparing || g.state == .prepared || g.state == .scheduled
    if s.allParked && !held then 0 else 8
  | _, _ => 0

/-- Effects of FL_TOPOLOGY.CMD and FL_BYPASS. -/
def State.flEffect (s : State) (index sub v : Nat) : State :=
  match index, sub with
  | 0x2200, 2 => if v = 1 then s.flRestore else if v = 2 then s.portTrain 0 else s.portTrain 1
  | 0x2204, 1 => s.enterBypass
  | _, _ => s

/-- STATE codes, Tables 14.6 and 14.8. -/
def TopoState.code : TopoState → Nat
  | .unenumerated => 0 | .normal => 1 | .reversed => 2 | .cut => 3
def PortState.code : PortState → Nat
  | .down => 0 | .training => 1 | .active => 2 | .standby => 3 | .bypass => 4

/-- The status objects of chapter 14. -/
def State.flRead (s : State) (index sub : Nat) : Option Nat :=
  let f := s.furlong
  match index, sub with
  | 0x2200, 3 => some f.topo.code
  | 0x2200, 4 => some (f.reachLo.toNat + at_ f.reachHi.toNat 16 + at_ f.through.toNat 32 + at_ f.hostPort.val 48)
  | 0x2201, 1 => some f.addr.toNat
  | 0x2201, 2 => some f.pathLat.toNat
  | 0x2201, 3 => some f.chainLen.toNat
  | 0x2202, k =>
    if k = 0 then none
    else
      let q := s.port (Fin.ofNat 2 (k - 1))
      if k ≤ 2 then some (q.state.code + at_ q.width 3 + at_ q.linkLat.toNat 8 + at_ q.replays 32 + at_ q.crcErrs 48)
      else some (q.dropped.toNat + at_ q.linkDowns 32 + at_ q.ctlErrs 48)
  | _, _ => none

/-! ## CAN FD (chapter 15) -/

/-- The PDO that a mapping object belongs to: its COB-ID's address, and whether it is an RPDO. -/
def pdoOf (index : Nat) : Option (Nat × Bool) :=
  if 0x1600 ≤ index ∧ index ≤ 0x1603 then some (addrOf (index - 0x200) 1, true)
  else if 0x1A00 ≤ index ∧ index ≤ 0x1A03 then some (addrOf (index - 0x200) 1, false)
  else none

/-- A mapping entry names an object that can be mapped (R343); 0 names none. -/
def mappable (rpdo : Bool) (e : Nat) : Bool :=
  e == 0 || match rowAt (addrOf (field e 31 16) (field e 15 8)) with
    | none => false
    | some (r, _) =>
      let fits := match r.ty with
        | .num bits => bits == field e 7 0
        | .bytes n => 8 * n == field e 7 0 && decide (n ≤ 8)
        | .domain _ _ => false
      fits && (match r.acc with
        | .rw => true
        | .wo => rpdo
        | .ro => !rpdo
        | .const => false)

/-- The entries of a mapping as a view leaves them. -/
def pdoEntries (view : View) (index : Nat) : List Nat :=
  (List.range (view (addrOf index 0))).map fun k => view (addrOf index (k + 1))

/-- The bits that a mapping carries. -/
def mappedBits (es : List Nat) : Nat := (es.map fun e => field e 7 0).sum

/-- Checks of a write to a PDO mapping (R343): STATE while the PDO is valid, MAPPING. -/
def canCheck (view : View) (index sub v : Nat) : Dstat :=
  match pdoOf index with
  | none => 0
  | some (cob, rpdo) =>
    let es := pdoEntries view index
    if !bitOf (view cob) 31 then 8
    else if (sub != 0 && !mappable rpdo v) || !(es.all (mappable rpdo)) || (sub == 0 && es.contains 0) ||
        decide (512 < mappedBits es) then 13
    else 0

/-- Effects of writes to the communication objects: a PDO's history ends with a new COB-ID, a write of 0 clears 0x1003. -/
def State.canEffect (s : State) (index sub : Nat) : State :=
  if index = 0x1003 ∧ sub = 0 then { s with can := { s.can with history := [] } }
  else if 0x1800 ≤ index ∧ index ≤ 0x1803 ∧ sub = 1 then
    { s with can := { s.can with tpdos := vmodN s.can.tpdos (index - 0x1800) fun (t : Tpdo) => { t with lastBytes := none } } }
  else s

/-- CiA codes of Table 15.3. -/
def NmtState.code : NmtState → Nat
  | .preOperational => 0x7F | .operational => 5 | .stopped => 4

/-- BUS codes. -/
def BusState.code : BusState → Nat
  | .errorActive => 0 | .errorPassive => 1 | .busOff => 2 | .silent => 3

/-- The status objects of chapter 15. -/
def State.canRead (s : State) (index sub : Nat) : Option Nat :=
  let c := s.can
  match index, sub with
  | 0x1001, 0 => some s.errReg
  | 0x1003, 0 => some c.history.length
  | 0x1003, k => some (c.history.getD (k - 1) 0).toNat
  | 0x1018, 4 => some (uniqueId.toNat % 2 ^ 32)
  | 0x1FF1, 1 =>
    some (c.bus.code + at_ c.nmt.code 8 + at_ c.nodeId.toNat 16 + at_ (min 255 c.tec) 24 + at_ (min 255 c.recv) 32 +
      at_ (b2n c.dup) 40 + at_ (b2n (c.nodeId == 0)) 41 + at_ c.lastDstat 48)
  | 0x1FF1, 2 => some (c.busOffs + at_ c.rpdoRefused 16 + at_ c.usdoAborts 32 + at_ c.emcyLost 48)
  | _, _ => none

/-! ## SPI ports and RNVM (chapter 16) -/

/-- MiB that a SIZE code maps (Table 16.8). -/
def sizeMiB (k : Nat) : Nat := if k ≤ 8 then 2 ^ k else 0

/-- A DTR phase of SPM_PHASES. -/
def dtrUsed (v : Nat) : Bool := bitOf v 11 || bitOf v 15 || bitOf v 23

/-- A chip select's address phase reaches what is mapped to it. -/
def addrReaches (view : View) (cs : Nat) : Bool :=
  bitOf (view (addrOf 0x2802 cs)) 12 || decide (sizeMiB (view (addrOf 0x2803 cs)) ≤ 16)

/-- Dependencies of chapter 16 among SPM_CFG, SPM_PHASES and XIP_WINDOW. -/
def spmDep (view : View) (index sub v : Nat) : Bool :=
  let div := field (view (addrOf 0x2801 1)) 10 1
  match index with
  | 0x2801 => decide (64 ≤ div) || !(dtrUsed (view (addrOf 0x2802 1)) || dtrUsed (view (addrOf 0x2802 2)))
  | 0x2802 => (decide (64 ≤ div) || !dtrUsed v) && (!bitOf v 24 || bitOf v 23) && addrReaches view sub
  | 0x2803 =>
    addrReaches view sub &&
      decide (sizeMiB (view (addrOf 0x2803 1)) + sizeMiB (view (addrOf 0x2803 2)) ≤ 256)
  | _ => true

/-- SPM_CFG, SPM_PHASES and XIP_WINDOW are refused while transfers are queued or served (Table 16.6). -/
def State.spmCheck (s : State) (index : Nat) : Dstat :=
  if 0x2801 ≤ index ∧ index ≤ 0x2803 ∧ (s.spm.queue ≠ [] ∨ s.spm.current.isSome) then 8 else 0

/-- SPS_CFG applied: with CHECKED going from 0 to 1 any ALIVE is accepted next (R354). -/
def State.spsEffect (s : State) (index old v : Nat) : State :=
  if index = 0x2800 ∧ bitOf v 12 ∧ ¬ bitOf old 12 then { s with sps := { s.sps with anyAlive := true } } else s

/-- RNVM is being written: records, a base SAVE or Assize entries wait (Table 16.9). -/
def State.nvmBusy (s : State) : Bool := s.nvm.jobs != [] || s.commit.saving.isSome || decide (s.assize.queued ≠ 0)

/-- The status objects of chapter 16. -/
def State.spiRead (s : State) (index sub : Nat) : Option Nat :=
  let n := s.nvm
  match index, sub with
  | 0x2803, 3 =>
    some (s.spm.queue.length + at_ (b2n s.spm.current.isSome) 7 + at_ s.spm.sourceErrs 8 + at_ s.spm.restarts 24)
  | 0x2804, 1 =>
    some (s.sps.framesBad + at_ s.sps.crcErrs 16 + at_ s.sps.aliveErrs 32 + at_ s.sps.toCsv.length 48 + at_ s.sps.fromCsv.length 56)
  | 0x2804, 2 => some s.sps.lastAlive.toNat
  | 0x2810, 1 =>
    some (b2n n.readable + at_ (b2n s.nvmBusy) 1 + at_ (b2n n.baseValid) 2 + at_ (b2n n.overlaysValid) 3 + at_ (b2n n.safeValid) 4 +
      at_ (b2n n.trimsValid) 5 + at_ (b2n n.assizeValid) 6)
  | 0x2810, 2 => some (n.writes.toNat + at_ n.corrected 32 + at_ n.uncorrectable 48)
  | _, _ => none

/-! ## Assize (chapter 21) -/

/-- A value of ASZ_EXPORTED from the present one to ASZ_COUNTER, in the present era (R435). -/
def State.exportOk (s : State) (v : Nat) : Bool :=
  s.assize.exported.toNat ≤ v && decide (v ≤ s.aszCounter.toNat) && decide (v / 2 ^ 48 = s.assize.era)

/-- Effects of writes to the Assize objects. -/
def State.aszEffect (s : State) (index v : Nat) : State :=
  if index = 0x2902 then ({ s with assize := { s.assize with exported := BitVec.ofNat 64 v } }).aszWatch
  else if index = 0x2903 then s.aszWatch
  else s

/-- The counter of the oldest entry held. -/
def State.aszOldest (s : State) : BitVec 64 :=
  match s.assize.entries.getLast? with
  | some e => e.counter
  | none => s.aszCounter

/-- The entry that a window names (R441). -/
def State.aszWindow (s : State) (k : Nat) : Option (BitVec 512) :=
  (s.assize.entries.find? fun e => e.counter.toNat == s.cfg 0x2904 k).map (·.bytes)

/-- The status objects of chapter 21. -/
def State.aszRead (s : State) (index sub : Nat) : Option Nat :=
  let a := s.assize
  match index, sub with
  | 0x2900, 1 => some s.aszCounter.toNat
  | 0x2901, 1 => some s.aszOldest.toNat
  | 0x2901, 2 => some (s.aszCounter.toNat - a.queued)
  | 0x2901, 3 =>
    some (a.queued + at_ (b2n a.signing) 8 + at_ (b2n a.dead) 9 + at_ (b2n s.aszNear) 10 + at_ (b2n s.aszFull) 11 + at_ a.lost 16)
  | 0x2902, 1 => some a.exported.toNat
  | 0x2904, k => if 5 ≤ k then some ((s.aszWindow (k - 4)).getD 0).toNat else none
  | 0x2905, 1 => some Config.publicKey.toNat
  | _, _ => none

/-! ## Reset, spare DSP and in-service test (chapter 22) -/

/-- The site that a local number of a region serves: `k` = 1–16. -/
def localSite (q : Fin 4) (k : Nat) : Fin 64 := siteAt q (Fin.ofNat 16 (k - 1))

/-- Assize entries of an ASSIGN: the CRC and the TABLE_CRC of the site served before and of the site served after (R455). -/
def spareEntries (old v : Nat) : Nat :=
  if v = old then 0 else (if old = 0 then 0 else 2) + (if v = 0 then 0 else 2)

/-- Assize entries of a RUN of tests: the recomputed CRCs that MEM logs (Table 22.5). -/
def State.testEntries (s : State) (i : Fin 64) (v : Nat) : Nat :=
  if bitOf v 0 then (if s.spareServes i then 1 else 3) else 0

/-- STATE and LOG_FULL checks of RG_SPARE and RG_TEST (R454, R455). -/
def State.testCheck (s : State) (q : Fin 4) (off sub v : Nat) : Dstat :=
  let still (k : Nat) : Bool := k == 0 || s.siteState (localSite q k) == .fenced || s.siteState (localSite q k) == .off
  if off = 0x40 ∧ sub = 1 then
    let old := s.regionCfg q 0x40 1
    if (s.region q).spareTest || !still old || !still v then 8
    else if s.aszTakes (spareEntries old v) then 0 else 11
  else if off = 0x40 ∧ sub = 3 then
    if (s.region q).spareTest || s.regionCfg q 0x40 1 != 0 then 8 else 0
  else if off = 0x41 then
    let i := localSite q sub
    if s.siteState i ≠ .fenced ∨ (s.site i).ctl.trans.isSome ∨ (s.site i).test.state = 1 then 8
    else if s.aszTakes (s.testEntries i v) then 0 else 11
  else 0

/-- ASSIGN applied (R455): the spare starts at 0, a site's own DSP starts at 0 when it is served again, the CRCs are logged. -/
def State.spareAssign (s : State) (q : Fin 4) (old v : Nat) : State :=
  if v = old then s
  else
    let s := s.modRegion q fun r => { r with spare := Dsp.reset }
    let s := if old = 0 then s else s.modSite (localSite q old) fun t => { t with dsp := Dsp.reset }
    let s := if v = 0 then s else s.modSite (localSite q v) fun t => { t with dsp := { t.dsp with state := .stopped, stopCause := .fence } }
    let log (k : Nat) (s : State) : State := if k = 0 then s else (s.dspCrc (localSite q k) false).dspCrc (localSite q k) true
    log v (log old s)

/-- RUN applied: the tests run in the order MEM, LOOP, BRIDGE (R454). -/
def State.testRun (s : State) (i : Fin 64) (v : Nat) : State :=
  let left := [0, 1, 2].filter fun k => bitOf v k
  s.modSite i fun t =>
    { t with test := { SiteTest.reset with state := 1, left := left } }

/-- Effects of RG_SPARE, RG_TEST and RG_RESET. -/
def State.testEffect (s : State) (q : Fin 4) (off sub old v : Nat) : State :=
  if off = 0x40 ∧ sub = 1 then s.spareAssign q old v
  else if off = 0x40 ∧ sub = 3 then s.modRegion q fun r => { r with spareTest := true, spareFail := false }
  else if off = 0x41 then s.testRun (localSite q sub) v
  else if off = 0x42 ∧ sub = 2 then { s with rst := { s.rst with runNext := bitOf v 0 } }
  else s

/-- RESULT of a site's tests (Table 22.10). -/
def SiteTest.word (t : SiteTest) : Nat :=
  t.state + at_ t.ran.toNat 3 + at_ t.failed.toNat 6 + at_ t.memFail.toNat 16 + at_ t.loopFail.toNat 24 + at_ t.bridgeFail.toNat 32

/-- The status objects of chapter 22. -/
def State.testRead (s : State) (q : Fin 4) (off sub : Nat) : Option Nat :=
  let r := s.region q
  match off, sub with
  | 0x40, 2 =>
    some ((if r.spareTest then 2 else if s.regionCfg q 0x40 1 = 0 then 0 else 1) + at_ (b2n r.spareFail) 2)
  | 0x41, k => if 0x11 ≤ k then some (s.site (localSite q (k - 0x10))).test.word else none
  | 0x42, 1 => some s.rst.cause
  | 0x42, 2 => some (b2n s.rst.runNext)
  | 0x42, 3 => some s.rst.selftest.toNat
  | 0x42, 4 => some (s.rst.resets + at_ s.rst.watchdogs 16)
  | _, _ => none

/-! ## Identity (chapter 02) -/

/-- SITES_UP. -/
def State.upMask (s : State) : Nat := siteBits fun i => s.siteState i != .off

/-- The status objects of chapter 02. -/
def State.idRead (s : State) (index sub : Nat) : Option Nat :=
  match index, sub with
  | 0x2000, 4 => some uniqueId.toNat
  | 0x2001, 1 => some s.rst.configSource
  | 0x2001, 2 => some (b2n s.rst.outputsHeld)
  | 0x2001, 3 => some s.upMask
  | 0x2003, 3 => some (s.csv.rawServed.toNat + at_ s.csv.rawGeneral 32)
  | _, _ => none

/-! ## Clocks (chapter 03) -/

/-- MODE = 1 needs every site OFF or PARKED, now and after the transaction (R61). -/
def State.economyOk (s : State) (es : List (Nat × Nat)) : Bool :=
  s.allParked && allSites.all fun i =>
    decide ((s.site i).ctl.trans ≠ some .unpark) && decide ((s.site i).ctl.trans ≠ some .fence) &&
      !es.any fun e => e.1 == siteAddr i 0x00 1 && (e.2 == 3 || e.2 == 5)

/-- Checks of chapter 03 against the state: DEPENDENCY or STATE for MODE (R61). -/
def State.clockCheck (s : State) (es : List (Nat × Nat)) (index v : Nat) : Dstat :=
  if index = 0x2100 then
    if v = 1 ∧ ¬ s.economyOk es then 7
    else if decide (v = 1) ≠ s.pll.economy ∧ s.pll.state ≠ .locked then 8
    else 0
  else 0

/-- POLICY = RESYNC needs a periodic SYNC_IN. -/
def clockDep (view : View) (index sub v : Nat) : Bool :=
  if index = 0x2103 ∧ sub = 1 ∧ v = 1 then view (addrOf 0x2120 3) != 0 else true

end Sys2Proof.Machine
end

