-- ==== Sys2Proof/Machine/Commit.lean ====
section
/-! DEFINITION. Transactions (R39, R40, R290–R296): the checks of a set of writes, their application in one cycle, and the
groups that the writes of others fail. -/
namespace Sys2Proof.Machine

/-- A write of a transaction: address and value. -/
abbrev Entry := Nat × Nat

/-- A set of writes that take effect together: how it applies, its writes in staging order, its overlay applications. -/
structure Txn where
  ctx      : Ctx
  entries  : List Entry
  overlays : List OverlayApp
  deriving DecidableEq, Repr

/-- The values that a set of writes leaves (R290). -/
def State.viewOf (s : State) (es : List Entry) : View := fun a =>
  match es.find? fun e => e.1 == a with
  | some e => e.2
  | none => s.val a

/-! ## Checks -/

/-- The site whose unit or cell a trim subindex serves. -/
def trimSite (addr : Nat) : Fin 64 :=
  if indexOf addr = 0x2606 then Fin.ofNat 64 ((subOf addr - 1) / 2)
  else Fin.ofNat 64 (((indexOf addr - 0x2610) * 128 + (subOf addr - 1)) / 8)

/-- A subindex that cannot be accessed while its site is OFF, or its POWER_UP in progress (R471). -/
def State.darkAddr (s : State) (addr : Nat) : Bool :=
  match placeOf (indexOf addr) with
  | .site i off => decide (3 ≤ off) && s.siteDark i
  | .chip _ => isTrimAddr addr && s.siteDark (trimSite addr)
  | .region q off => off == 0x20 && (sitesOf q).all fun i => s.siteDark i
  | .nowhere => false

/-- Values that fit their fields and are refused with RANGE all the same (R40). -/
def State.rangeOk (s : State) (addr v : Nat) : Bool :=
  let sub := subOf addr
  match placeOf (indexOf addr) with
  | .site i off =>
    if off < 0x60 then pinRange off sub v
    else if off < 0x80 then psqRange off sub v
    else if off < 0xA0 then buRangeOk off v
    else if off < 0xC0 then s.mseRange i off sub v
    else if off < 0xE0 then s.dspRange i off sub v
    else tdcRange off sub v
  | .region _ off => slotRange off v
  | .chip ix =>
    if ix = 0x2403 then s.classOk sub v
    else if ix = 0x2902 then s.exportOk v
    else mitRange ix sub v
  | .nowhere => true

/-- The cross-object dependencies of one write (R290 item 1). -/
def depOk (view : View) (es : List Entry) (addr v : Nat) : Bool :=
  let sub := subOf addr
  match placeOf (indexOf addr) with
  | .site i off =>
    if off < 0x60 then pinDep view i off sub v
    else if off < 0x80 then psqDep es i off sub v
    else if off < 0xA0 then buDep view i off sub v
    else if off < 0xC0 then mseDep es i off sub v
    else if off < 0xE0 then dspDep es i off sub v
    else trigDep view i off sub v
  | .region _ _ => true
  | .chip ix =>
    if ix < 0x2200 then clockDep view ix sub v
    else if ix < 0x2600 then thermalDep view ix sub
    else if ix < 0x2800 then mitDep view ix sub v
    else spmDep view ix sub v
  | .nowhere => true

/-- The subindices that those dependencies read (R291). -/
def depReads (addr v : Nat) : List Nat :=
  let sub := subOf addr
  match placeOf (indexOf addr) with
  | .site i off =>
    if off < 0x60 then pinReads i off sub v
    else if off < 0xA0 then buReads i off sub
    else trigReads i off sub v ++ tdcReads i off sub v
  | .region _ _ => []
  | .chip ix =>
    if ix = 0x2103 ∧ sub = 1 ∧ v = 1 then [addrOf 0x2120 3]
    else if ix = 0x2500 then (List.range 4).map fun k => addrOf 0x2500 (k + 1)
    else if (ix = 0x2701 ∧ sub = 1) ∨ ix = 0x2702 ∨ ix = 0x2703 then
      addrOf 0x2701 1 :: (List.range 8).map (fun k => addrOf 0x2702 (k + 1)) ++ (List.range 16).map fun k => addrOf 0x2703 (k + 1)
    else if 0x2801 ≤ ix ∧ ix ≤ 0x2803 then
      [addrOf 0x2801 1, addrOf 0x2802 1, addrOf 0x2802 2, addrOf 0x2803 1, addrOf 0x2803 2]
    else []
  | .nowhere => []

/-- What a safe-state force of the same cycle overrides (R21): engine starts and the requests that it does not leave. -/
def State.overridden (s : State) (addr v : Nat) : Bool :=
  match placeOf (indexOf addr) with
  | .site i off =>
    s.safeNow i &&
      if subOf addr = 1 ∧ (off = 0x60 ∨ off = 0xA0) then v == 1
      else if subOf addr = 1 ∧ off = 0 then
        match stateReqOf v with
        | some r => s.reqOverridden i r
        | none => false
      else false
  | _ => false

/-- Writes that would move an output, or start an engine, of a site that the same cycle forces into SAFE (R21). -/
def State.movesOutput (s : State) (addr v : Nat) : Bool :=
  match placeOf (indexOf addr) with
  | .site i off => s.safeNow i && (s.overridden addr v || (0x20 ≤ off && decide (off ≤ 0x23)) || (0x80 ≤ off && decide (off ≤ 0x83)))
  | _ => false

/-- The state checks of one write (R290 item 2), which the commit cycle repeats (R292). -/
def State.stateCheck (s : State) (view : View) (es : List Entry) (at_ : CheckAt) (addr v : Nat) : Dstat :=
  let sub := subOf addr
  if s.darkAddr addr then 8
  else match placeOf (indexOf addr) with
  | .site i off =>
    if off < 0x20 then s.siteCheck view i off sub v at_
    else if off < 0x60 then (if off = 0x50 ∧ (s.siteState i = .running ∨ at_ != .commit && startsEngine es i) then 8 else 0)
    else if off < 0x80 then s.psqCheck view es i off sub v
    else if off < 0xA0 then s.buCheck view i off sub v
    else if off < 0xC0 then s.mseCheck i off sub v
    else if off < 0xE0 then s.dspCheck i off sub v
    else
      let d := s.trigCheck i off sub v
      if d = 0 then s.tdcCheck (view (siteAddr i 0xE8 2)) i off sub v else d
  | .region q off => s.testCheck q off sub v
  | .chip ix =>
    if ix < 0x2000 then canCheck view ix sub v
    else if ix < 0x2200 then s.clockCheck es ix v
    else if ix < 0x2300 then s.flCheck ix sub v
    else if ix = 0x2402 ∧ sub = 1 then (if s.ackOk v then 0 else 8)
    else if isTrimAddr addr then (if s.trimBusy addr then 8 else 0)
    else if ix = 0x2600 ∧ sub = 1 then s.calCtrlCheck v
    else s.spmCheck ix
  | .nowhere => 0

/-- The check of one write: dependencies once, state checks again in the commit cycle, where entries of the log are reserved
already (R290, R292). What a force of the same cycle overrides is not refused (R21). -/
def State.entryCheck (s : State) (view : View) (es : List Entry) (at_ : CheckAt) (e : Entry) : Dstat :=
  if at_ != .commit && !s.darkAddr e.1 && !depOk view es e.1 e.2 then 7
  else if at_.lands && s.overridden e.1 e.2 then 0
  else
    let d := s.stateCheck view es at_ e.1 e.2
    if at_ == .commit && d == 11 then 0 else d

/-- The first write that fails, with its code. -/
def State.firstFail (s : State) (view : View) (all : List Entry) (at_ : CheckAt) : List Entry → Option (Dstat × Nat)
  | [] => none
  | e :: es =>
    let d := s.entryCheck view all at_ e
    if d = 0 then s.firstFail view all at_ es else some (d, e.1)

/-! ## The log's share (R43, R44) -/

/-- Attribute A of a subindex that is written. -/
def isAddrA (addr : Nat) : Bool :=
  match rowAt addr with
  | some (r, _) => r.isA
  | none => false

/-- Bits set among the first thirteen. -/
def bits13 (v : Nat) : Nat := ((List.range 13).filter (bitOf v)).length

/-- Assize entries that a write produces. -/
def State.entryLogs (s : State) (view : View) (e : Entry) : Nat :=
  let sub := subOf e.1
  match placeOf (indexOf e.1) with
  | .site i off =>
    if off = 0xE8 ∧ sub = 1 then
      let mask := view (siteAddr i 0xE8 2)
      match e.2 with
      | 1 => if (s.site i).tdc.run = .idle then bits13 (mask % 256) else 0
      | 2 => bits13 mask
      | 3 => bits13 mask
      | 4 => bits13 (mask / 256 * 256)
      | _ => 0
    else if off = 0xA5 ∧ sub = 2 then 1
    else if off = 0xC6 ∧ sub = 3 then
      (if xipDmem e.2 then b2n (touchesTable (s.tableWords i) (s.siteCfg i 0xC6 2) (xipUnits e.2)) else 1)
    else 0
  | .region q off =>
    if off = 0x40 ∧ sub = 1 then spareEntries (s.regionCfg q 0x40 1) e.2
    else if off = 0x41 then s.testEntries (localSite q sub) e.2
    else 0
  | .chip ix => if (ix = 0x2010 ∧ sub = 1) ∨ isAddrA e.1 then 1 else 0
  | .nowhere => 0

/-- Assize entries that a set of writes produces (R305, R436). -/
def State.txnLogs (s : State) (es : List Entry) (overlays : List OverlayApp) : Nat :=
  (es.map (s.entryLogs (s.viewOf es))).sum + overlays.length

/-- LOG_FULL, at the first write that the log records (R44). -/
def State.logFail (s : State) (es : List Entry) (overlays : List OverlayApp) : Option (Dstat × Nat) :=
  if s.aszTakes (s.txnLogs es overlays) then none
  else
    match es.find? fun e => s.entryLogs (s.viewOf es) e != 0 with
    | some e => some (11, e.1)
    | none => some (11, addrOf 0x2310 1)

/-- The checks of a set of writes at one of the three occasions: the first write that fails, with its code. -/
def State.checkFail (s : State) (at_ : CheckAt) (es : List Entry) (overlays : List OverlayApp) : Option (Dstat × Nat) :=
  match s.firstFail (s.viewOf es) es at_ es with
  | some f => some f
  | none => s.logFail es overlays

/-- The checks of R290. -/
def State.prepareFail (s : State) (es : List Entry) (overlays : List OverlayApp) : Option (Dstat × Nat) :=
  s.checkFail .prepare es overlays

/-- A write that queues an XIP transfer (R359). -/
def queuesXip (e : Entry) : Bool :=
  match placeOf (indexOf e.1) with
  | .site _ off => (off == 0x66 && fillXip e.2) || (off == 0xA5 && subOf e.1 == 2) || (off == 0xC6 && subOf e.1 == 3)
  | _ => false

/-- XIP transfers that a set of writes queues. -/
def xipCount (es : List Entry) : Nat := (es.filter queuesXip).length

/-- The first transfer for which the queue, holding `n`, has no room. -/
def xipFail (n : Nat) (es : List Entry) : Option (Dstat × Nat) :=
  if n + xipCount es ≤ 64 then none else ((es.filter queuesXip)[64 - n]?).map fun e => (8, e.1)

/-- The state checks of the apply cycle (R292), with `n` transfers queued before. -/
def State.applyFail (s : State) (n : Nat) (es : List Entry) : Option (Dstat × Nat) :=
  match s.firstFail (s.viewOf es) es .commit es with
  | some f => some f
  | none => xipFail n es

/-- The dependency set of a group (R291): what its checks read and it does not stage. -/
def depSet (es : List Entry) : List Nat :=
  ((es.flatMap fun e => depReads e.1 e.2).filter fun a => !es.any fun e => e.1 == a).eraseDups

/-! ## The end of a group -/

/-- Numbers of FAIL_PHASE. -/
def FailPhase.code : FailPhase → Nat
  | .none => 0 | .prepare => 1 | .changed => 2 | .commitCycle => 3 | .late => 4 | .vote => 5 | .deadline => 6 | .timeout => 7
  | .coordAbort => 8

/-- Group states, Table 13.1. -/
def GroupState.code : GroupState → Nat
  | .free => 0 | .opened => 1 | .preparing => 2 | .prepared => 3 | .scheduled => 4 | .committed => 5 | .failed => 6 | .aborted => 7

/-- A group that is held (R286). -/
def GroupState.held (g : GroupState) : Bool := g == .opened || g == .preparing || g == .prepared || g == .scheduled

/-- P0 of a TXN packet (Table 14.4). -/
def txnWord (msg g result dstat addr : Nat) : BitVec 64 :=
  BitVec.ofNat 64 (at_ msg 56 + at_ g 52 + at_ result 48 + at_ dstat 40 + at_ addr 16)

/-- TXN_XCHIP of a group. -/
def State.xchip (s : State) (g : Nat) : Nat := s.cfg 0x2303 g

/-- ROLE: 0 LOCAL, 1 PARTICIPANT, 2 COORDINATOR. -/
def State.role (s : State) (g : Nat) : Nat := field (s.xchip g) 1 0

/-- COORD. -/
def State.coord (s : State) (g : Nat) : Nat := field (s.xchip g) 23 8

/-- OUTCOME of a participant's group to its coordinator (R299). -/
def State.sendOutcome (s : State) (g : Nat) (result : Nat) (applied : BitVec 64) : State :=
  let gr := s.group g
  s.sendChip 3 (s.coord g) [txnWord 5 g result gr.failDstat gr.failAddr, applied]

/-- A group ends FAILED or ABORTED: nothing is applied, reservations are released, an OUTCOME that is owed goes out. -/
def State.groupEnd (s : State) (g : Nat) (st : GroupState) (ph : FailPhase) (dstat addr : Nat) : State :=
  let owed := (s.group g).remote
  let s := s.modGroup g fun r =>
    let r : Group := { r with state := st, failPhase := ph, failDstat := dstat, failAddr := addr, due := none, deps := [],
                              reserved := 0, abortWaits := none, abortLate := false, deadline := none, remote := false }
    if st = .aborted then { r with entries := [], overlays := [] } else r
  let s := if owed then s.sendOutcome g (if st = .failed then 1 else 2) 0 else s
  s.aszWatch

/-- Numbers of groups 1–15. -/
def groupNums : List Nat := (List.range 15).map (· + 1)

/-- Writes applied at `addrs` fail the PREPARED and SCHEDULED groups whose checks read one of them (R291); a group whose own
apply cycle this is stays. -/
def State.groupsChanged (s : State) (addrs : List Nat) : State :=
  s.forEach groupNums fun g s =>
    let r := s.group g
    if r.state = .prepared ∨ r.state = .scheduled ∧ ¬ s.groupDue r then
      match r.deps.filter addrs.contains with
      | [] => s
      | a :: as => s.groupEnd g .failed .changed 7 (as.foldl min a)
    else s

/-! ## Application (R295) -/

/-- A write that takes effect, with the value that it replaces. -/
structure Applied where
  ctx  : Ctx
  addr : Nat
  old  : Nat
  v    : Nat
  deriving DecidableEq, Repr

/-- A subindex that holds what is written to it. -/
def holdsValue (addr : Nat) : Bool :=
  match rowAt addr with
  | some (r, _) => r.acc == .rw && addr != addrOf 0x1003 0 && addr != addrOf 0x2902 1 && indexOf addr != 0x2302
  | none => false

/-- The value stands; a MODE equal to the active mode changes nothing (R61). -/
def State.stored (s : State) (w : Applied) : State :=
  if holdsValue w.addr ∧ ¬ (w.addr = addrOf 0x2100 1 ∧ decide (w.v = 1) = s.pll.economy) then s.setVal w.addr w.v else s

/-- What a committed write starts, by the chapter that owns the subindex. -/
def State.chipEffect (s : State) (w : Applied) (ix sub : Nat) : State :=
  if ix < 0x2000 then s.canEffect ix sub
  else if ix < 0x2200 then s.clockEffect ix sub
  else if ix < 0x2300 then s.flEffect ix sub w.v
  else if ix = 0x2302 then s.modGroup sub fun r => { r with t := BitVec.ofNat 52 w.v, tEpoch := 0 }
  else if ix = 0x2402 then s.gtAckCmd sub w.v
  else if ix = 0x2502 then (if sub = 0x41 then s.shutAck w.v else s)
  else if ix = 0x2505 then (if sub = 0x41 then s.sensorClear w.v else s)
  else if isTrimAddr w.addr then s.trimEffect w.addr
  else if ix = 0x2600 ∧ sub = 1 then
    match w.v with
    | 1 => s.calRequest
    | 2 => s.calCancel
    | 3 => s.calSweep
    | _ => s
  else if 0x2700 ≤ ix ∧ ix < 0x2800 then s.mitEffect ix sub w.old w.v
  else if ix < 0x2900 then s.spsEffect ix w.old w.v
  else if ix < 0x2A00 then s.aszEffect ix w.v
  else if ix = 0x2A01 then s.markMapEffect sub w.old
  else s

/-- What a committed write starts. -/
def State.effect (s : State) (w : Applied) : State :=
  let sub := subOf w.addr
  match placeOf (indexOf w.addr) with
  | .site i off =>
    if s.overridden w.addr w.v then
      let s := if off = 0x00 then s.reqResult i .overriddenSafe else s
      s.setVal w.addr 0
    else if off < 0x20 then (if off = 0x00 ∧ sub = 1 then s.siteRequest i w.v else s)
    else if off = 0x21 then s.threshMeet i (Fin.ofNat 8 (sub - 1))
    else if off < 0x60 then s.pinEffect i off sub w.old w.v
    else if off < 0x80 then s.psqEffect i off sub w.old w.v w.ctx
    else if off < 0xA0 then s.buEffect i off sub w.old w.v
    else if off < 0xC0 then s.mseEffect i off sub w.v
    else if off < 0xE0 then s.dspEffect i off sub w.v
    else (s.tdcEffect i off sub w.v w.ctx.src).trigEffect i off sub w.old w.v
  | .region q off => (s.slotEffect q off sub w.old w.v).testEffect q off sub w.old w.v
  | .chip ix => s.chipEffect w ix sub
  | .nowhere => s

/-- One overlay application (R305): generation, LAST, entry. -/
def State.overlayApplied (s : State) (src : Source) (o : OverlayApp) : State :=
  let gen := s.commit.generation + 1
  let s := { s with commit := { s.commit with
    generation := gen, last := BitVec.ofNat 64 (o.id.toNat + at_ o.slot 16 + at_ o.crc.toNat 32) } }
  s.aszEntry 0x010 src .chip (o.slot + at_ o.id.toNat 16 + at_ o.crc.toNat 32 + at_ gen.toNat 64)

/-- Puts a write at its place in ascending order of address; of two writes of one subindex the later one stands. -/
def insertApplied (w : Applied) : List Applied → List Applied
  | [] => [w]
  | x :: xs => if w.addr < x.addr then w :: x :: xs else if w.addr = x.addr then w :: xs else x :: insertApplied w xs

/-- The writes of a cycle in ascending order of address. -/
def appliedOrder (ws : List Applied) : List Applied := ws.foldl (fun acc w => insertApplied w acc) []

/-- The entries of a transaction in the log: OVERLAY, WAFER, CHANGE (R432). -/
def State.logTxn (s : State) (t : Txn) (ws : List Applied) : State :=
  let s := s.forEach t.overlays fun o s => s.overlayApplied t.ctx.src o
  let s := match ws.find? fun w => w.addr == addrOf 0x2010 1 with
    | some w => s.aszEntry 0x002 t.ctx.src .chip w.v
    | none => s
  s.forEach (ws.filter fun w => isAddrA w.addr) fun w s =>
    s.aszChange w.ctx.src w.addr (match rowAt w.addr with | some (r, _) => r.ty.byteLen | none => 0) w.old w.v

/-- The sites whose blocks a set of writes touches. -/
def sitesWritten (es : List Entry) : List (Fin 64) :=
  allSites.filter fun i => es.any fun e => match placeOf (indexOf e.1) with
    | .site j _ => i == j
    | _ => false

/-- COMMIT marks of a group (R281, R295). -/
def State.commitMarks (s : State) (t : Txn) : State :=
  if t.ctx.group = 0 then s
  else s.forEach (sitesWritten t.entries) fun i s =>
    s.queueMark i 0x06 s.cycle (t.ctx.group + at_ s.commit.generation.toNat 16)

/-- The writes of a transaction beside the values that `s` holds. -/
def State.appliedBy (s : State) (t : Txn) : List Applied :=
  t.entries.map fun e => { ctx := t.ctx, addr := e.1, old := s.val e.1, v := e.2 }

/-- The host's single-write transaction of the present CK_SEQ cycle wrote the subindex. -/
def State.justWritten (s : State) (addr : Nat) : Bool := s.access.cycle == some s.cycle && s.access.wrote.contains addr

/-- A group that applied in the present CK_SEQ cycle wrote the subindex (R308). -/
def State.outranked (s : State) (addr : Nat) : Bool :=
  groupNums.any fun g =>
    let r := s.group g
    s.applying r && r.entries.any fun e => e.1 == addr

/-- A single-write transaction or an MSE COMMIT yields to the groups applied in its cycle: their values stand (R203, R308). -/
def State.yields (s : State) (t : Txn) : Txn :=
  if t.ctx.group = 0 then { t with entries := t.entries.filter fun e => !s.outranked e.1 } else t

/-- The transactions of one cycle take effect together (R295, R308): every value stands, the log records them, and their
effects follow in ascending order of address. -/
def State.applyTxns (s : State) (ts : List Txn) : State :=
  let ts := ts.map s.yields
  let ws := ts.flatMap s.appliedBy
  let t0 := s
  let s := s.planesKept (ws.map (·.addr))
  let s := s.forEach ws fun w s => s.stored w
  let s := s.forEach ts fun t s => s.logTxn t (appliedOrder (t0.appliedBy t))
  let s := s.forEach (appliedOrder ws) fun w s => s.effect w
  let s := s.groupsChanged (ws.map (·.addr))
  s.forEach ts fun t s => s.commitMarks t

/-! ## Single-write transactions (group 0, R39) -/

/-- A group that fails in its apply cycle: its requests read GROUP_FAILED (R29). -/
def State.requestsFail (s : State) (es : List Entry) : State :=
  s.forEach (allSites.filter fun i => es.any fun e => e.1 == siteAddr i 0x00 1 && (stateReqOf e.2).isSome) fun i s =>
    s.reqTurned i .groupFailed

/-- A refused set of writes: every site whose own request does not pass its check reads REFUSED_PREPARE (R29). -/
def State.refusedAt (s : State) (at_ : CheckAt) (es : List Entry) : State :=
  s.forEach (allSites.filter fun i => es.any fun e =>
      e.1 == siteAddr i 0x00 1 && (stateReqOf e.2).isSome && s.entryCheck (s.viewOf es) es at_ e != 0) fun i s =>
    s.reqTurned i .refusedPrepare

/-- A single-write transaction: what a group of the same cycle has written is left out (R308), the rest is checked at acceptance
and applied at once (R39, R40). Answers DSTAT. -/
def State.single (s : State) (src : Source) (es : List Entry) (overlays : List OverlayApp) : State × Dstat :=
  let es := es.filter fun e => !s.outranked e.1
  match s.checkFail .single es overlays with
  | some (d, _) => (s.refusedAt .single es, d)
  | none =>
    match xipFail s.spm.queue.length es with
    | some (d, _) => (s, d)
    | none =>
      let s := s.applyTxns [{ ctx := { src := src, group := 0, timed := none }, entries := es, overlays := overlays }]
      match src with
      | .iface _ => ({ s with access := { s.access with wrote := es.map (·.1) } }, 0)
      | _ => (s, 0)

end Sys2Proof.Machine
end

