-- ==== Sys2Proof/Machine/Accept.lean ====
section
/-! DEFINITION. Acceptance of writes (R40, R46, R52) and the images of overlays (R302, R303). -/
namespace Sys2Proof.Machine

/-- A refusal, by its DSTAT, or an accepted result. -/
inductive Checked (α : Type) where
  | refused (d : Dstat)
  | ok (a : α)
  deriving DecidableEq, Repr

/-- The DSTAT of a subindex that no row serves: NO_OBJECT or NO_SUB (R55). -/
def missing (addr : Nat) : Dstat := if (objectAt (indexOf addr)).isNone then 1 else 2

/-- The value that a write of `v` leaves: reserved bits read 0 (R11); none when an encoding is reserved (R12). -/
def State.acceptValue (s : State) (r : SubRow) (addr v : Nat) : Checked Nat :=
  let d := r.defined v
  if r.inRange d && s.rangeOk addr d then .ok d else .refused 6

/-- The acceptance of a write that carries its value in 32-bit words (R40, R46). -/
def State.accept (s : State) (addr : Nat) (ws : List Word) : Checked Nat :=
  match rowAt addr with
  | none => .refused (missing addr)
  | some (r, _) =>
    match r.acc with
    | .ro => .refused 3
    | .const => .refused 3
    | _ =>
      if r.ty.isDomain || ws.length != r.ty.words then .refused 5
      else if 2 ^ (8 * r.ty.byteLen) ≤ natWords ws then .refused 6
      else s.acceptValue r addr (natWords ws)

/-- The acceptance of a run of writes: all of them, or the first refusal (R52). -/
def State.acceptAll (s : State) : List (Nat × List Word) → Checked (List Entry)
  | [] => .ok []
  | (a, ws) :: rest =>
    match s.accept a ws with
    | .refused d => .refused d
    | .ok v =>
      match s.acceptAll rest with
      | .refused d => .refused d
      | .ok es => .ok ((a, v) :: es)

/-! ## Images (Table 13.4) -/

/-- The entries of an image: address, length in bytes, value words. `fuel` bounds their number. -/
def imageEntries (fuel : Nat) (ws : List Nat) : Option (List (Nat × Nat × List Word)) :=
  match fuel, ws with
  | _, [] => some []
  | 0, _ => none
  | fuel + 1, w :: rest =>
    let len := w % 256
    let n := max 1 ((len + 3) / 4)
    if rest.length < n then none
    else match imageEntries fuel (rest.drop n) with
      | none => none
      | some es => some ((w / 256, len, (rest.take n).map (BitVec.ofNat 32)) :: es)

/-- The fields of an image's header. -/
def imageId (bs : List Byte) : Nat := natLE ((bs.drop 4).take 2)
def imageCount (bs : List Byte) : Nat := natLE ((bs.drop 6).take 2)
def imageLength (bs : List Byte) : Nat := natLE ((bs.drop 8).take 4)
def imageCrc (bs : List Byte) : Nat := natLE ((bs.drop 12).take 4)

/-- MAGIC, FORMAT, LENGTH and CRC of an overlay image are right (R303). -/
def imageSound (bs : List Byte) : Bool :=
  decide (16 ≤ bs.length) && natLE (bs.take 2) == 0x4F56 && natLE ((bs.drop 2).take 1) == 1 && imageLength bs == bs.length &&
    decide (bs.length ≤ 4096) && bs.length % 4 == 0 && imageCrc bs == (crc32 (bs.drop 16)).toNat

/-- The entries of an overlay image whose header is right, none where they do not parse or COUNT is wrong. -/
def imageParsed (bs : List Byte) : Option (List (Nat × Nat × List Word)) :=
  if imageSound bs then
    match imageEntries bs.length (byteGroups 4 (bs.drop 16)) with
    | some es => if es.length = imageCount bs then some es else none
    | none => none
  else none

/-- No address stands twice. -/
def noRepeat : List Nat → Bool
  | [] => true
  | a :: as => !as.contains a && noRepeat as

/-- Why an entry of an image is refused (R303): NO_OBJECT, NO_SUB, DEPENDENCY without T, LENGTH, RANGE. -/
def State.imageEntry (s : State) (e : Nat × Nat × List Word) : Checked Entry :=
  match rowAt e.1 with
  | none => .refused (missing e.1)
  | some (r, _) =>
    if !r.isT then .refused 7
    else if e.2.1 ≠ r.ty.byteLen then .refused 5
    else match s.accept e.1 e.2.2 with
      | .refused d => .refused d
      | .ok v => .ok (e.1, v)

/-- The writes of an image, or the refusal of its first entry that is refused. -/
def State.imageWrites (s : State) : List (Nat × Nat × List Word) → Checked (List Entry)
  | [] => .ok []
  | e :: rest =>
    match s.imageEntry e with
    | .refused d => .refused d
    | .ok w =>
      match s.imageWrites rest with
      | .refused d => .refused d
      | .ok ws => .ok (w :: ws)

/-- The writes that an overlay image names. -/
def State.overlayWrites (s : State) (bs : List Byte) : Checked (List Entry) :=
  match imageParsed bs with
  | none => .refused 6
  | some es => if noRepeat (es.map (·.1)) then s.imageWrites es else .refused 6

/-- The image of slot 1–17; empty when none is stored. -/
def State.slotImage (s : State) (k : Nat) : List Byte := vgetN s.commit.store (k - 1) []

/-- A record of the slot waits for RNVM or is being written. -/
def State.slotBusy (s : State) (k : Nat) : Bool :=
  s.nvm.jobs.any fun j => match j with
    | .overlay n _ => n == k
    | _ => false

/-- DIR.VALID of a slot: an image is stored, and for slots 1–16 RNVM holds it. -/
def State.slotValid (s : State) (k : Nat) : Bool := imageSound (s.slotImage k) && (k == 17 || s.nvm.readable)

/-- Why a write of a slot is refused (R303). An apply is served whole, so none is in progress here. -/
def State.storeSlotCheck (s : State) (bs : List Byte) : Dstat :=
  match s.overlayWrites bs with
  | .refused d => d
  | .ok _ => 0

/-- A slot takes an image: slot 17 at once, the others when their record is written (R449). -/
def State.storeSlotLand (s : State) (k : Nat) (bs : List Byte) : State :=
  if k = 17 then { s with commit := { s.commit with store := s.commit.store.set 16 bs } }
  else s.queueNvm (.overlay k bs)

/-- The applications that a slot's image stands for (R305). -/
def State.slotApp (s : State) (k : Nat) : OverlayApp :=
  let bs := s.slotImage k
  { slot := k, id := BitVec.ofNat 16 (imageId bs), crc := BitVec.ofNat 32 (imageCrc bs) }

end Sys2Proof.Machine
end

