-- ==== Sys2Proof/Machine/Groups.lean ====
section
/-! DEFINITION. Groups (R286–R301): commands, preparation, the apply cycle, timeouts, messages across chips; the base image. -/
namespace Sys2Proof.Machine

/-! ## Commands of TXN_CTRL -/

/-- The group that an interface owns in state OPEN (R287). -/
def State.openGroup (s : State) (iface : Iface) : Option Nat :=
  groupNums.find? fun g => (s.group g).state == .opened && (s.group g).owner == some iface

/-- STATE of a group as it stands in the present CK_SEQ cycle: SCHEDULED still in the apply cycle (Table 13.2). -/
def State.groupState (s : State) (r : Group) : GroupState := if s.applying r then .scheduled else r.state

/-- DSTAT of a command for a held group from `iface`: NOT_OWNER from another interface (R288). -/
def State.ownerCheck (s : State) (iface : Iface) (g : Nat) : Dstat :=
  let r := s.group g
  if (s.groupState r).held && r.owner != some iface then 9 else 0

/-- A command from the owner of a held group restarts its timeout (R298). -/
def State.heardFrom (s : State) (iface : Iface) (g : Nat) : State :=
  s.modGroup g fun r => if r.state.held && r.owner == some iface then { r with heard := s.clock } else r

/-- OPEN (R287). -/
def State.txnOpen (s : State) (iface : Iface) (g : Nat) : State × Dstat :=
  let r := s.group g
  if (s.groupState r).held then (s, if r.owner = some iface then 8 else 9)
  else if (s.openGroup iface).isSome then (s, 8)
  else
    (s.modGroup g fun r =>
      { Group.reset with state := .opened, owner := some iface, t := r.t, appliedAt := r.appliedAt, failAddr := r.failAddr,
                         votesYes := r.votesYes, votesNo := r.votesNo, heard := s.clock }, 0)

/-- DEADLINE of a coordinator's group, in grains. -/
def State.xDeadline (s : State) (g : Nat) : Nat := field (s.xchip g) 63 48 * usGrains

/-- A TXN message of the coordinator to every chip. -/
def State.sendAll (s : State) (msg g : Nat) (w : BitVec 64) : State := s.sendChip 3 0xFFFF [txnWord msg g 0 0 0, w]

/-- PREPARE (R290); a coordinator also sets D and broadcasts it (R300). -/
def State.txnPrepare (s : State) (iface : Iface) (g : Nat) : State × Dstat :=
  let d := s.ownerCheck iface g
  if d ≠ 0 then (s, d)
  else if (s.group g).state ≠ .opened ∨ s.role g = 1 then (s, 8)
  else
    let s := s.modGroup g fun r => { r with state := .preparing, prepFrom := s.cycle }
    if s.role g = 2 then
      let t := addGrains s.clock (s.xDeadline g)
      ((s.modGroup g fun r => { r with deadline := some t, votesYes := 0, votesNo := 0 }).sendAll 1 g (time64 t), 0)
    else (s, 0)

/-- The start of the second CK_SEQ cycle after the present one (R293). -/
def State.asapCycle (s : State) : Time := s.cyclesOn 2

/-- The vote and the deadline that a coordinator's COMMIT needs (R300). -/
def State.votesIn (s : State) (g : Nat) : Bool :=
  let r := s.group g
  decide (field (s.xchip g) 47 32 ≤ r.votesYes) &&
    match r.deadline with
    | some t => before s.clock (addGrains t (-(s.latencyBudget : Int)))
    | none => false

/-- The group is SCHEDULED for `due`; TXN_COMMIT_TIME reads the epoch of T once T is resolved (R293). -/
def State.schedule (s : State) (g : Nat) (due : ApplyTime) (epoch : Nat) (late : Bool) : State :=
  s.modGroup g fun r => { r with state := .scheduled, due := some due, tEpoch := BitVec.ofNat 12 epoch, lateApplied := late }

/-- COMMIT (R293, R294). -/
def State.txnCommit (s : State) (iface : Iface) (g : Nat) (asap applyLate : Bool) : State × Dstat :=
  let d := s.ownerCheck iface g
  if d ≠ 0 then (s, d)
  else if (s.group g).state ≠ .prepared ∨ s.role g = 1 ∨ (s.role g = 2 ∧ ¬ s.votesIn g) then (s, 8)
  else
    let cyc := s.asapCycle
    if asap then
      let s := if s.role g = 2 then s.sendAll 3 g (time64 cyc) else s
      (s.schedule g (.asap cyc) 0 false, 0)
    else
      let t := resolve52 s.clock (s.group g).t.toNat
      if 5120 ≤ span s.clock t then
        let s := if s.role g = 2 then s.sendAll 3 g (time64 t) else s
        (s.schedule g (.at t) (epochOf t) false, 0)
      else if applyLate ∧ s.role g ≠ 2 then (s.schedule g (.asap cyc) (epochOf t) true, 0)
      else (s, 8)

/-- What an ABORT does to a group (R297, R299): it waits for the end of PREPARING, and is too late in or after the apply cycle. -/
def State.abortGroup (s : State) (g : Nat) (ph : FailPhase) : State :=
  let r := s.group g
  if r.state = .preparing then s.modGroup g fun r => { r with abortWaits := some ph }
  else if r.state = .committed ∨ s.groupDue r then s.modGroup g fun r => { r with abortLate := true }
  else if r.state.held then s.groupEnd g .aborted ph 0 0
  else s

/-- ABORT (R297); a coordinator broadcasts it (R300). DEDUCED (log entry 1302): also for its group that has FAILED. -/
def State.txnAbort (s : State) (iface : Iface) (g : Nat) : State × Dstat :=
  let r := s.group g
  let kept := r.state.held || r.state == .committed
  if kept ∧ r.owner ≠ some iface then (s, 9)
  else if kept ∧ s.role g = 1 ∧ r.state ≠ .opened then (s, 8)
  else ((if s.role g = 2 ∧ r.owner = some iface then s.sendAll 4 g 0 else s).abortGroup g .none, 0)

/-- A command of TXN_CTRL (Table 13.6). -/
def State.txnCommand (s : State) (iface : Iface) (v : Nat) : State × Dstat :=
  let g := field v 3 0
  let s := s.heardFrom iface g
  match field v 11 8 with
  | 1 => s.txnOpen iface g
  | 2 => s.txnPrepare iface g
  | 3 => s.txnCommit iface g (bitOf v 12) (bitOf v 13)
  | 4 => s.txnAbort iface g
  | _ => (s, 6)

/-- Stages writes in a group, whole or not at all (R289). -/
def State.stage (s : State) (g : Nat) (es : List Entry) (overlays : List OverlayApp) : State × Dstat :=
  let put (l : List Entry) (e : Entry) : List Entry :=
    if l.any fun x => x.1 == e.1 then l.map fun x => if x.1 = e.1 then e else x else l ++ [e]
  let l := es.foldl put (s.group g).entries
  if 4096 < l.length then (s, 8)
  else (s.modGroup g fun r => { r with entries := l, overlays := r.overlays ++ overlays, heard := s.clock }, 0)

/-! ## Preparation -/

/-- VOTE of a participant (R299). -/
def State.sendVote (s : State) (g : Nat) (no : Bool) (dstat addr : Nat) : State :=
  if (s.group g).remote then s.sendChip 3 (s.coord g) [txnWord 2 g (b2n no) dstat addr, 0] else s

/-- The end of PREPARING: 16 CK_SEQ cycles and one for each entry (R290). -/
def State.prepEnd (s : State) (r : Group) : Time := addGrains r.prepFrom ((16 + r.entries.length) * s.seqLen : Nat)

/-- PREPARE_DONE (R290): PREPARING ends with an ABORT that waited, with a failed check, or PREPARED. -/
def execPrepareDone (g : Fin 15) (s : State) : Host.Outcome State Fault Refusal :=
  let n := g.val + 1
  let r := s.group n
  if r.state = .preparing then
    let s := s.advance (s.prepEnd r)
    match r.abortWaits with
    | some ph => .next (s.groupEnd n .aborted ph 0 0)
    | none =>
      match s.prepareFail r.entries r.overlays with
      | some (d, a) => .next (((s.refusedAt .prepare r.entries).sendVote n true d a).groupEnd n .failed .prepare d a)
      | none =>
        let k := s.txnLogs r.entries r.overlays
        let s := s.modGroup n fun r => { r with state := .prepared, deps := depSet r.entries, reserved := k }
        .next ((s.sendVote n false 0 0).aszWatch)
  else .next s

/-! ## The apply cycle -/

/-- The earliest of the cycles in which groups are due. -/
def State.nextApply (s : State) : Option Time :=
  groupNums.foldl (fun acc g =>
    match acc, s.dueCycle (s.group g) with
    | some a, some b => some (if before b a then b else a)
    | none, x => x
    | a, none => a) none

/-- Groups due by now, rising. -/
def State.dueGroups (s : State) : List Nat := groupNums.filter fun g => s.groupDue (s.group g)

/-- The source of a group's writes. -/
def Group.source (r : Group) : Source :=
  match r.owner with
  | some i => .iface i
  | none => .device

/-- The transaction of a group applied in the cycle `cyc`. -/
def State.groupTxn (s : State) (g : Nat) (cyc : Time) : Txn :=
  let r := s.group g
  let timed := match r.due with
    | some (.at t) => if s.cycleAt t = cyc then some t else none
    | _ => none
  { ctx := { src := r.source, group := g, timed := timed }, entries := r.entries, overlays := r.overlays }

/-- The state checks of the groups due, in ascending order, each against the state at the start of the cycle; `n` counts the
XIP transfers queued. A group that fails is left out with its code and address. -/
def State.applyChecks (s : State) (n : Nat) : List Nat → List (Nat × Option (Dstat × Nat))
  | [] => []
  | g :: gs =>
    let es := (s.group g).entries
    match s.applyFail n es with
    | some f => (g, some f) :: s.applyChecks n gs
    | none => (g, none) :: s.applyChecks (n + xipCount es) gs

/-- A group whose apply-cycle check fails (R292). -/
def State.groupRefused (s : State) (g : Nat) (d a : Nat) : State :=
  (s.requestsFail (s.group g).entries).groupEnd g .failed .commitCycle d a

/-- A group that has been applied (R295). -/
def State.groupApplied (s : State) (g : Nat) (cyc : Time) (forced : Bool) : State :=
  let owed := (s.group g).remote
  let s := s.modGroup g fun r =>
    { r with state := .committed, appliedAt := time64 cyc, appliedWas := r.appliedAt, applyCycle := some cyc,
             overridden := forced, due := none, deps := [], deadline := none,
             remote := false }
  if owed then s.sendOutcome g 0 (time64 cyc) else s

/-- TXN_APPLY (R292, R295, R308): the time base reaches the next apply cycle; every group due applies or fails whole. -/
def execTxnApply (s : State) : Host.Outcome State Fault Refusal :=
  match s.nextApply with
  | none => .next s
  | some t =>
    let s := s.advance t
    let cyc := s.cycle
    let checks := s.applyChecks s.spm.queue.length s.dueGroups
    let passed := (checks.filter fun c => c.2.isNone).map (·.1)
    let txns := passed.map fun g => s.groupTxn g cyc
    let forced := passed.map fun g => (g, (s.group g).entries.any fun e => s.movesOutput e.1 e.2)
    let s := s.forEach passed fun g s => s.modGroup g fun r => { r with reserved := 0 }
    let s := s.forEach checks fun c s => match c.2 with
      | some f => s.groupRefused c.1 f.1 f.2
      | none => s
    let s := s.applyTxns txns
    .next (s.forEach forced fun o s => s.groupApplied o.1 cyc o.2)

/-! ## Timeouts and deadlines -/

/-- TXN_TIMEOUT (R298): an OPEN or PREPARED group heard nothing from its owner for TIMEOUT ms. -/
def execTxnTimeout (g : Fin 15) (s : State) : Host.Outcome State Fault Refusal :=
  let n := g.val + 1
  let r := s.group n
  if s.cfg 0x2300 2 ≠ 0 ∧ (r.state = .opened ∨ (r.state = .prepared ∧ s.role n ≠ 1)) then
    .next ((s.advance (addGrains r.heard (s.cfg 0x2300 2 * msGrains : Nat))).groupEnd n .aborted .timeout 0 0)
  else .next s

/-- TXN_DEADLINE (R299): D passes with a participant's group still PREPARED. -/
def execTxnDeadline (g : Fin 15) (s : State) : Host.Outcome State Fault Refusal :=
  let n := g.val + 1
  let r := s.group n
  match r.deadline with
  | some t =>
    if r.state = .prepared ∧ s.role n = 1 then
      let s := s.advance t
      .next ((s.groupEnd n .aborted .deadline 0 0).presentObj .ofChip 0x72 0x2301 n)
    else .next s
  | none => .next s

/-- VOTE_DEADLINE (R300): D − FL_LATENCY_BUDGET passes with fewer than N_PART YES votes. -/
def execVoteDeadline (g : Fin 15) (s : State) : Host.Outcome State Fault Refusal :=
  let n := g.val + 1
  let r := s.group n
  match r.deadline with
  | some t =>
    if (r.state = .preparing ∨ r.state = .prepared) ∧ s.role n = 2 ∧ r.votesYes < field (s.xchip n) 47 32 then
      let s := s.advance (addGrains t (-(s.latencyBudget : Int)))
      .next ((s.sendAll 4 n 0).groupEnd n .failed .vote 0 0)
    else .next s
  | none => .next s

/-! ## Messages across chips (R299, R300) -/

/-- The oldest packet of a list that satisfies `f`, and the list without it. -/
def takeFirst (f : InPacket → Bool) : List InPacket → Option (InPacket × List InPacket)
  | [] => none
  | p :: ps => if f p then some (p, ps) else (takeFirst f ps).map fun r => (r.1, p :: r.2)

/-- The words of a consumed packet leave the receive buffer, and its credits go back (R315). -/
def State.credited (s : State) (p : InPacket) : State :=
  if p.credit then s.sendCredit p.port (vcOf p.packet.type) p.packet.words else s

/-- Takes the oldest packet received that satisfies `f`. -/
def State.takeInbox (s : State) (f : InPacket → Bool) : Option (InPacket × State) :=
  (takeFirst f s.furlong.inbox).map fun r => (r.1, ({ s with furlong := { s.furlong with inbox := r.2 } }).credited r.1)

/-- A word of a packet's payload; 0 beyond its end. -/
def InPacket.word (p : InPacket) (k : Nat) : Nat := (p.packet.payload.getD k 0).toNat

/-- A TXN packet with message `msg`. -/
def isTxn (msg : Nat) (p : InPacket) : Bool := p.packet.type == 3 && field (p.word 0) 63 56 == msg

/-- The group of a TXN packet. -/
def InPacket.group (p : InPacket) : Nat := field (p.word 0) 55 52

/-- A participant acts only on its coordinator's packets, for a group with ROLE = PARTICIPANT (R299). -/
def State.fromCoord (s : State) (p : InPacket) : Bool :=
  1 ≤ p.group && s.role p.group == 1 && p.packet.src == s.coord p.group

/-- XCHIP_PREPARE (R299): an OPEN group is prepared for its coordinator, with D. -/
def execXchipPrepare (s : State) : Host.Outcome State Fault Refusal :=
  match s.takeInbox (isTxn 1) with
  | none => .next s
  | some (p, s) =>
    if s.fromCoord p && (s.group p.group).state == .opened then
      .next (s.modGroup p.group fun r =>
        { r with state := .preparing, prepFrom := s.cycle, deadline := some (timeOf64 s.clock (BitVec.ofNat 64 (p.word 1))),
                 remote := true })
    else .next s

/-- XCHIP_COMMIT (R299): in time before D and 5,120 grains before T, or LATE. -/
def execXchipCommit (s : State) : Host.Outcome State Fault Refusal :=
  match s.takeInbox (isTxn 3) with
  | none => .next s
  | some (p, s) =>
    let g := p.group
    if s.fromCoord p && (s.group g).state == .prepared then
      let t := timeOf64 s.clock (BitVec.ofNat 64 (p.word 1))
      let early : Bool := match (s.group g).deadline with
        | some d => before p.time d
        | none => false
      if early ∧ 5120 ≤ span p.time t then
        .next ((s.schedule g (.at t) (epochOf t) false).modGroup g fun r => { r with t := BitVec.ofNat 52 (grains t) })
      else .next ((s.groupEnd g .failed .late 0 0).presentObj .ofChip 0x71 0x2301 g)
    else .next s

/-- XCHIP_ABORT (R299). -/
def execXchipAbort (s : State) : Host.Outcome State Fault Refusal :=
  match s.takeInbox (isTxn 4) with
  | none => .next s
  | some (p, s) =>
    .next (if s.fromCoord p then s.abortGroup p.group .coordAbort else s)

/-- XCHIP_VOTE (R300): the vote is counted; NO ends the transaction. -/
def execXchipVote (s : State) : Host.Outcome State Fault Refusal :=
  match s.takeInbox (isTxn 2) with
  | none => .next s
  | some (p, s) =>
    let g := p.group
    let st := (s.group g).state
    if s.role g = 2 ∧ 1 ≤ g ∧ (st = .preparing ∨ st = .prepared) then
      if field (p.word 0) 51 48 = 0 then .next (s.modGroup g fun r => { r with votesYes := satInc 0xFFFF r.votesYes })
      else
        let s := s.modGroup g fun r => { r with votesNo := satInc 0xFFFF r.votesNo }
        .next ((s.sendAll 4 g 0).groupEnd g .failed .vote 0 0)
    else .next s

/-- XCHIP_OUTCOME (R300): the outcome is held against the coordinator's own. -/
def execXchipOutcome (s : State) : Host.Outcome State Fault Refusal :=
  match s.takeInbox (isTxn 5) with
  | none => .next s
  | some (p, s) =>
    let g := p.group
    if s.role g = 2 ∧ 1 ≤ g ∧ (s.group g).state ≠ .free ∧ (s.group g).state ≠ .opened then
      .next (s.modGroup g fun r => { r with outcomes := r.outcomes ||| BitVec.ofNat 3 (2 ^ field (p.word 0) 51 48) })
    else .next s

/-- SPLIT (R300): an outcome received differs from the group's own. -/
def Group.split (r : Group) : Bool :=
  match r.state with
  | .committed => r.outcomes &&& 6 != 0
  | .failed => r.outcomes &&& 5 != 0
  | .aborted => r.outcomes &&& 3 != 0
  | _ => false

/-! ## Base image (R307) -/

/-- A subindex that the base image records: rw, no DOMAIN, and kept in no other area of RNVM (R13, R307). -/
def inBase (addr : Nat) : Bool :=
  match rowAt addr with
  | none => false
  | some (r, _) =>
    r.acc == .rw && !r.ty.isDomain && !isTrimAddr addr && indexOf addr != 0x2902 && indexOf addr != 0x2302 &&
      match placeOf (indexOf addr) with
      | .site _ off => off != 0x84
      | .region _ off => off != 0x42
      | _ => true

/-- TXN_COMMIT_TIME.T of the groups, which the Commit Unit holds, where it is not 0: rw and in no other area (R307). -/
def State.timeWrites (s : State) : List Entry :=
  (groupNums.map fun g => (addrOf 0x2302 g, (s.group g).t.toNat)).filter fun e => e.2 != 0

/-- The copy that a SAVE takes (R307, R471): applied values, and for what an OFF site withholds the base values in force. -/
def State.baseCopy (s : State) : List Entry :=
  (s.dict.filter fun e => inBase e.1 && !s.darkAddr e.1) ++ s.timeWrites ++
    s.commit.baseInForce.filter fun e => s.darkAddr e.1

/-- BASE_CFG.CMD: SAVE invalidates the image stored before it writes (R449). -/
def State.baseCommand (s : State) (iface : Iface) (v : Nat) : State × Dstat :=
  if v = 1 then
    if s.commit.saving.isSome then (s, 8)
    else if !s.aszTakes 1 then (s, 11)
    else ({ s with commit := { s.commit with saving := some (.iface iface, s.baseCopy), userBase := none, userCrc := 0 } }, 0)
  else ({ s with commit := { s.commit with userBase := none, userCrc := 0 } }, 0)

/-- BASE_SAVE_DONE (R307, R450): the image is stored, or its write has failed verification. -/
def execBaseSaveDone (ok : Bool) (s : State) : Host.Outcome State Fault Refusal :=
  match s.commit.saving with
  | none => .next s
  | some (src, image) =>
    let crc := Config.baseCrc image
    let s := { s with
      commit := { s.commit with
        saving := none, saveResult := if ok then 1 else 2, userBase := if ok then some image else none,
        userCrc := if ok then crc else 0 },
      nvm := if ok then { s.nvm with baseValid := true, writes := s.nvm.writes + 1 } else s.nvm }
    let s := if ok then s else s.presentObj .ofChip 0xC5 0x2320 2
    .next (s.aszEntry 0x011 src .chip (crc.toNat + at_ (if ok then 1 else 2) 32))

/-! ## Reads -/

/-- OWNER and OWNER_HOP of a group. -/
def ownerCode : Option Iface → Nat
  | none => 0
  | some .can => 1
  | some .sps => 2
  | some (.furlong h) => 3 + at_ h.toNat 4
  | some .csv => 4

/-- TXN_GROUP_STATUS, first word (Table 13.7). -/
def State.groupStatus (s : State) (r : Group) : Nat :=
  (s.groupState r).code + at_ (ownerCode r.owner) 4 + at_ r.entries.length 24 + at_ r.failDstat 40 + at_ r.failPhase.code 48 +
    at_ (b2n r.abortLate) 52 + at_ (b2n r.lateApplied) 53 + at_ (b2n r.stepped) 54 + at_ (b2n r.overridden) 55 +
    at_ (b2n r.split) 56 + at_ (b2n (r.overlays != [])) 57

/-- OVERLAY_GENERATION as it reads: what a group has added shows from the cycle after its apply cycle (Table 13.2). -/
def State.generationShown (s : State) : BitVec 16 :=
  s.commit.generation - BitVec.ofNat 16 (groupNums.map fun g =>
    let r := s.group g
    if s.applying r then r.overlays.length else 0).sum

/-- The status objects of chapter 13. -/
def State.commitRead (s : State) (index sub : Nat) : Option Nat :=
  if sub = 0 then none
  else match index with
  | 0x2301 =>
    if sub ≤ 15 then some (s.groupStatus (s.group sub))
    else
      let r := s.group (sub - 15)
      some (r.failAddr + at_ r.votesYes 32 + at_ r.votesNo 48)
  | 0x2302 =>
    if sub ≤ 15 then some ((s.group sub).t.toNat + at_ (s.group sub).tEpoch.toNat 52)
    else
      let r := s.group (sub - 15)
      some (if s.applying r then r.appliedWas else r.appliedAt).toNat
  | 0x2310 => if sub = 2 then some s.commit.last.toNat else none
  | 0x2311 => some s.generationShown.toNat
  | 0x2312 =>
    if 0x12 ≤ sub then
      let k := sub - 0x11
      if s.slotValid k then some (imageId (s.slotImage k) + 2 ^ 16 + at_ (imageCrc (s.slotImage k)) 32) else some 0
    else none
  | 0x2320 =>
    if sub = 2 then some (b2n s.commit.saving.isSome + at_ s.commit.saveResult 1 + at_ s.commit.userCrc.toNat 32) else none
  | _ => none

end Sys2Proof.Machine
end

