-- ==== Sys2Proof/Machine/Write.lean ====
section
/-! DEFINITION. Writes of the dictionary (R39–R46, R51–R54): the path that every interface uses, runs, DOMAIN transfers, and the
answer of an access. -/
namespace Sys2Proof.Machine

/-! ## Writes of numbered subindices -/

/-- The attribute T of an address. -/
def isAddrT (addr : Nat) : Bool :=
  match rowAt addr with
  | some (r, _) => r.isT
  | none => false

/-- Commands that the Commit Unit and the calibration scheduler serve by themselves, after the rest of their run: TXN_CTRL,
OVERLAY_ACTIVE, BASE_CFG, CAL_CTRL CMD = FACTORY. -/
def isCommand (e : Entry) : Bool :=
  e.1 == addrOf 0x2300 1 || e.1 == addrOf 0x2310 1 || e.1 == addrOf 0x2320 1 || (e.1 == addrOf 0x2600 1 && e.2 == 4)

/-- TXN_COMMIT_TIME and TXN_XCHIP: the owner alone writes those of a held group, in the states that Tables 13.8, 13.9 name. -/
def State.groupCheck (s : State) (iface : Iface) (e : Entry) : Dstat :=
  let g := subOf e.1
  let st := s.groupState (s.group g)
  let d := s.ownerCheck iface g
  if indexOf e.1 = 0x2302 then (if d ≠ 0 then d else if st = .opened ∨ st = .prepared then 0 else 8)
  else if indexOf e.1 = 0x2303 then
    (if d ≠ 0 then d else if st = .preparing ∨ st = .prepared ∨ st = .scheduled then 8 else 0)
  else 0

/-- The first refusal among the writes to group objects. -/
def State.groupChecks (s : State) (iface : Iface) (es : List Entry) : Dstat :=
  match es.find? fun e => s.groupCheck iface e != 0 with
  | some e => s.groupCheck iface e
  | none => 0

/-- Writes that are no commands: staged where `iface` owns an OPEN group, with those without T applied at once, else one
single-write transaction (R39, R52). -/
def State.writePlain (s : State) (iface : Iface) (es : List Entry) : State × Dstat :=
  let d := s.groupChecks iface es
  if d ≠ 0 then (s, d)
  else if es.isEmpty then (s, 0)
  else match s.openGroup iface with
  | none => s.single (.iface iface) es []
  | some g =>
    let now := es.filter fun e => !isAddrT e.1
    let r := s.stage g (es.filter fun e => isAddrT e.1) []
    if r.2 ≠ 0 then (s, r.2)
    else if now.isEmpty then r
    else
      let t := r.1.single (.iface iface) now []
      if t.2 ≠ 0 then (s, t.2) else t

/-- OVERLAY_ACTIVE (R304): the slot's entries as a run. -/
def State.overlayApply (s : State) (iface : Iface) (k : Nat) : State × Dstat :=
  if s.slotBusy k then (s, 10)
  else if !s.slotValid k then (s, 7)
  else match s.overlayWrites (s.slotImage k) with
  | .refused d => (s, d)
  | .ok es =>
    match s.openGroup iface with
    | some g => s.stage g es [s.slotApp k]
    | none => s.single (.iface iface) es [s.slotApp k]

/-- FACTORY (R416): the factory trims as one logged transaction. -/
def State.factoryApply (s : State) : State × Dstat :=
  let d := s.calCtrlCheck 4
  if d ≠ 0 then (s, d) else s.single .cal s.factoryWrites []

/-- One command. -/
def State.writeCommand (s : State) (iface : Iface) (e : Entry) : State × Dstat :=
  if e.1 = addrOf 0x2300 1 then s.txnCommand iface e.2
  else if e.1 = addrOf 0x2310 1 then s.overlayApply iface e.2
  else if e.1 = addrOf 0x2320 1 then s.baseCommand iface e.2
  else s.factoryApply

/-- Commands one after another, until one is refused. -/
def State.writeCommands (s : State) (iface : Iface) : List Entry → State × Dstat
  | [] => (s, 0)
  | e :: es =>
    let r := s.writeCommand iface e
    if r.2 ≠ 0 then r else r.1.writeCommands iface es

/-- Accepted writes of one access, served whole (R52): with a command that is refused nothing is written. -/
def State.writeEntries (s : State) (iface : Iface) (es : List Entry) : State × Dstat :=
  let cmds := es.filter isCommand
  let plain := es.filter fun e => !isCommand e
  let r := s.writePlain iface plain
  if r.2 ≠ 0 ∨ cmds.isEmpty then r
  else
    let c := r.1.writeCommands iface cmds
    if c.2 ≠ 0 ∧ 1 < es.length then (s, c.2) else c

/-- The dictionary is available: start-up has ended, and the chip is neither in reset nor bypassed. -/
def State.dictUp (s : State) : Bool := s.rst.phase == .available

/-- The access unit serves `n` accesses, one in each CK_SEQ cycle (R50). -/
def State.served (s : State) : Nat → State
  | 0 => s
  | n + 1 =>
    let s := if s.access.cycle = some s.cycle then s.advance (s.cyclesOn 1) else s
    { s.specialBegun with access := { cycle := some s.cycle, wrote := [] } }.served n

/-- Accesses that a DOMAIN transfer counts as: one for 128 bits (R50). -/
def domainAccesses (bs : List Byte) : Nat := max 1 ((bs.length + 15) / 16)

/-- A write access of one or several subindices, their values in 32-bit words. -/
def State.writeWords (s : State) (iface : Iface) (ws : List (Nat × List Word)) : State × Dstat :=
  if !s.dictUp then (s, 8)
  else
    let s := s.served ws.length
    match s.acceptAll ws with
    | .refused d => (s, d)
    | .ok es => s.writeEntries iface es

/-- A write of `v` to one subindex, in as many words as its type has. -/
def State.writeValue (s : State) (iface : Iface) (addr v : Nat) : State × Dstat :=
  let n := match rowAt addr with
    | some (r, _) => r.ty.words
    | none => 1
  s.writeWords iface [(addr, words32 v n)]

/-- The access unit serves a write of one subindex and answers it (R54). -/
def State.hostWrite (s : State) (iface : Iface) (addr v : Nat) : State :=
  let r := s.writeValue iface addr v
  r.1.answered iface r.2 []

/-! ## Runs (R46, R52) -/

/-- Words that the value of a subindex takes; 1 where no row serves it. -/
def wordsAt (addr : Nat) : Nat :=
  match rowAt addr with
  | some (r, _) => r.ty.words
  | none => 1

/-- `n` subindices from `sub` on with their words; none when the words do not fit them. -/
def cutRun (index : Nat) : Nat → Nat → List Word → Option (List (Nat × List Word))
  | 0, _, ws => if ws.isEmpty then some [] else none
  | n + 1, sub, ws =>
    let a := addrOf index sub
    let k := wordsAt a
    if ws.length < k then none
    else (cutRun index n (sub + 1) (ws.drop k)).map fun l => (a, ws.take k) :: l

/-! ## DOMAIN writes (R42) -/

/-- Why a DOMAIN write is refused. -/
def State.domainCheck (s : State) (addr : Nat) (bs : List Byte) : Dstat :=
  if !s.dictUp then 8
  else match rowAt addr with
  | none => missing addr
  | some (r, _) =>
    if !r.ty.isDomain then (if r.acc = .rw ∨ r.acc = .wo then 5 else 3)
    else if r.acc ≠ .rw then 3
    else if s.darkAddr addr then 8
    else
      let sub := subOf addr
      match placeOf (indexOf addr) with
      | .site i off =>
        if off = 0x65 then s.segDataCheck i (sub - 1) bs
        else if off = 0x89 then s.tableCheck i (Fin.ofNat 2 (sub - 1)) bs
        else if off = 0xA4 then s.storeCheck i bs
        else if off = 0xC4 then s.pmemCheck i bs
        else if off = 0xC5 then s.dmemCheck i bs
        else s.binsCheck i sub bs
      | .region q _ => s.patMemCheck q bs
      | .chip _ => if bs.length < 16 ∨ 4096 < bs.length then 5 else s.storeSlotCheck bs
      | .nowhere => 1

/-- A DOMAIN write lands whole. -/
def State.domainLand (s : State) (addr : Nat) (bs : List Byte) : State :=
  let sub := subOf addr
  match placeOf (indexOf addr) with
  | .site i off =>
    if off = 0x65 then (s.segAccept i (sub - 1) 0 none).segLand i (sub - 1) (vectorsOf bs)
    else if off = 0x89 then s.tableLand i (Fin.ofNat 2 (sub - 1)) bs
    else if off = 0xA4 then s.storeLand i (s.siteCfg i 0xA5 1) bs
    else if off = 0xC4 then s.pmemLand i (s.siteCfg i 0xC6 1) bs
    else if off = 0xC5 then s.dmemLand i (s.siteCfg i 0xC6 2) bs
    else s.binsLand i sub bs
  | .region q _ => s.patMemLand q bs
  | .chip _ => s.storeSlotLand sub bs
  | .nowhere => s

/-- A DOMAIN write in one piece. -/
def State.domainWrite (s : State) (addr : Nat) (bs : List Byte) : State × Dstat :=
  let s := if s.dictUp then s.served (domainAccesses bs) else s
  let d := s.domainCheck addr bs
  if d ≠ 0 then (s, d) else (s.domainLand addr bs, 0)

/-- The access unit serves a DOMAIN write and answers it. -/
def State.hostDomain (s : State) (iface : Iface) (addr : Nat) (bs : List Byte) : State :=
  let r := s.domainWrite addr bs
  r.1.answered iface r.2 []

/-- The segment that an address writes. -/
def segOfAddr (addr : Nat) : Option (Fin 64 × Nat) :=
  match placeOf (indexOf addr) with
  | .site i off => if off = 0x65 then some (i, subOf addr - 1) else none
  | _ => none

/-- A DOMAIN write that comes in pieces begins: a segment is accepted, or refused with SEG_BUSY (R139). -/
def State.domainBegin (s : State) (addr : Nat) : State × Dstat :=
  if !s.dictUp then (s, 8)
  else
  let s := s.served 1
  match rowAt addr with
  | none => (s, missing addr)
  | some (r, _) =>
    if r.acc ≠ .rw then (s, 3)
    else if !r.ty.isDomain then (s, 5)
    else if s.darkAddr addr then (s, 8)
    else match segOfAddr addr with
    | some (i, g) =>
      if s.segInUse i g || ((s.psq i).seg g).filling then (s, 10) else (s.segAccept i g 0 none, 0)
    | none => (s, 0)

/-- A DOMAIN write that came in pieces ends: it lands whole, or not at all; a segment then has FILL_ERR = ABORTED. -/
def State.domainEnd (s : State) (addr : Nat) (bs : List Byte) : State × Dstat :=
  match segOfAddr addr with
  | some (i, g) =>
    let s := s.served (domainAccesses bs)
    if !((s.psq i).seg g).filling then (s, 8)
    else if bs.length % 8 ≠ 0 ∨ bs.length < 8 ∨ 32768 < bs.length then (s.segFail i g 1, 5)
    else if !(vectorsOf bs).all vLegal then (s.segFail i g 1, 6)
    else (s.segLand i g (vectorsOf bs), 0)
  | none => s.domainWrite addr bs

/-- A DOMAIN write that came in pieces is given up (R321, R352): FILL_ERR, or the error of the memory's chapter, reads ABORTED. -/
def State.domainAbort (s : State) (addr : Nat) : State :=
  match placeOf (indexOf addr) with
  | .site i off =>
    if off = 0x65 then s.segFail i (subOf addr - 1) 1
    else if off = 0xA4 then s.modMse i fun m => { m with loadErr := 1 }
    else if off = 0xC4 ∨ off = 0xC5 then s.modDsp i fun d => { d with loadErr := 1 }
    else s
  | _ => s

end Sys2Proof.Machine
end

