-- ==== Sys2Proof/Machine/Read.lean ====
section
/-! DEFINITION. Reads of the dictionary (R41, R45–R49): values of every subindex, DOMAIN images. -/
namespace Sys2Proof.Machine

/-! ## Values -/

/-- The value of a chip object that is no configuration. -/
def State.chipStatus (s : State) (ix sub : Nat) : Option Nat :=
  if ix < 0x2000 then s.canRead ix sub
  else if ix < 0x2100 then s.idRead ix sub
  else if ix < 0x2200 then
    (if ix = 0x2122 ∧ sub = 1 then some (epochOf s.clock) else s.clockRead ix sub)
  else if ix < 0x2300 then s.flRead ix sub
  else if ix < 0x2400 then s.commitRead ix sub
  else if ix < 0x2500 then s.gtRead ix sub
  else if ix < 0x2600 then s.thermalRead ix sub
  else if ix < 0x2700 then s.calRead ix sub
  else if ix < 0x2800 then s.mitRead ix sub
  else if ix < 0x2900 then s.spiRead ix sub
  else if ix < 0x2A00 then s.aszRead ix sub
  else s.chipTrigRead ix sub

/-- The value of a site object that is no configuration. -/
def State.siteStatus (s : State) (i : Fin 64) (off sub : Nat) : Option Nat :=
  if off < 0x20 then s.siteRead i off sub
  else if off < 0x60 then s.pinRead i off sub
  else if off < 0x80 then s.psqRead i off sub
  else if off < 0xA0 then (s.dspWake i).buRead i off sub
  else if off < 0xC0 then s.mseRead i off sub
  else if off < 0xE0 then (s.dspWake i).dspRead i off sub
  else if 0xE2 ≤ off ∧ off ≤ 0xE4 then s.trigRead i off sub
  else s.tdcRead i off sub

/-- The value of a region object that is no configuration. -/
def State.regionStatus (s : State) (q : Fin 4) (off sub : Nat) : Option Nat :=
  if off < 0x20 then s.rgTrigRead q off sub else if off < 0x40 then s.hkRead q off sub else s.testRead q off sub

/-- The value that a subindex reads, without a check of access. -/
def State.present_ (s : State) (addr : Nat) : Nat :=
  let sub := subOf addr
  let status := match placeOf (indexOf addr) with
    | .chip ix => s.chipStatus ix sub
    | .site i off => s.siteStatus i off sub
    | .region q off => s.regionStatus q off sub
    | .nowhere => none
  status.getD (s.val addr)

/-- A read of one numbered subindex or string: its value (R41, R47), or its refusal. -/
def State.readValue (s : State) (addr : Nat) : Checked Nat :=
  if !s.dictUp then .refused 8
  else match rowAt addr with
  | none => .refused (missing addr)
  | some (r, _) =>
    if r.acc = .wo then .refused 4
    else if r.ty.isDomain then .refused 5
    else if s.darkAddr addr then .refused 8
    else if indexOf addr = 0x2904 ∧ 5 ≤ subOf addr ∧ (s.aszWindow (subOf addr - 4)).isNone then .refused 6
    else .ok (s.present_ addr)

/-- The 32-bit words that a read returns: those of the value, or zero words with the DSTAT of the refusal (R351). -/
def State.readWords (s : State) (addr : Nat) : List Word × Dstat :=
  let n := wordsAt addr
  match s.readValue addr with
  | .ok v => (words32 v n, 0)
  | .refused d => (List.replicate n 0, d)

/-! ## DOMAIN reads -/

/-- Bytes `off` to `off + n − 1` of an image of units of `u` bytes, given by number. -/
def sliceUnits (u : Nat) (unit : Nat → Nat) (off n : Nat) : List Byte :=
  (((List.range (n / u + 2)).flatMap fun k => bytesLE (unit (off / u + k)) u).drop (off % u)).take n

/-- The bytes that a read of a DOMAIN subindex can return, or its refusal; a segment under fill refuses with SEG_BUSY
(Table 6.14). -/
def State.domainLen (s : State) (addr : Nat) : Checked Nat :=
  if !s.dictUp then .refused 8
  else match rowAt addr with
  | none => .refused (missing addr)
  | some (r, _) =>
    if !r.ty.isDomain then .refused 5
    else if s.darkAddr addr then .refused 8
    else match placeOf (indexOf addr) with
    | .site i off =>
      if off = 0x65 then (if ((s.psq i).seg (subOf addr - 1)).filling then .refused 10 else .ok 32768)
      else if off = 0x89 then .ok 8192
      else if off = 0xA4 then .ok (4 * (8192 - s.siteCfg i 0xA5 1))
      else if off = 0xC4 then .ok (8 * (4096 - s.siteCfg i 0xC6 1))
      else if off = 0xC5 then .ok (4 * (24576 - s.siteCfg i 0xC6 2))
      else if off = 0xE9 then .ok 5120
      else match s.bushelImage i with
        | some b => .ok b.length
        | none => .refused 8
    | .region q _ => .ok (8 * (524288 - s.regionCfg q 0x21 1))
    | _ => .ok (s.slotImage (subOf addr)).length

/-- RG_PAT_MEM, whose SPS read may run past the last vector (R143). -/
def isPatMem (addr : Nat) : Bool :=
  match placeOf (indexOf addr) with
  | .region _ off => off == 0x20
  | _ => false

/-- Bytes of a DOMAIN subindex from byte `off` on, at most `n` and none past its end. -/
def State.domainBytes (s : State) (addr off n : Nat) : List Byte :=
  match s.domainLen addr with
  | .refused _ => []
  | .ok len =>
    let n := min n (len - off)
    let sub := subOf addr
    match placeOf (indexOf addr) with
    | .site i o =>
      if o = 0x65 then sliceUnits 8 (fun k => (sparseGet ((s.psq i).seg (sub - 1)).mem k 0).toNat) off n
      else if o = 0x89 then sliceUnits 2 (fun k => (sparseGet (s.bridge i (Fin.ofNat 2 (sub - 1))).table k 0).toNat) off n
      else if o = 0xA4 then sliceUnits 4 (fun k => (sparseGet (s.mse i).store (s.siteCfg i 0xA5 1 + k) 0).toNat) off n
      else if o = 0xC4 then sliceUnits 8 (fun k => (sparseGet (s.dsp i).pmem (s.siteCfg i 0xC6 1 + k) 0).toNat) off n
      else if o = 0xC5 then sliceUnits 4 (fun k => (sparseGet (s.dsp i).dmem (s.siteCfg i 0xC6 2 + k) 0).toNat) off n
      else if o = 0xE9 then ((s.binsRead i sub).drop off).take n
      else (((s.bushelImage i).getD []).drop off).take n
    | .region q _ => sliceUnits 8 (fun k => (sparseGet (s.region q).patMem (s.regionCfg q 0x21 1 + k) 0).toNat) off n
    | _ => ((s.slotImage sub).drop off).take n

end Sys2Proof.Machine
end

