-- ==== Sys2Proof/Machine/Can.lean ====
section
/-! DEFINITION. The CAN FD port (chapter 15): NMT, USDO, PDO, EMCY, heartbeat, bus conditions. -/
namespace Sys2Proof.Machine

/-! ## Who may send and who is heard -/

/-- The node receives: the dictionary is available and the controller is on the bus. -/
def State.canHears (s : State) : Bool := s.dictUp && s.can.bus != .busOff

/-- The node takes part in services: with a node-ID, and not silenced by a duplicate of it (R338, R345). -/
def State.canServes (s : State) : Bool := s.canHears && s.can.nodeId != 0 && s.can.bus != .silent

/-- Table 15.3: USDO and EMCY. -/
def State.canTalks (s : State) : Bool := s.canServes && s.can.nmt != .stopped

/-- Table 15.3: PDO. -/
def State.canPdos (s : State) : Bool := s.canServes && s.can.nmt == .operational

/-- A frame goes onto the bus. -/
def State.sendFrame (s : State) (cob : Nat) (data : List Byte) : State :=
  { s with can := { s.can with frames := s.can.frames ++ [{ cob := BitVec.ofNat 11 cob, data := data }] } }

/-! ## NMT (R338, R339) -/

/-- A session ends without a response; a DOMAIN transfer writes nothing. -/
def State.sessionDropped (s : State) : State :=
  match s.can.session with
  | none => s
  | some u =>
    let s : State := { s with can := { s.can with session := none } }
    let addr := addrOf u.index u.sub
    let isDomain : Bool := match rowAt addr with
      | some (r, _) => r.ty.isDomain
      | none => false
    if u.download && isDomain then s.domainAbort addr else s

/-- COB-IDs that the factory image gives relative to the node-ID (Table 15.6). -/
def cobDefaults : List Nat :=
  addrOf 0x1014 0 :: (List.range 4).map (fun k => addrOf (0x1400 + k) 1) ++ (List.range 4).map fun k => addrOf (0x1800 + k) 1

/-- The node-ID in force by the straps and CAN_CFG (R338). -/
def State.nodeIdOf (s : State) (straps : BitVec 7) : BitVec 7 :=
  if straps = 0 then BitVec.ofNat 7 (s.cfg 0x1FF0 1) else straps

/-- The objects at 0x1000–0x1FFF take their base-configuration values, and the port the settings they hold (R339). -/
def State.canReload (s : State) (straps : BitVec 7) : State :=
  let comm (e : Entry) : Bool := decide (indexOf e.1 < 0x2000)
  let s : State := { s with dict := s.dict.filter fun e => !comm e }
  let s := s.forEach (s.commit.baseInForce.filter comm) fun e s => s.setVal e.1 e.2
  let node := s.nodeIdOf straps
  let s := if s.rst.configSource = 1 then s
           else s.forEach cobDefaults fun a s => s.setVal a (initial a + node.toNat)
  let br := s.cfg 0x1FF0 2
  { s with can := { Can.reset with
      straps := straps, nodeId := node, nbr := BitVec.ofNat 4 br, dbr := BitVec.ofNat 4 (br / 16),
      autoRecover := bitOf (s.cfg 0x1FF0 3) 1, clients := BitVec.ofNat 32 (s.cfg 0x1FF0 4), emcyQueue := s.can.emcyQueue,
          busOffEmcy := s.can.busOffEmcy,
      lastEmcy := s.can.lastEmcy, frames := s.can.frames } }

/-- PRE-OPERATIONAL is entered with the boot-up message, and OPERATIONAL after it when AUTOSTART = 1. -/
def State.canBoot (s : State) : State :=
  let s := if s.can.nodeId = 0 then s else s.sendFrame (0x700 + s.can.nodeId.toNat) [0]
  { s with can := { s.can with nmt := if bitOf (s.cfg 0x1FF0 3) 0 then .operational else .preOperational, beat := s.clock } }

/-- An NMT command addresses this node: by its node-ID, or all nodes by 0. -/
def State.nmtFor (s : State) (node : BitVec 7) : Bool := s.canHears && (node == 0 || node == s.can.nodeId)

/-- `s` in an NMT state. -/
def State.nmtIn (s : State) (st : NmtState) : State := { s with can := { s.can with nmt := st } }

/-- NMT_START (R339). -/
def execNmtStart (node : BitVec 7) (s : State) : Host.Outcome State Fault Refusal :=
  if s.nmtFor node then .next (s.nmtIn .operational) else .next s

/-- NMT_STOP (R339, R346). -/
def execNmtStop (node : BitVec 7) (s : State) : Host.Outcome State Fault Refusal :=
  if s.nmtFor node then .next (s.sessionDropped.nmtIn .stopped) else .next s

/-- NMT_ENTER_PREOP (R339). -/
def execNmtEnterPreop (node : BitVec 7) (s : State) : Host.Outcome State Fault Refusal :=
  if s.nmtFor node then .next (s.nmtIn .preOperational) else .next s

/-- NMT_RESET_APP (R339): a chip reset. -/
def execNmtResetApp (node : BitVec 7) (s : State) : Host.Outcome State Fault Refusal :=
  if s.nmtFor node then .next (s.chipReset 4) else .next s

/-- NMT_RESET_COMM (R339): the controller and the communication objects, with the straps as they stand now. It is obeyed in
bus-off as well, which it ends (Table 15.5). -/
def execNmtResetComm (node : BitVec 7) (straps : BitVec 7) (s : State) : Host.Outcome State Fault Refusal :=
  if s.dictUp && (node == 0 || node == s.can.nodeId) then
    let s := (((s.sessionDropped.gone .ofChip 0x83).gone .ofChip 0x84).gone .ofChip 0x85)
    .next (s.canReload straps).canBoot
  else .next s

/-- HEARTBEAT_TIMER (R336): the producer period has passed since the last heartbeat. -/
def execHeartbeatTimer (s : State) : Host.Outcome State Fault Refusal :=
  if s.canServes && s.cfg 0x1017 0 != 0 then
    let s := s.advance (addGrains s.can.beat (s.cfg 0x1017 0 * msGrains : Nat))
    let s : State := { s with can := { s.can with beat := s.clock } }
    .next (s.sendFrame (0x700 + s.can.nodeId.toNat) [BitVec.ofNat 8 s.can.nmt.code])
  else .next s

/-! ## USDO (R341) -/

/-- The abort code of a refusal (Table 2.3). -/
def abortCode (d : Dstat) : Nat :=
  match d with
  | 1 => 0x06020000 | 2 => 0x06090011 | 3 => 0x06010002 | 4 => 0x06010001 | 5 => 0x06070010 | 6 => 0x06090030
  | 7 => 0x06040043 | 8 => 0x08000022 | 9 => 0x08000020 | 10 => 0x08000022 | 11 => 0x08000020 | 13 => 0x06040041
  | 14 => 0x05040000 | _ => 0x08000000

/-- The abort code of a refused write: a mapping that is only too long has its own (R343). -/
def State.writeAbort (s : State) (addr v : Nat) (d : Dstat) : Nat :=
  let index := indexOf addr
  let sub := subOf addr
  match pdoOf index with
  | some (_, rpdo) =>
    let es := pdoEntries (s.viewOf [(addr, v)]) index
    let named := (sub != 0 && !mappable rpdo v) || !es.all (mappable rpdo) || (sub == 0 && es.contains 0)
    if d = 13 ∧ !named then 0x06040042 else abortCode d
  | none => abortCode d

/-- A request is aborted: the answer carries the abort code, and the abort is counted. -/
def State.usdoAbort (s : State) (d : Dstat) (code : Nat) : State :=
  let s := s.answered .can d [BitVec.ofNat 32 code]
  { s with can := { s.can with usdoAborts := satInc 0xFFFF s.can.usdoAborts } }

/-- Why a request of a client is aborted before it is looked at: CLIENTS does not admit it, or another client's session is
open. -/
def State.usdoBarred (s : State) (client : BitVec 7) : Bool :=
  let list := [0, 8, 16, 24].map fun k => field s.can.clients.toNat (k + 7) k
  let admitted := s.can.clients == 0 || list.contains client.toNat
  let other : Bool := match s.can.session with
    | some u => u.client != client.toNat
    | none => false
  !admitted || other

/-- `s` with a session. -/
def State.inSession (s : State) (u : Option Usdo) : State := { s with can := { s.can with session := u } }

/-- The bytes of a subindex for an upload. -/
def State.uploadBytes (s : State) (addr : Nat) : Checked (List Byte) :=
  match rowAt addr with
  | none => .refused (missing addr)
  | some (r, _) =>
    if r.ty.isDomain then
      match s.domainLen addr with
      | .refused d => .refused d
      | .ok n => .ok (s.domainBytes addr 0 n)
    else match s.readValue addr with
      | .refused d => .refused d
      | .ok v => .ok (bytesLE v r.ty.byteLen)

/-- An upload goes on: `room` bytes are answered; the session stays while bytes are left. -/
def State.uploadPart (s : State) (client : BitVec 7) (index sub room : Nat) (bytes : List Byte) : State :=
  let rest := bytes.drop room
  let part := (bytes.take room).map fun b => b.setWidth 32
  (s.answered .can 0 part).inSession
    (if rest.isEmpty then none
     else some { client := client.toNat, download := false, index := index, sub := sub, bytes := rest, last := s.clock })

/-- USDO_UPLOAD (R341): the first request of an upload names a subindex; further ones take what is left. The answer holds
`room` bytes, one to a word. -/
def execUsdoUpload (client : BitVec 7) (first : Bool) (index : BitVec 16) (sub : BitVec 8) (room : BitVec 16) (s : State) :
    Host.Outcome State Fault Refusal :=
  if !s.canTalks then .next s
  else if s.usdoBarred client then .next (s.usdoAbort 9 0x08000020)
  else if first then
    let s := s.sessionDropped
    let s := if s.dictUp then s.served 1 else s
    match s.uploadBytes (addrOf index.toNat sub.toNat) with
    | .refused d => .next (s.usdoAbort d (abortCode d))
    | .ok bs => .next (s.uploadPart client index.toNat sub.toNat room.toNat bs)
  else match s.can.session with
    | some u =>
      if u.download then .next (s.sessionDropped.usdoAbort 15 (abortCode 15))
      else .next (s.uploadPart client u.index u.sub room.toNat u.bytes)
    | none => .next (s.usdoAbort 15 (abortCode 15))

/-- A download of a subindex that is complete: answered, or aborted. -/
def State.downloadEnd (s : State) (u : Usdo) : State :=
  let addr := addrOf u.index u.sub
  let s := s.inSession none
  match rowAt addr with
  | none => s.usdoAbort (missing addr) (abortCode (missing addr))
  | some (r, _) =>
    if r.ty.isDomain then
      let t := s.domainEnd addr u.bytes
      if t.2 = 0 then t.1.answered .can 0 [] else t.1.usdoAbort t.2 (abortCode t.2)
    else if r.acc = .ro ∨ r.acc = .const then s.usdoAbort 3 (abortCode 3)
    else if u.bytes.length ≠ r.ty.byteLen then s.usdoAbort 5 (abortCode 5)
    else
      let v := natLE u.bytes
      let t := s.writeValue .can addr v
      if t.2 = 0 then t.1.answered .can 0 [] else t.1.usdoAbort t.2 (s.writeAbort addr v t.2)

/-- A download goes on with bytes; the last ones complete it. -/
def State.downloadPart (s : State) (u : Usdo) (bytes : List Byte) (last : Bool) : State :=
  let u : Usdo := { u with bytes := u.bytes ++ bytes, last := s.clock }
  if last then s.downloadEnd u else (s.inSession (some u)).answered .can 0 []

/-- A DOMAIN download of a client begins; a numbered subindex is looked at when its bytes are complete. -/
def State.downloadBegin (s : State) (addr : Nat) : State × Dstat :=
  match rowAt addr with
  | some (r, _) => if r.ty.isDomain then s.domainBegin addr else (s, 0)
  | none => (s, 0)

/-- USDO_DOWNLOAD (R341): the first request names a subindex; each request carries bytes, and the last one completes the
download. -/
def execUsdoDownload (client : BitVec 7) (first last : Bool) (index : BitVec 16) (sub : BitVec 8) (bytes : List (BitVec 8))
    (s : State) : Host.Outcome State Fault Refusal :=
  if !s.canTalks then .next s
  else if s.usdoBarred client then .next (s.usdoAbort 9 0x08000020)
  else if first then
    let t := s.sessionDropped.downloadBegin (addrOf index.toNat sub.toNat)
    if t.2 ≠ 0 then .next (t.1.usdoAbort t.2 (abortCode t.2))
    else
      let u : Usdo :=
        { client := client.toNat, download := true, index := index.toNat, sub := sub.toNat, bytes := [], last := t.1.clock }
      .next (t.1.downloadPart u bytes last)
  else match s.can.session with
    | some u =>
      if u.download then .next (s.downloadPart u bytes last) else .next (s.sessionDropped.usdoAbort 15 (abortCode 15))
    | none => .next (s.usdoAbort 15 (abortCode 15))

/-- USDO_TIMEOUT (R341): a session without a request for 100 ms ends; a node that does not transmit answers nothing (Table
15.9). -/
def execUsdoTimeout (s : State) : Host.Outcome State Fault Refusal :=
  match s.can.session with
  | none => .next s
  | some u =>
    let s := s.advance (addGrains u.last (100 * msGrains : Nat))
    if s.canTalks then .next (s.sessionDropped.usdoAbort 14 (abortCode 14)) else .next s.sessionDropped

/-! ## PDO (R342, R343) -/

/-- The entries of a mapping object. -/
def State.mapping (s : State) (index : Nat) : List Nat := pdoEntries s.val index

/-- The address of a mapping entry. -/
def entryAddr (e : Nat) : Nat := addrOf (field e 31 16) (field e 15 8)

/-- The values that a frame carries for the entries of a mapping, in 32-bit words. -/
def pdoValues : List Nat → List Byte → List (Nat × List Word)
  | [], _ => []
  | e :: es, bs =>
    let n := field e 7 0 / 8
    (entryAddr e, words32 (natLE (bs.take n)) (wordsAt (entryAddr e))) :: pdoValues es (bs.drop n)

/-- A refused RPDO is counted and presented; there is no response. -/
def State.rpdoRefuse (s : State) (d : Dstat) : State :=
  let s : State := { s with can := { s.can with rpdoRefused := satInc 0xFFFF s.can.rpdoRefused, lastDstat := d } }
  s.presentObj .ofChip 0x82 0x1FF1 1

/-- An RPDO takes effect whole, or not at all; a short one is discarded with EMCY 0x8210, whose fault message and time nothing
gives: free values. -/
def State.rpdo (s : State) (k : Fin 4) (data : List Byte) : State :=
  let es := s.mapping (0x1600 + k.val)
  if 8 * data.length < mappedBits es then
    let msg := s.fresh 64
    let s := s.drawn
    let time := s.fresh 64
    s.drawn.pushEmcy 0x8210 s.errReg msg time
  else
    let r := s.writeWords .can (pdoValues es data)
    if r.2 = 0 then r.1 else r.1.rpdoRefuse r.2

/-- A PDO is valid, with this COB-ID. -/
def cobIs (v : Nat) (cob : BitVec 11) : Bool := !bitOf v 31 && field v 10 0 == cob.toNat

/-- RPDO_RX (R342): a frame with the COB-ID of a valid RPDO, in OPERATIONAL. -/
def execRpdoRx (cob : BitVec 11) (data : List (BitVec 8)) (s : State) : Host.Outcome State Fault Refusal :=
  if s.canPdos then
    let ks := (List.finRange 4).filter fun k => cobIs (s.cfg (0x1400 + k.val) 1) cob
    .next (s.forEach ks fun k s => s.rpdo k data)
  else .next s

/-- The mapped values of a TPDO as bytes. -/
def State.tpdoBytes (s : State) (k : Fin 4) : List Byte :=
  (s.mapping (0x1A00 + k.val)).flatMap fun e => bytesLE (s.present_ (entryAddr e)) (field e 7 0 / 8)

/-- The FD length that holds `n` bytes (Table 15.1). -/
def fdLength (n : Nat) : Nat :=
  if n ≤ 8 then n else if n ≤ 12 then 12 else if n ≤ 16 then 16 else if n ≤ 20 then 20 else if n ≤ 24 then 24
  else if n ≤ 32 then 32 else if n ≤ 48 then 48 else 64

/-- A TPDO is sent; the bytes that fill its frame up are free values. -/
def State.tpdoSend (s : State) (k : Fin 4) : State :=
  let bs := s.tpdoBytes k
  let n := fdLength bs.length - bs.length
  let fill := bytesLE (s.fresh (8 * n)).toNat n
  let s := s.drawn.sendFrame (field (s.cfg (0x1800 + k.val) 1) 10 0) (bs ++ fill)
  { s with can := { s.can with
      tpdos := vmod s.can.tpdos k fun _ => { lastBytes := some bs, lastSent := some s.clock } } }

/-- A TPDO is valid and may be sent. -/
def State.tpdoLive (s : State) (k : Fin 4) : Bool := s.canPdos && !bitOf (s.cfg (0x1800 + k.val) 1) 31

/-- The inhibit time of a TPDO has passed. -/
def State.tpdoFree (s : State) (k : Fin 4) : Bool :=
  match (s.can.tpdos[k.val]).lastSent with
  | some t => elapsed t s.clock (s.cfg (0x1800 + k.val) 3 * (100 * usGrains))
  | none => true

/-- TPDO_CHANGE_CHECK (R342): a mapped value has changed since the last send. -/
def execTpdoChangeCheck (tpdo : Fin 4) (s : State) : Host.Outcome State Fault Refusal :=
  if s.tpdoLive tpdo && s.tpdoFree tpdo && (s.can.tpdos[tpdo.val]).lastBytes != some (s.tpdoBytes tpdo) then
    .next (s.tpdoSend tpdo)
  else .next s

/-- TPDO_EVENT_TIMER (R342): the event timer expires. DESIGN CHOICE (log entry 1508): it counts from the last send. -/
def execTpdoEventTimer (tpdo : Fin 4) (s : State) : Host.Outcome State Fault Refusal :=
  let ms := s.cfg (0x1800 + tpdo.val) 5
  if s.tpdoLive tpdo && ms != 0 then
    match (s.can.tpdos[tpdo.val]).lastSent with
    | some t => .next ((s.advance (addGrains t (ms * msGrains : Nat))).tpdoSend tpdo)
    | none => .next (s.tpdoSend tpdo)
  else .next s

/-! ## EMCY and bus conditions (R344, R345) -/

/-- The 20 bytes of an EMCY (Table 15.4). -/
def Emcy.bytes (e : Emcy) : List Byte :=
  bytesLE e.code.toNat 2 ++ bytesLE e.errReg.toNat 1 ++ bytesLE e.message.toNat 8 ++ bytesLE e.time.toNat 8 ++ [0]

/-- EMCY_TRANSMIT (R344): the EMCY of a bus-off first, then the oldest queued one, when the inhibit time has passed. -/
def execEmcyTransmit (s : State) : Host.Outcome State Fault Refusal :=
  let free : Bool := match s.can.lastEmcy with
    | some t => elapsed t s.clock (s.cfg 0x1015 0 * (100 * usGrains))
    | none => true
  let cob := s.cfg 0x1014 0
  if !(s.canTalks && free) || bitOf cob 31 then .next s
  else
    let send (e : Emcy) (s : State) : State :=
      let s := s.sendFrame (field cob 10 0) e.bytes
      { s with can := { s.can with lastEmcy := some s.clock } }
    match s.can.busOffEmcy, s.can.emcyQueue with
    | some e, _ => .next (send e { s with can := { s.can with busOffEmcy := none } })
    | none, e :: rest => .next (send e { s with can := { s.can with emcyQueue := rest } })
    | none, [] => .next s

/-- CAN_ERR_PASSIVE (R345): TEC or REC has reached 128. BUS of a silenced node goes on reading SILENT. -/
def execCanErrPassive (tec recv : BitVec 8) (s : State) : Host.Outcome State Fault Refusal :=
  let fresh := s.can.bus == .errorActive || (s.can.bus == .silent && decide (s.can.tec < 128) && decide (s.can.recv < 128))
  if s.dictUp && fresh && (decide (128 ≤ tec.toNat) || decide (128 ≤ recv.toNat)) then
    let bus : BusState := if s.can.bus = .silent then .silent else .errorPassive
    let s : State := { s with can := { s.can with bus := bus, tec := tec.toNat, recv := recv.toNat } }
    .next (s.presentObj .ofChip 0x83 0x1FF1 1)
  else .next s

/-- CAN_BUS_OFF (R345): TEC has exceeded 255. -/
def execCanBusOff (s : State) : Host.Outcome State Fault Refusal :=
  if s.dictUp && (s.can.bus == .errorActive || s.can.bus == .errorPassive) then
    let s : State := { s with can := { s.can with bus := .busOff, tec := 256, busOffs := satInc 0xFFFF s.can.busOffs } }
    .next ((s.gone .ofChip 0x83).presentObj .ofChip 0x84 0x1FF1 1)
  else .next s

/-- BUS_OFF_RECOVERY (R345): 128 occurrences of 11 recessive bits, with AUTO_RECOVER = 1. -/
def execBusOffRecovery (s : State) : Host.Outcome State Fault Refusal :=
  if s.dictUp && s.can.bus == .busOff && s.can.autoRecover then
    let s : State := { s with can := { s.can with bus := .errorActive, tec := 0, recv := 0 } }
    .next (s.gone .ofChip 0x84)
  else .next s

/-- CAN_DUP_NODE (R345): a foreign frame with this node's heartbeat COB-ID; the node transmits no more. -/
def execCanDupNode (s : State) : Host.Outcome State Fault Refusal :=
  if s.canServes && !s.can.dup then
    let s : State := { s with can := { s.can with dup := true, bus := .silent } }
    .next (s.presentObj .ofChip 0x85 0x1FF1 1)
  else .next s

/-- FOREIGN_FRAME (R345): acknowledged and ignored. -/
def execForeignFrame (s : State) : Host.Outcome State Fault Refusal := .next s

end Sys2Proof.Machine
end

