-- ==== Sys2Proof/Machine/ClockEvents.lean ====
section
/-! DEFINITION. The events of the main PLL, the reference, the time base and SYNC_IN (chapter 03). -/
namespace Sys2Proof.Machine

/-- LOCK_CRITERION_MET (R62, Table 3.5). -/
def execLockCriterionMet (s : State) : Host.Outcome State Fault Refusal := .next s.lockMet

/-- LOCK_LOST (R62). -/
def execLockLost (s : State) : Host.Outcome State Fault Refusal := .next s.lockLost

/-- REF_LOST (R65). -/
def execRefLost (s : State) : Host.Outcome State Fault Refusal := .next s.refLost

/-- HOLDOVER_LONG (R65): the holdover has lasted HOLDOVER_MAX. -/
def execHoldoverLong (s : State) : Host.Outcome State Fault Refusal :=
  if s.pll.state = .holdover then .next (s.presentObj .ofChip 0x12 0x2102 1) else .next s

/-- REFCLK_QUALIFIED (R59, R66): a return from HOLDOVER; before the core leaves reset, one of its conditions (R443). `phase` is
the phase error of the first qualified edge in grains. -/
def execRefclkQualified (phase : BitVec 16) (s : State) : Host.Outcome State Fault Refusal :=
  if s.pll.state = .holdover then .next (s.refReturned phase.toInt)
  else if s.pll.state = .bypass then
    .next { s with rst := { s.rst with refQualified := true }, pll := { s.pll with refPresent := true } }
  else .next s

/-- RESYNC_TIMEOUT (R66, R69): no usable SYNC_IN edge has arrived. -/
def execResyncTimeout (s : State) : Host.Outcome State Fault Refusal :=
  let missing (s : State) : State := s.presentObj .ofChip 0x13 0x2120 6
  match s.pll.state, s.pll.phaseAtReturn with
  | .ret, some phase => .next ((missing s).decideJ (some (foldPhase phase)) false)
  | .resyncWait, _ => if s.pll.stepped then .next s else .next (missing s)
  | _, _ => .next s

/-- SLEW_END (R68, Table 3.5): the correction is complete. -/
def execSlewEnd (s : State) : Host.Outcome State Fault Refusal :=
  if s.pll.state = .slew then .next ((s.advance s.slewEnds).pllLocked true) else .next s

/-- EPOCH_WRAP (R82): the time base reaches the start of the next epoch. -/
def execEpochWrap (s : State) : Host.Outcome State Fault Refusal := .next s.epochWrap

/-- SKEW_OFFSET. -/
def State.skewOffset (s : State) : Int := toInt (s.cfg 0x2120 4) 32

/-- A SYNC packet for an edge at corrected time `t` (R328); CORR is set as it leaves. -/
def State.sendSync (s : State) (t : Time) : State :=
  let n := s.furlong.sseqOut
  let s : State := { s with furlong := { s.furlong with sseqOut := n + 1 } }
  s.sendStamped 4 0 (epochOf s.clock) 0xFFFF [BitVec.ofNat 64 (at_ n.toNat 32)] t

/-- An edge accepted at corrected time `t`: waiting PSQs resume, the armed actions act (R78, R132). -/
def State.syncAccepted (s : State) (t : Time) : State := (s.forEach allSites fun i s => s.psqSync i t).syncEdge t

/-- SYNC_EDGE (R78, R248, R328): a rising edge on SYNC_IN, captured at CK_PAT edge `coarse` with fine code `fine`; it is
accepted while SOURCE is 0, and no SPECIAL run holds the converters (R263). -/
def execSyncEdge (coarse : BitVec 42) (fine : Fin 1280) (s : State) : Host.Outcome State Fault Refusal :=
  let e := s.captured coarse fine false
  let at0 := roundFine (e.raw s.special.convs[4])
  let s := (s.advance at0).specialBegun
  if s.special.runsAt s.clock then .next s
  else
    let s := s.specialEdge 4 e
    if s.cfg 0x2120 1 = 0 then
      let t := addGrains at0 (-s.skewOffset)
      let s := if bitOf (s.cfg 0x2200 1) 2 then s.sendSync t else s
      .next (s.syncAccepted t)
    else .next s

/-- QUIET_PERIOD_EXPIRY (R397): GT_QUIET_PERIOD passes without a presentation in a scope that a record forces. -/
def execQuietPeriodExpiry (scope : Fin 69) (s : State) : Host.Outcome State Fault Refusal :=
  let sc : Scope := if h : scope.val < 64 then .site ⟨scope.val,
      h⟩ else if scope.val < 68 then .region (Fin.ofNat 4 (scope.val - 64)) else .chip
  if s.mayRecover sc then
    let s := (s.advance (s.quietEnd sc)).gtRecover sc
    .next (s.settleSites .recovery)
  else .next s

end Sys2Proof.Machine
end

