-- ==== Sys2Proof/Machine/Spi.lean ====
section
/-! DEFINITION. The SPI ports (chapter 16): SPS frames in plain and checked mode, and the transfers of the SPM. -/
namespace Sys2Proof.Machine

/-! ## Frames (R347–R349, R354) -/

/-- The SPS serves frames from the moment the core leaves reset (R356). -/
def State.spsServed (s : State) : Bool :=
  s.rst.phase == .started || s.rst.phase == .baseLoaded || s.rst.phase == .available

/-- SPS_CFG.CHECKED. -/
def State.spsChecked (s : State) : Bool := bitOf (s.cfg 0x2800 1) 12

/-- A word in wire order. -/
def wireWord (w : Word) : List Byte := (bytesLE w.toNat 4).reverse

/-- The ADDR phase in wire order. -/
def wireAddr (addr : BitVec 24) : List Byte := (bytesLE addr.toNat 3).reverse

/-- The CRC of a trailer: over bytes, then the byte ALIVE. -/
def trailerCrc (bs : List Byte) (alive : BitVec 4) : BitVec 12 := (crc16 (bs ++ [alive.setWidth 8])).setWidth 12

/-- How the device judges a frame: good, bad as a whole, or bad by its trailer alone. -/
inductive FrameCheck where
  | good | bad | badTrailer
  deriving DecidableEq, Repr

/-- The judgement of a frame whose host bytes before HTRL are `bs`; `count0` tells a COUNT of 0. -/
def State.frameCheck (s : State) (e : FrameEnd) (count0 : Bool) (bs : List Byte) (t : FrameTrailer) : FrameCheck :=
  if e ≠ .whole then .bad
  else if !s.spsChecked then .good
  else if count0 then .bad
  else if t.crc ≠ trailerCrc bs t.alive then .badTrailer
  else if !s.sps.anyAlive && t.alive != s.sps.lastAlive + 1 then .badTrailer
  else .good

/-- `s` with its SPS changed. -/
def State.modSps (s : State) (f : Sps → Sps) : State := { s with sps := f s.sps }

/-- A bad frame is ignored as a whole and counted: CRC_ERRS, ALIVE_ERRS. -/
def State.frameBad (s : State) (c : FrameCheck) (bs : List Byte) (t : FrameTrailer) : State :=
  let crc := c = .badTrailer ∧ t.crc ≠ trailerCrc bs t.alive
  let alive := c = .badTrailer ∧ t.crc = trailerCrc bs t.alive
  s.modSps fun p =>
    { p with frameBad := true, framesBad := satInc 0xFFFF p.framesBad, out := [],
             crcErrs := if crc then satInc 0xFFFF p.crcErrs else p.crcErrs,
             aliveErrs := if alive then satInc 0xFFFF p.aliveErrs else p.aliveErrs }

/-- A good frame: in checked mode its ALIVE is the last accepted one. -/
def State.frameGood (s : State) (t : FrameTrailer) : State :=
  if s.spsChecked then s.modSps fun p => { p with lastAlive := t.alive, anyAlive := false } else s

/-- The outcome of a good frame, for the status byte of the next one. -/
def State.frameDone (s : State) (d : Dstat) : State := s.modSps fun p => { p with dstat := d }

/-- The status byte (Table 16.3). -/
def State.statusByte (s : State) : Byte :=
  BitVec.ofNat 8 (s.sps.dstat % 16 + at_ (b2n s.sps.frameBad) 4 + at_ (b2n s.irqNLow) 5 + at_ (b2n s.errNLow) 6 +
    at_ (b2n s.sps.latch.isSome) 7)

/-- The device drives STATUS, data words and, in checked mode, DTRL. -/
def State.deviceDrives (s : State) (status : Byte) (words : List Word) (t : FrameTrailer) : State :=
  let bs := status :: words.flatMap wireWord
  let trailer := at_ t.alive.toNat 12 + (trailerCrc bs t.alive).toNat
  let bs := if s.spsChecked then bs ++ (bytesLE trailer 2).reverse else bs
  s.modSps fun p => { p with out := bs, frameBad := false }

/-! ## Writes (R350–R352) -/

/-- A run of words cut into the subindices from `sub` to `hi`: ADDR_END past the last one, LENGTH inside a value. -/
def cutToEnd (index hi : Nat) : Nat → Nat → List Word → Checked (List (Nat × List Word))
  | _, _, [] => .ok []
  | 0, _, _ => .refused 12
  | fuel + 1, sub, ws =>
    if hi < sub then .refused 12
    else
      let a := addrOf index sub
      let k := wordsAt a
      if ws.length < k then .refused 5
      else match cutToEnd index hi fuel (sub + 1) (ws.drop k) with
        | .refused d => .refused d
        | .ok l => .ok ((a, ws.take k) :: l)

/-- The address names a DOMAIN subindex. -/
def isDomainAddr (addr : Nat) : Bool :=
  match rowAt addr with
  | some (r, _) => r.ty.isDomain
  | none => false

/-- A run of words written from an address on, as an SPS WRITE. -/
def State.writeRun (s : State) (iface : Iface) (addr : Nat) (ws : List Word) : State × Dstat :=
  if !s.dictUp then (s, 8)
  else if (objectAt (indexOf addr)).isNone then (s, 1)
  else if ws.isEmpty then (s, 5)
  else if isDomainAddr addr then s.domainWrite addr (ws.flatMap wireWord)
  else if highestSub (indexOf addr) < subOf addr then (s, 2)
  else match cutToEnd (indexOf addr) (highestSub (indexOf addr)) 256 (subOf addr) ws with
    | .refused d => (s, d)
    | .ok run => s.writeWords iface run

/-- A bad frame that names a DOMAIN subindex ends its transfer with ABORTED (R352). -/
def State.domainSpoiled (s : State) (addr : Nat) : State :=
  if isDomainAddr addr then
    let b := s.domainBegin addr
    if b.2 = 0 then b.1.domainAbort addr else s
  else s

/-- SPS_WRITE (R350). -/
def execSpsWrite (addr : BitVec 24) (words : List (BitVec 32)) (ending : FrameEnd) (trailer : FrameTrailer) (s : State) :
    Host.Outcome State Fault Refusal :=
  let bs := 0x02#8 :: wireAddr addr ++ words.flatMap wireWord
  if !s.spsServed then .next s
  else match s.frameCheck ending false bs trailer with
  | .good =>
    let r := (s.frameGood trailer).writeRun .sps addr.toNat words
    .next ((r.1.modSps fun p => { p with out := [] }).frameDone r.2)
  | c => .next ((s.frameBad c bs trailer).domainSpoiled addr.toNat)

/-! ## Reads (R348, R351, R353) -/

/-- What a read has transferred: its words, the first refusal, the S subindex latched last, the subindices read. -/
structure SpsRead where
  words : List Word
  dstat : Dstat
  latch : Option SnapLatch
  count : Nat
  deriving DecidableEq, Repr

/-- `n` words from subindex `sub` on, each subindex in a CK_SEQ cycle of its own (R47, R50). Words past the highest subindex
read 0 with ADDR_END. -/
def State.readToEnd (s : State) (index hi : Nat) : Nat → Nat → Nat → SpsRead
  | _, _, 0 => { words := [], dstat := 0, latch := none, count := 0 }
  | 0, _, n => { words := List.replicate n 0, dstat := 12, latch := none, count := 0 }
  | fuel + 1, sub, n =>
    if hi < sub then { words := List.replicate n 0, dstat := 12, latch := none, count := 0 }
    else
      let a := addrOf index sub
      let s := s.served 1
      let v := s.readWords a
      let rest := s.readToEnd index hi fuel (sub + 1) (n - v.1.length)
      let isS : Bool := match rowAt a with
        | some (r, _) => r.isS && v.2 == 0
        | none => false
      let own : Option SnapLatch := if isS then some { index := index, sub := sub, words := v.1 } else none
      { words := v.1.take n ++ rest.words, dstat := if v.2 ≠ 0 then v.2 else rest.dstat,
        latch := match rest.latch with
          | some l => some l
          | none => own
        count := rest.count + 1 }

/-- Words of a DOMAIN object: stream byte 4k in bits [31:24]. -/
def streamWords (bs : List Byte) : List Word := (byteGroups 4 bs).map fun w => BitVec.ofNat 32 (natBE (bytesLE w 4))

/-- A read of `n` words that is answered with zero words and a DSTAT. -/
def spsZeros (n d : Nat) : SpsRead := { words := List.replicate n 0, dstat := d, latch := none, count := 1 }

/-- A read of `n` words from an address on. -/
def State.spsRead (s : State) (addr n : Nat) : SpsRead :=
  if !s.dictUp then spsZeros n 8
  else if (objectAt (indexOf addr)).isNone then spsZeros n 1
  else if isDomainAddr addr then
    match s.domainLen addr with
    | .refused d => spsZeros n d
    | .ok len =>
      if len < 4 * n ∧ !isPatMem addr then spsZeros n 5
      else
        let bs := s.domainBytes addr 0 (4 * n)
        let ws := streamWords bs
        { words := ws ++ List.replicate (n - ws.length) 0, dstat := if len < 4 * n then 12 else 0, latch := none,
          count := domainAccesses bs }
  else if highestSub (indexOf addr) < subOf addr then spsZeros n 2
  else s.readToEnd (indexOf addr) (highestSub (indexOf addr)) 256 (subOf addr) n

/-- The words that a frame transfers: in checked mode its COUNT. -/
def State.frameWords (s : State) (count : BitVec 20) : Nat := if s.spsChecked then count.toNat % 256 else count.toNat

/-- The COUNT phase in wire order, in checked mode. -/
def State.wireCount (s : State) (count : BitVec 20) : List Byte := if s.spsChecked then [count.setWidth 8] else []

/-- A frame that reads: `take` gives the state after it, the words and the DSTAT. A checked frame that fails by its trailer is
still answered, with zero words. -/
def State.readFrame (s : State) (bs : List Byte) (n : Nat) (count0 : Bool) (ending : FrameEnd) (trailer : FrameTrailer)
    (take : State → State × List Word × Dstat) : State :=
  match s.frameCheck ending count0 bs trailer with
  | .good =>
    let g := s.frameGood trailer
    let r := take g
    (r.1.deviceDrives g.statusByte r.2.1 trailer).frameDone r.2.2 |>.answered .sps r.2.2 r.2.1
  | .badTrailer =>
    let b := s.frameBad .badTrailer bs trailer
    b.deviceDrives b.statusByte (List.replicate n 0) trailer
  | .bad => s.frameBad .bad bs trailer

/-- SPS_READ (R351). -/
def execSpsRead (addr : BitVec 24) (count : BitVec 20) (ending : FrameEnd) (trailer : FrameTrailer) (s : State) :
    Host.Outcome State Fault Refusal :=
  let n := s.frameWords count
  if !s.spsServed then .next s
  else
    .next (s.readFrame (0x03#8 :: wireAddr addr ++ s.wireCount count) n (n == 0) ending trailer fun s =>
      let r := s.spsRead addr.toNat n
      let s := if s.dictUp then s.served r.count else s
      (s.modSps fun p => { p with latch := match r.latch with
        | some l => some l
        | none => p.latch }, r.words, r.dstat))

/-- The words of a continuation read: those of the latch from word 1 on, 0 with ADDR_END past them. -/
def State.contRead (s : State) (addr n : Nat) : List Word × Dstat :=
  let zeros := List.replicate n (0 : Word)
  if !s.dictUp then (zeros, 8)
  else match s.sps.latch with
    | none => (zeros, 8)
    | some l =>
      if addr ≠ addrOf l.index l.sub then (zeros, 8)
      else
        let ws := l.words.drop 1
        (ws.take n ++ List.replicate (n - ws.length) 0, if ws.length < n then 12 else 0)

/-- CONT_READ (R48, R353). -/
def execContRead (addr : BitVec 24) (count : BitVec 20) (ending : FrameEnd) (trailer : FrameTrailer) (s : State) :
    Host.Outcome State Fault Refusal :=
  let n := s.frameWords count
  if !s.spsServed then .next s
  else
    .next (s.readFrame (0x0B#8 :: wireAddr addr ++ s.wireCount count) n (n == 0) ending trailer fun s =>
      let r := s.contRead addr.toNat n
      (if s.dictUp then s.served 1 else s, r))

/-- SPS_STATUS (R349). -/
def execSpsStatus (ending : FrameEnd) (trailer : FrameTrailer) (s : State) : Host.Outcome State Fault Refusal :=
  if !s.spsServed then .next s
  else .next (s.readFrame [0x05] 0 false ending trailer fun s => (s, [], 0))

/-! ## Mailboxes (R355) -/

/-- RAW_WRITE: whole, or refused with STATE. -/
def execRawWrite (words : List (BitVec 32)) (ending : FrameEnd) (trailer : FrameTrailer) (s : State) :
    Host.Outcome State Fault Refusal :=
  let bs := 0x42#8 :: words.flatMap wireWord
  if !s.spsServed then .next s
  else match s.frameCheck ending false bs trailer with
  | .good =>
    let s := (s.frameGood trailer).modSps fun p => { p with out := [] }
    if s.dictUp && decide (s.sps.toCsv.length + words.length ≤ 128) then
      .next ((s.modSps fun p => { p with toCsv := p.toCsv ++ words }).frameDone 0)
    else .next (s.frameDone 8)
  | c => .next (s.frameBad c bs trailer)

/-- RAW_READ: the oldest words leave the mailbox; words beyond them read 0. -/
def execRawRead (count : BitVec 20) (ending : FrameEnd) (trailer : FrameTrailer) (s : State) :
    Host.Outcome State Fault Refusal :=
  let n := s.frameWords count
  if !s.spsServed then .next s
  else
    .next (s.readFrame (0x4B#8 :: s.wireCount count) n (n == 0) ending trailer fun s =>
      let ws := s.sps.fromCsv
      if s.dictUp then
        (s.modSps fun p => { p with fromCsv := ws.drop n }, ws.take n ++ List.replicate (n - ws.length) 0, 0)
      else (s, List.replicate n 0, 8))

/-! ## The SPM (R357, R359, R360) -/

/-- SPM_CFG.ENABLE. -/
def State.spmEnabled (s : State) : Bool := bitOf (s.cfg 0x2801 1) 0

/-- MiB mapped to a chip select, in bytes. -/
def State.xipSize (s : State) (cs : Nat) : Nat := sizeMiB (field (s.cfg 0x2803 cs) 3 0) * 2 ^ 20

/-- The balls of the SPM (R357): whether those other than the chip selects are driven, and which chip select is held low by the
flash read in progress. -/
def State.spmBalls (s : State) : Bool × Option (Fin 2) :=
  (s.spmEnabled, if s.spmEnabled then s.spm.current.map fun j => if j.offset < s.xipSize 1 then 0 else 1 else none)

/-- Every offset of a transfer lies inside the mapped window. -/
def State.xipMapped (s : State) (j : XipJob) : Bool := decide (j.offset + j.bytes ≤ s.xipSize 1 + s.xipSize 2)

/-- Vectors of a read that are legal land in their segment; a control-store word with bits above 23 keeps the read out. -/
def State.xipLand (s : State) (j : XipJob) (bs : List Byte) : State :=
  match j.target with
  | .segment i g => s.segLand i g.val (vectorsOf bs)
  | .mse i =>
    if (byteGroups 4 bs).any fun w => decide (2 ^ 24 ≤ w) then s.storeFails i
    else s.storeLand i j.base bs
  | .dsp i =>
    if 4096 ≤ j.base then s.dmemLand i (j.base - 4096) bs else s.pmemLand i j.base bs

/-- A transfer fails: SOURCE_ERR in its target's status, SPM_SOURCE presented, counted. A load whose CRC follows all the same
stays LOADING until then. -/
def State.xipFails (s : State) (j : XipJob) : State :=
  let s := match j.target with
    | .segment i g => s.segFail i g.val 2
    | .mse i => s.storeFails i
    | .dsp i =>
      let table := decide (4096 ≤ j.base) && touchesTable (s.tableWords i) (j.base - 4096) (j.bytes / 4)
      s.modDsp i fun d =>
        { d with loadErr := 2, crcFrom := if j.base < 4096 then some s.clock else d.crcFrom,
                 tableFrom := if table then some s.clock else d.tableFrom }
  let s : State := { s with spm := { s.spm with current := none, sourceErrs := satInc 0xFFFF s.spm.sourceErrs } }
  s.presentObj (.ofSite j.target.site) 0x90 0x2803 3

/-- XIP_TRANSFER_START (R359, R360): the oldest transfer is served once the PLL is locked; without ENABLE, or outside the
window, it fails. -/
def execXipTransferStart (s : State) : Host.Outcome State Fault Refusal :=
  match s.spm.current, s.spm.queue with
  | none, j :: rest =>
    if s.pll.relocking then .next s
    else
      let s : State := { s with spm := { s.spm with queue := rest, current := some j } }
      .next (if s.spmEnabled && s.xipMapped j then s else s.xipFails j)
  | _, _ => .next s

/-- XIP_TRANSFER_DONE (R360): the flash has given the bytes of the transfer in progress, and its target is written; with
ENABLE = 0 it fails. -/
def execXipTransferDone (bytes : List (BitVec 8)) (s : State) : Host.Outcome State Fault Refusal :=
  match s.spm.current with
  | none => .next s
  | some j =>
    if bytes.length ≠ j.bytes then .next s
    else if !s.spmEnabled then .next (s.xipFails j)
    else .next (({ s with spm := { s.spm with current := none } }).xipLand j bytes)

/-- A chip select captures data on SPM_DQS (R358). -/
def State.usesDqs (s : State) (cs : Nat) : Bool := bitOf (s.cfg 0x2802 cs) 23 && bitOf (s.cfg 0x2802 cs) 24

/-- DQS_TIMEOUT (R358, R360): no DQS edge within 64 SPM clocks of a read that a chip select captures on SPM_DQS. -/
def execDqsTimeout (s : State) : Host.Outcome State Fault Refusal :=
  match s.spm.current with
  | none => .next s
  | some j =>
    let first := decide (j.offset < s.xipSize 1) && s.usesDqs 1
    let second := decide (s.xipSize 1 < j.offset + j.bytes) && s.usesDqs 2
    if first || second then .next (s.xipFails j) else .next s

end Sys2Proof.Machine
end

