-- ==== Sys2Proof/Machine/Csv.lean ====
section
/-! DEFINITION. The CSV (R35, R36): raw services and the watchdog. -/
namespace Sys2Proof.Machine

/-- A raw request: its service, TAG and argument words. -/
structure RawRequest where
  service : Nat
  tag     : Nat
  args    : List Word
  deriving DecidableEq, Repr

/-- The oldest request, when all its words are in the mailbox, with the words behind it. -/
def State.rawRequest (s : State) : Option (RawRequest × List Word) :=
  match s.sps.toCsv with
  | [] => none
  | h :: rest =>
    let n := field h.toNat 23 16
    if rest.length < n then none
    else some ({ service := field h.toNat 31 24, tag := field h.toNat 15 0, args := rest.take n }, rest.drop n)

/-- The words of a reply; one of more than 126 words is LENGTH with none. -/
def rawReply (r : RawRequest) (d : Dstat) (words : List Word) : List Word :=
  let d := if 126 < words.length then 5 else d
  let words := if 126 < words.length then [] else words
  BitVec.ofNat 32 (at_ ((r.service + 0x80) % 256) 24 + at_ words.length 16 + r.tag) :: BitVec.ofNat 32 d :: words

/-- A reply goes into the mailbox, or waits for room. -/
def State.placeReply (s : State) (reply : List Word) : State :=
  if s.sps.fromCsv.length + reply.length ≤ 128 then s.modSps fun p => { p with fromCsv := p.fromCsv ++ reply }
  else { s with csv := { s.csv with waiting := some reply } }

/-- The oldest request, when its service satisfies `p` and no reply waits, is served by `f`, which gives its DSTAT and reply
words. -/
def State.rawServe (s : State) (p : Nat → Bool) (f : RawRequest → State → State × Dstat × List Word) : State :=
  match s.csv.waiting, s.rawRequest with
  | none, some (r, rest) =>
    if p r.service && s.dictUp then
      let t := f r (s.modSps fun m => { m with toCsv := rest })
      let c := t.1.csv
      let general := if t.2.1 = 15 then satInc 0xFFFF c.rawGeneral else c.rawGeneral
      ({ t.1 with csv := { c with rawServed := c.rawServed + 1, rawGeneral := general } }).placeReply (rawReply r t.2.1 t.2.2)
    else s
  | _, _ => s

/-- ECHO (R36). -/
def execEcho (s : State) : Host.Outcome State Fault Refusal :=
  .next (s.rawServe (· == 0x01) fun r s => if 125 < r.args.length then (s, 5, []) else (s, 0, r.args))

/-- VERSION (R36). -/
def execVersion (s : State) : Host.Outcome State Fault Refusal :=
  .next (s.rawServe (· == 0x02) fun r s =>
    if r.args.isEmpty then (s, 0, [BitVec.ofNat 32 (s.cfg 0x2003 1), BitVec.ofNat 32 (s.cfg 0x2003 2)]) else (s, 5, []))

/-- The values of `n` subindices from `sub` on, up to the first that cannot be read, each in a CK_SEQ cycle of its own (R47,
R50); with the state after the accesses. -/
def State.rawRead (s : State) (index : Nat) : Nat → Nat → State × Dstat × List Word
  | 0, _ => (s, 0, [])
  | n + 1, sub =>
    if 255 < sub then (s, 2, [])
    else
      let s := if s.dictUp then s.served 1 else s
      let a := s.readWords (addrOf index sub)
      if a.2 ≠ 0 then (s, a.2, [])
      else
        let b := s.rawRead index n (sub + 1)
        (b.1, b.2.1, a.1 ++ b.2.2)

/-- DICT_READ (R36). -/
def execDictRead (s : State) : Host.Outcome State Fault Refusal :=
  .next (s.rawServe (· == 0x10) fun r s =>
    match r.args with
    | [a, n] =>
      if a.toNat < 2 ^ 24 ∧ 1 ≤ n.toNat ∧ n.toNat ≤ 255 then
        s.rawRead (indexOf a.toNat) n.toNat (subOf a.toNat)
      else (s, 6, [])
    | _ => (s, 5, []))

/-- DICT_WRITE (R36, R351): the CSV is the interface that writes. -/
def execDictWrite (s : State) : Host.Outcome State Fault Refusal :=
  .next (s.rawServe (· == 0x11) fun r s =>
    match r.args with
    | a :: ws =>
      if a.toNat < 2 ^ 24 then
        let t := s.writeRun .csv a.toNat ws
        (t.1, t.2, [])
      else (s, 6, [])
    | [] => (s, 5, []))

/-- RAW_UNKNOWN_SERVICE (R36): GENERAL. -/
def execRawUnknownService (s : State) : Host.Outcome State Fault Refusal :=
  .next (s.rawServe (fun n => !([0x01, 0x02, 0x10, 0x11].contains n)) fun _ s => (s, 15, []))

/-- CSV_REPLY_ROOM (R36): the reply that waits finds room. -/
def execCsvReplyRoom (s : State) : Host.Outcome State Fault Refusal :=
  match s.csv.waiting with
  | none => .next s
  | some reply => .next (({ s with csv := { s.csv with waiting := none } }).placeReply reply)

/-- The core is out of reset. -/
def State.coreUp (s : State) : Bool := s.spsServed

/-- QC_HEARTBEAT_MISS (R35): a QC has missed four heartbeats, and the CSV services its watchdog no more. -/
def execQcHeartbeatMiss (region : Fin 4) (s : State) : Host.Outcome State Fault Refusal :=
  if s.coreUp then
    .next { s with csv := { s.csv with qcStopped := vmod s.csv.qcStopped region fun _ => true, servicing := false } }
  else .next s

/-- WATCHDOG_EXPIRY (R35, R442): the CSV watchdog expires. -/
def execWatchdogExpiry (s : State) : Host.Outcome State Fault Refusal :=
  if s.coreUp then .next (s.chipReset 5) else .next s

end Sys2Proof.Machine
end

