-- ==== Sys2Proof/Machine/Conditions.lean ====
section
/-! DEFINITION. The conditions that end outside the chip's own rules (R396), and the Assize queue (R432, R434). -/
namespace Sys2Proof.Machine

/-- An UNDERRUN that PARK, SAFE or a power-down has ended: the PSQ stands in it no longer. -/
def State.underrunOver (s : State) (i : Fin 64) : Bool := (s.psq i).state != .underrun

/-- The node is error-active again: both counters lie below 128. BUS of a silenced node goes on reading SILENT. -/
def Can.errorActive (c : Can) : Can := { c with bus := if c.bus = .silent then .silent else .errorActive, tec := min 127 c.tec,
                                                recv := min 127 c.recv }

/-- CONDITION_GONE (R396): the cause of a condition kind goes away. The command names the kind and, where it matters, the cell
or unit; kinds whose cause the chip itself holds go with that cause and not by this command. -/
def execConditionGone (kind : BitVec 12) (i : Fin 64) (c : Fin 8) (s : State) : Host.Outcome State Fault Refusal :=
  match kind.toNat with
  | 0x20 => .next (s.gone (.ofCell i c.val) 0x20)
  | 0x34 => if s.underrunOver i then .next (s.gone (.ofSite i) 0x34) else .next s
  | 0x40 => .next (s.gone (.ofCell i (c.val % 2)) 0x40)
  | 0x41 => .next (s.gone (.ofCell i (c.val % 2)) 0x41)
  | 0x42 => .next (s.gone (.ofCell i (c.val % 2)) 0x42)
  | 0x83 => if s.can.bus = .errorPassive ∨ (s.can.bus = .silent ∧ 128 ≤ max s.can.tec s.can.recv) then
      .next ({ s with can := s.can.errorActive }.gone .ofChip 0x83) else .next s
  | 0xC0 =>
    if s.rst.supplyFault.isSome then .next ({ s with rst := { s.rst with supplyFault := none } }.gone .ofChip 0xC0) else .next s
  | _ => .next s

/-- ASSIZE_QUEUE_WRITE (R432): the oldest queued entry is written to RNVM, or its write has failed verification (R450). -/
def execAssizeQueueWrite (ok : Bool) (s : State) : Host.Outcome State Fault Refusal :=
  if s.assize.queued = 0 ∨ s.nvm.readable = false then .next s
  else if ok then
    .next { s with assize := { s.assize with queued := s.assize.queued - 1 }, nvm := { s.nvm with writes := s.nvm.writes + 1 } }
  else .next (if s.coreUp then s.presentObj .ofChip 0xC5 0x2901 3 else s)

/-- CHECKPOINT_SIGNED (R434): CKPT_R and CKPT_S are made, then the entries queued behind them. -/
def execCheckpointSigned (s : State) : Host.Outcome State Fault Refusal := if s.dictUp then .next s.aszSigned else .next s

end Sys2Proof.Machine
end

