-- ==== Sys2Proof/Machine/Furlong.lean ====
section
/-! DEFINITION. Events on the Furlong ports (chapter 14): link control blocks, training, packets received, ring slots granted. -/
namespace Sys2Proof.Machine

/-! ## Training (R310–R312, R316) -/

/-- LINK_PLL_LOCKED (R310): the link PLL locks, and ports that are DOWN begin to train. -/
def execLinkPllLocked (s : State) : Host.Outcome State Fault Refusal :=
  let s : State := { s with pll := { s.pll with linkLocked := true } }
  if s.rst.phase = .inReset ∧ s.rst.cause ≤ 2 then .next s
  else .next (s.forEach [0, 1] fun p s => if (s.port p).state = .down then s.portTrain p else s)

/-- IDLE_BLOCK (R311): deleted or inserted without effect. -/
def execIdleBlock (_port : Fin 2) (s : State) : Host.Outcome State Fault Refusal := .next s

/-- A PING with the sender's time (Table 14.1). -/
def State.sendPing (s : State) (p : Fin 2) : State := s.sendBlock p (ctlBlock 0x88 (grains s.clock))

/-- LANE_ALIGN_BLOCK (R310): a training lane is locked and aligned; the first width starts the latency measurement. -/
def execLaneAlignBlock (port : Fin 2) (lane : Fin 4) (s : State) : Host.Outcome State Fault Refusal :=
  let q := s.port port
  if q.state = .training then
    let s := s.modPort port fun q =>
      { q with locked := vmod q.locked lane fun _ => true, aligned := vmod q.aligned lane fun _ => true }
    .next (if q.widthOf = 0 ∧ (s.port port).widthOf ≠ 0 then s.sendPing port else s)
  else .next s

/-- BLOCK_LOCK_LOST (R310): 16 invalid headers within 64. -/
def execBlockLockLost (port : Fin 2) (lane : Fin 4) (s : State) : Host.Outcome State Fault Refusal :=
  .next (s.modPort port fun q =>
    { q with locked := vmod q.locked lane fun _ => false, aligned := vmod q.aligned lane fun _ => false })

/-- PING_BLOCK (R310): answered by a PONG; its residence time is a free value. -/
def execPingBlock (port : Fin 2) (time : BitVec 52) (s : State) : Host.Outcome State Fault Refusal :=
  if (s.port port).state = .down then .next s
  else .next (s.drawn.sendBlock port (ctlBlock 0x89 (time + s.fresh 52).toNat))

/-- PONG_BLOCK (R310): a latency sample of a training port, half of the receive time less the PONG's value; the next PING
follows until 64 samples are there. -/
def execPongBlock (port : Fin 2) (time : BitVec 52) (s : State) : Host.Outcome State Fault Refusal :=
  let q := s.port port
  if q.state = .training ∧ q.samples.length < 64 then
    let gap := (BitVec.ofNat 52 (grains s.clock) - time).toNat
    let s := s.modPort port fun q => { q with samples := q.samples ++ [gap / 2] }
    .next (if (s.port port).samples.length < 64 then s.sendPing port else s)
  else .next s

/-- Training may take 50 µs (R310). -/
def Port.trainEnd (q : Port) : Time := addGrains q.since (50 * usGrains : Nat)

/-- PORT_TRAINED (R310, R332): with a width and 64 samples within 50 µs the port becomes ACTIVE; STANDBY after a break in a ring,
BYPASS in a bypassed chip. LINK_LAT is the median of the samples. -/
def execPortTrained (port : Fin 2) (s : State) : Host.Outcome State Fault Refusal :=
  let q := s.port port
  match median2 q.samples with
  | none => .next s
  | some m =>
    if q.state = .training ∧ q.widthOf ≠ 0 ∧ q.samples.length = 64 ∧ ¬ before q.trainEnd s.clock then
      let st : PortState := if q.broken then .standby else if s.furlong.bypassed then .bypass else .active
      .next ((s.modPort port fun q => { q with state := st, width := q.widthOf, linkLat := BitVec.ofNat 20 (m / 2) }).linkUp)
    else .next s

/-- TRAINING_RETRY (R310): a port that has not completed training within 50 µs is DOWN; 1 ms later it trains again. -/
def execTrainingRetry (port : Fin 2) (s : State) : Host.Outcome State Fault Refusal :=
  let q := s.port port
  match q.state with
  | .training =>
    let s := s.advance q.trainEnd
    .next (s.modPort port fun q => { q with state := .down, width := 0, since := s.clock })
  | .down => .next ((s.advance (addGrains q.since msGrains)).portTrain port)
  | _ => .next s

/-- PORT_DOWN (R316): no valid block, no ACK, or a packet replayed eight times in a row. -/
def execPortDown (port : Fin 2) (s : State) : Host.Outcome State Fault Refusal :=
  match (s.port port).state with
  | .active => .next (s.portDown port)
  | .standby => .next (s.portDown port)
  | .bypass => .next (s.portDown port)
  | _ => .next s

/-- CTL_BLOCK_UNKNOWN (R312). -/
def execCtlBlockUnknown (port : Fin 2) (s : State) : Host.Outcome State Fault Refusal :=
  .next (s.modPort port fun q => { q with ctlErrs := satInc 0xFFFF q.ctlErrs })

/-! ## Replay and credits (R313–R315) -/

/-- `a` is at or before `b` in the order of LSEQ. -/
def seqLe (a b : BitVec 16) : Bool := decide ((b - a).toNat < 0x8000)

/-- ACK_BLOCK (R313): the replay buffer is released up to LSEQ. -/
def execAckBlock (port : Fin 2) (lseq : BitVec 16) (s : State) : Host.Outcome State Fault Refusal :=
  .next (s.modPort port fun q =>
    { q with replay := q.replay.filter fun e => !seqLe e.1 lseq, replayRow := if seqLe q.replaySeq lseq then 0 else q.replayRow })

/-- NAK_BLOCK (R314, R316): retransmission from LSEQ; a packet replayed eight times in a row takes the port DOWN. -/
def execNakBlock (port : Fin 2) (lseq : BitVec 16) (s : State) : Host.Outcome State Fault Refusal :=
  let q := s.port port
  let again := q.replay.filter fun e => seqLe lseq e.1
  if q.carries && !again.isEmpty then
    let row := if q.replayRow ≠ 0 ∧ q.replaySeq = lseq then q.replayRow + 1 else 1
    let s := s.modPort port fun q =>
      { q with out := q.out ++ again.map (fun e => TxBlock.packet e.1 e.2), replays := satInc 0xFFFF q.replays, replayRow := row,
               replaySeq := lseq }
    .next (if row < 8 then s else s.portDown port)
  else .next s

/-- CREDIT_BLOCK (R315). -/
def execCreditBlock (port : Fin 2) (vc : Fin 3) (words : BitVec 14) (s : State) : Host.Outcome State Fault Refusal :=
  .next (s.modPort port fun q => { q with credits := vmod q.credits vc (· + words.toNat) })

/-- ACK_TIMER (R313): a microsecond has passed with packets unacknowledged. -/
def execAckTimer (port : Fin 2) (s : State) : Host.Outcome State Fault Refusal :=
  if (s.port port).ackOwed then .next (s.sendAck port) else .next s

/-! ## Enumeration and breaks (R323, R330) -/

/-- ENUM_BLOCK (R323): accepted while ADDR is 0 or ENUM_EN is 1, else passed on unchanged. -/
def execEnumBlock (port : Fin 2) (next : BitVec 16) (accLat : BitVec 32) (s : State) : Host.Outcome State Fault Refusal :=
  if s.furlong.addr = 0 ∨ bitOf (s.cfg 0x2200 1) 1 then .next (s.enumerated port next accLat)
  else .next (s.sendBlock (otherPort port) (ctlBlock 0x84 (at_ next.toNat 40 + at_ accLat.toNat 8)))

/-- ENUM_END_BLOCK (R323). -/
def execEnumEndBlock (port : Fin 2) (last : BitVec 16) (s : State) : Host.Outcome State Fault Refusal :=
  .next (s.enumEnd port last)

/-- BREAK_BLOCK (R330): forwarded, then REACH narrows and the host port turns where the break lies on its side. -/
def execBreakBlock (port : Fin 2) (edge : BitVec 16) (dir : Bool) (s : State) : Host.Outcome State Fault Refusal :=
  .next ((s.sendBlock (otherPort port) (ctlBlock 0x86 (breakContent edge dir))).breakSeen edge dir)

/-! ## Packets received (R314, R317, R324) -/

/-- The CRC of a packet's trailer (R317). -/
def packetCrc (h0 : BitVec 64) (payload : List (BitVec 64)) : BitVec 32 :=
  crc32 ((h0 :: payload).flatMap fun w => bytesLE w.toNat 8)

/-- A packet on its way through: from port `p` to the opposite port, or nowhere. CORR of a SYNC packet will count from its
arrival less the LINK_LAT of the arrival port (R328). -/
def State.passOn (s : State) (p out : Fin 2) (pk : Packet) : State :=
  let w : TxWait :=
    { through := true, packet := pk, held := some p, stamp := addGrains s.clock (-((s.port p).linkLat.toNat : Int)) }
  if out = p then s.dropAt p w else s.toPort out w

/-- A message that the chip can act on: SYNC, TRIG, a TXN message 1–5, a DICT READ, WRITE or RESET. -/
def Packet.served (pk : Packet) : Bool :=
  let op := field (pk.payload.getD 0 0).toNat 63 56
  match pk.type with
  | 2 => op == 1 || op == 2 || op == 4
  | 3 => decide (1 ≤ op) && decide (op ≤ 5)
  | 4 => true
  | 5 => true
  | _ => false

/-- A DICT RESET. -/
def Packet.isReset (pk : Packet) : Bool := pk.type == 2 && field (pk.payload.getD 0 0).toNat 63 56 == 4

/-- The chip consumes a packet: one addressed to it, whose words its buffer holds (`own`), or a broadcast that is passed on
as well. In a bypassed chip only a broadcast RESET is inspected; while the dictionary is not available, packets addressed to
the chip are dropped (R333, R444). -/
def State.consume (s : State) (p : Fin 2) (pk : Packet) (own : Bool) : State :=
  let w : TxWait := { through := true, packet := pk, held := if own then some p else none, stamp := 0 }
  let up := s.dictUp || (s.furlong.bypassed && !own && pk.isReset)
  let drop := own && (!up || pk.type == 0 || pk.type == 1 || decide (6 ≤ pk.type))
  if drop then s.dropAt p w
  else if up && pk.served && !(pk.rev && s.reaches pk.src) then
    { s with furlong := { s.furlong with
        inbox := s.furlong.inbox ++ [{ port := p, packet := pk, time := s.clock, credit := own }] } }
  else s.released w

/-- Where a packet goes (R324). -/
def State.routed (s : State) (p : Fin 2) (pk : Packet) : State :=
  let d := pk.dest
  if d = 0xFFFF then (s.passOn p (otherPort p) pk).consume p pk false
  else if d = s.furlong.addr.toNat ∧ d ≠ 0 then s.consume p pk true
  else s.passOn p (s.egressOf d) pk

/-- The egress on which a packet would be cut through at once. -/
def State.cutsInto (s : State) (p : Fin 2) (pk : Packet) : Option (Fin 2) :=
  let own := pk.dest = s.furlong.addr.toNat ∧ pk.dest ≠ 0
  let out := if pk.dest = 0xFFFF then otherPort p else s.egressOf pk.dest
  if own ∨ out = p ∨ !(s.port out).carries ∨ !(s.port out).txWait.isEmpty then none else some out

/-- A packet that fails (R314): the copy being cut through ends with STOMP, and a NAK asks for the replay. -/
def State.refusePacket (s : State) (p : Fin 2) (pk : Packet) (nak crc : Bool) : State :=
  let s := s.modPort p fun q => { q with waitReplay := true, crcErrs := if crc then satInc 0xFFFF q.crcErrs else q.crcErrs }
  let s := match s.cutsInto p pk with
    | some out => s.sendBlock out (.packet (s.port out).txSeq { pk with stomp := true })
    | none => s
  if nak then s.sendNak p else s

/-- PACKET_RECEIVE (R313, R314, R317, R324). -/
def execPacketReceive (port : Fin 2) (lseq : BitVec 16) (h0 : BitVec 64) (payload : List (BitVec 64)) (trailer : BitVec 64)
    (s : State) : Host.Outcome State Fault Refusal :=
  let q := s.port port
  let pk : Packet := { h0 := h0, payload := payload, stomp := false }
  let sound := packetCrc h0 payload == trailer.setWidth 32 && (pk.length == 0 || payload.length == pk.length)
  if !q.carries then .next s
  else if lseq ≠ q.rxSeq then
    let s := if sound then s else s.modPort port fun q => { q with crcErrs := satInc 0xFFFF q.crcErrs }
    (if q.waitReplay ∨ trailer.getLsbD 63 then .next s
     else .next ((s.modPort port fun q => { q with waitReplay := true }).sendNak port))
  else if trailer.getLsbD 63 then .next (s.refusePacket port pk false (!sound))
  else if !sound then .next (s.refusePacket port pk true true)
  else
    let s := s.modPort port fun q =>
      { q with rxSeq := q.rxSeq + 1, waitReplay := false, rxUnacked := q.rxUnacked + pk.words, ackOwed := true }
    let s := if (s.port port).rxUnacked < 256 then s else s.sendAck port
    if pk.length = 0 then
      .next ((s.modPort port fun q => { q with ctlErrs := satInc 0xFFFF q.ctlErrs }).sendCredit port (vcOf pk.type) pk.words)
    else .next (s.routed port pk)

/-! ## SYNC and TRIG packets (R273, R328) -/

/-- TRIG_PACKET_RX (R273). -/
def execTrigPacketRx (s : State) : Host.Outcome State Fault Refusal :=
  match s.takeInbox fun p => p.packet.type == 5 with
  | none => .next s
  | some (p, s) =>
    .next (s.chainArrive (Fin.ofNat 8 (p.word 1)) (timeOf64 p.time (BitVec.ofNat 64 (p.word 0))) p.time)

/-- SSEQs of which further copies are known: those of the last 16 SYNC packets accepted (DESIGN CHOICE, log entry 1412: SSEQ wraps). -/
def sseqDepth : Nat := 16

/-- SYNC_PACKET_RX (R78, R328): the first copy of an SSEQ that is not rerouted is, with SOURCE = 1, a SYNC edge at its arrival
less CORR and the LINK_LAT of the arrival port. -/
def execSyncPacketRx (s : State) : Host.Outcome State Fault Refusal :=
  match s.takeInbox fun p => p.packet.type == 4 with
  | none => .next s
  | some (p, s) =>
    let n := BitVec.ofNat 16 (p.word 0 / 2 ^ 32)
    if p.packet.rev || s.furlong.sseqs.contains n then .next s
    else
      let s : State := { s with furlong := { s.furlong with sseqs := (n :: s.furlong.sseqs).take sseqDepth } }
      if s.cfg 0x2120 1 = 1 then
        let t := addGrains p.time (-((p.word 0 % 2 ^ 32 + (s.port p.port).linkLat.toNat : Nat) : Int))
        .next (s.syncAccepted (addGrains t (-s.skewOffset)))
      else .next s

/-! ## Ring slots (R27, R28, R315, R325) -/

/-- A candidate for a ring slot: a packet that waits, by its place, or the closed packet of a site. -/
inductive RingPick where
  | waiting (n : Nat)
  | site (i : Fin 64)
  deriving DecidableEq, Repr

/-- A packet of a type and a number of words may start: credits and room in the replay buffer. -/
def Port.mayStart (q : Port) (type words : Nat) : Bool :=
  decide (words ≤ q.credits[(vcOf type).val]) && decide (q.replayWords + words ≤ 2048)

/-- Words of the packet at the head of a site's FIFO, with D0, header and trailer. -/
def State.packetSize (s : State) (i : Fin 64) : Nat × Nat :=
  match s.packetWords i with
  | [] => (0, 0)
  | w :: ws => if w.stream = .marks then (1, ws.length + 3) else (0, ws.length + 4)

/-- A site offers a closed packet that may start at port `p`. -/
def State.siteOffers (s : State) (p : Fin 2) (i : Fin 64) : Bool :=
  s.packetClosed i && (s.port p).mayStart (s.packetSize i).1 (s.packetSize i).2

/-- The regions in their turn. -/
def State.regionTurns (s : State) : List (Fin 4) := (List.range 4).map fun k => Fin.ofNat 4 (s.furlong.egressPos + k)

/-- The site that is next in a region. -/
def State.siteTurn (s : State) (p : Fin 2) (q : Fin 4) : Option (Fin 64) :=
  let reqs := (List.range 16).filter fun k => s.siteOffers p (siteAt q (Fin.ofNat 16 k))
  ((s.furlong.egress[q.val]).winner (fun _ => 1) reqs).map fun k => siteAt q (Fin.ofNat 16 k)

/-- The region that a waiting TRIG packet of this chip comes from. -/
def TxWait.trigRegion (w : TxWait) : Option Nat :=
  if !w.through && w.packet.type == 5 then some (field ((w.packet.payload.getD 1 0).toNat) 4 3) else none

/-- The place of the first waiting packet of a class, forwarded or own. Where it is a TRIG packet of this chip, the regions take
turns with theirs (R27, R28). -/
def Port.waitingIdx (q : Port) (through : Bool) (cls : Nat) : Option Nat :=
  match q.txWait.findIdx? fun w => w.through == through && classOf w.packet.type == cls with
  | none => none
  | some n =>
    if ((q.txWait[n]?).bind (·.trigRegion)).isSome then
      (List.range 4).findSome? fun k => q.txWait.findIdx? fun w => w.trigRegion == some ((q.trigPos + k) % 4)
    else some n

/-- The waiting packet of a class that goes next, forwarded or own, when it may start. -/
def State.waitingPick (s : State) (p : Fin 2) (through : Bool) (cls : Nat) : Option RingPick :=
  let q := s.port p
  match q.waitingIdx through cls with
  | none => none
  | some n => match q.txWait[n]? with
    | some w => if q.mayStart w.packet.type w.packet.words then some (.waiting n) else none
    | none => none

/-- The chip's own candidate of a class: a packet that waits, else the site streams at the port they leave by. -/
def State.ownPick (s : State) (p : Fin 2) (cls : Nat) : Option RingPick :=
  match s.waitingPick p false cls with
  | some x => some x
  | none =>
    if cls = 5 ∧ s.dictUp ∧ s.egressOf (field (s.cfg 0x2A02 1) 15 0) = p then
      (s.regionTurns.findSome? fun q => s.siteTurn p q).map RingPick.site
    else none

/-- The candidate of a class: forwarded packets and own ones in the proportion THROUGH : 1. -/
def State.classPick (s : State) (p : Fin 2) (cls : Nat) : Option RingPick :=
  match s.waitingPick p true cls, s.ownPick p cls with
  | some a, some b => if (s.port p).own < s.furlong.through.toNat then some a else some b
  | some a, none => some a
  | none, b => b

/-- The next ring slot of a port: fixed class priority. -/
def State.ringPick (s : State) (p : Fin 2) : Option RingPick := [1, 2, 3, 4, 5].findSome? fun c => s.classPick p c

/-- CORR of a SYNC packet as it leaves (R328). -/
def Packet.corrected (pk : Packet) (stamp now : Time) : Packet :=
  if pk.type = 4 then
    { pk with payload := pk.payload.map fun w =>
        BitVec.ofNat 64 (field w.toNat 63 32 * 2 ^ 32 + ofInt ((field w.toNat 31 0 : Nat) + span stamp now) 32) }
  else pk

/-- A packet leaves by a port with its LSEQ. -/
def State.launch (s : State) (p : Fin 2) (w : TxWait) : State :=
  let pk := w.packet.corrected w.stamp s.clock
  let s := s.modPort p fun q =>
    { q with out := q.out ++ [.packet q.txSeq pk], replay := q.replay ++ [(q.txSeq, pk)], txSeq := q.txSeq + 1,
             credits := vmod q.credits (vcOf pk.type) (· - pk.words), own := if w.through then q.own + 1 else 0,
             trigPos := match w.trigRegion with
               | some r => (r + 1) % 4
               | none => q.trigPos }
  s.released w

/-- The closed packet of a site leaves. -/
def State.launchSite (s : State) (p : Fin 2) (i : Fin 64) : State :=
  let r := s.takePacket i
  let s := r.1
  let type := r.2.1
  let dest := field (s.cfg 0x2A02 1) 15 0
  let words := r.2.2.2
  let pk : Packet :=
    { h0 := headerOf dest s.furlong.addr.toNat type i.val r.2.2.1 words.length (s.seqOf type i.val).toNat, payload := words,
      stomp := false }
  let q := regionOf i
  let s := s.tookSeq type i.val
  let s : State := { s with furlong := { s.furlong with
    egress := vmod s.furlong.egress q fun a => a.granted (fun _ => 1) (localOf i).val, egressPos := (q.val + 1) % 4 } }
  s.launch p { through := false, packet := pk, held := none, stamp := 0 }

/-- RING_SLOT_GRANT (R28, R325): a port that carries packets sends the next one. -/
def execRingSlotGrant (port : Fin 2) (s : State) : Host.Outcome State Fault Refusal :=
  if (s.port port).carries then
    match s.ringPick port with
    | none => .next s
    | some (.site i) => .next (s.launchSite port i)
    | some (.waiting n) =>
      match (s.port port).txWait[n]? with
      | some w => .next ((s.modPort port fun q => { q with txWait := q.txWait.eraseIdx n }).launch port w)
      | none => .next s
  else .next s

end Sys2Proof.Machine
end

