-- ==== Sys2Proof/Machine/FurlongDict.lean ====
section
/-! DEFINITION. Dictionary access over Furlong (R319–R322). -/
namespace Sys2Proof.Machine

/-! ## Requests and replies (Table 14.5) -/

/-- A request: index, first subindex, COUNT, TAG. -/
structure DictReq where
  index : Nat
  sub   : Nat
  count : Nat
  tag   : BitVec 16
  deriving DecidableEq, Repr

/-- The request in P0. -/
def dictReq (w : Nat) : DictReq :=
  { index := field w 47 32, sub := field w 31 24, count := field w 23 16, tag := BitVec.ofNat 16 w }

/-- A DICT packet with operation `op`. -/
def isDict (op : Nat) (p : InPacket) : Bool := p.packet.type == 2 && field (p.word 0) 63 56 == op

/-- P0 of a REPLY. -/
def DictReq.reply (r : DictReq) (d : Dstat) : BitVec 64 :=
  BitVec.ofNat 64 (at_ 3 56 + at_ d 48 + at_ r.index 32 + at_ r.sub 24 + at_ r.count 16 + r.tag.toNat)

/-- 32-bit words, two to a packet word. -/
def pairWords : List Word → List (BitVec 64)
  | [] => []
  | [a] => [a.setWidth 64]
  | a :: b :: rest => (b ++ a) :: pairWords rest

/-- Packet words as 32-bit words. -/
def splitWords (ws : List (BitVec 64)) : List Word := ws.flatMap fun w => [w.setWidth 32, w.extractLsb' 32 32]

/-- Bytes packed into packet words, least significant byte first. -/
def packBytes (bs : List Byte) : List (BitVec 64) := (byteGroups 8 bs).map (BitVec.ofNat 64)

/-! ## The memory of a hop (R320) -/

/-- What is remembered of a hop. -/
def State.hopOf (s : State) (hop : BitVec 16) : Option HopMemory := s.furlong.hops.find? fun h => h.hop == hop

/-- Puts a record at its place by hop. -/
def insertHop (h : HopMemory) : List HopMemory → List HopMemory
  | [] => [h]
  | x :: xs => if h.hop.toNat < x.hop.toNat then h :: x :: xs else if h.hop = x.hop then h :: xs else x :: insertHop h xs

/-- The stored reply of a repeated request. -/
def State.storedReply (s : State) (hop tag : BitVec 16) (offset : Option (BitVec 32)) : Option (List (BitVec 64)) :=
  match s.hopOf hop with
  | some h => if h.tag = tag ∧ h.offset = offset then some h.reply else none
  | none => none

/-- A reply goes to the request's source and is kept. -/
def State.replied (s : State) (hop tag : BitVec 16) (offset : Option (BitVec 32)) (reply : List (BitVec 64)) : State :=
  let s : State := { s with furlong := { s.furlong with
    hops := insertHop { hop := hop, tag := tag, offset := offset, reply := reply } s.furlong.hops } }
  s.sendChip 2 hop.toNat reply

/-- A request is served by `f`, or its stored reply is sent again. -/
def State.serveDict (s : State) (hop tag : BitVec 16) (offset : Option (BitVec 32)) (f : State → State × List (BitVec 64)) :
    State :=
  match s.storedReply hop tag offset with
  | some reply => s.sendChip 2 hop.toNat reply
  | none =>
    let r := f s
    r.1.replied hop tag offset r.2

/-! ## Numbered subindices -/

/-- A run stays among the subindices of its object. -/
def DictReq.runOk (r : DictReq) : Bool := decide (r.sub + r.count ≤ 256)

/-- The values of a run with the first refusal, each read in a CK_SEQ cycle of its own (R47, R50); a refused subindex reads 0.
With the state after the accesses. -/
def State.readRun (s : State) (index : Nat) : Nat → Nat → State × Dstat × List Word
  | 0, _ => (s, 0, [])
  | n + 1, sub =>
    let s := if s.dictUp then s.served 1 else s
    let a := s.readWords (addrOf index sub)
    let b := s.readRun index n (sub + 1)
    (b.1, if a.2 ≠ 0 then a.2 else b.2.1, a.1 ++ b.2.2)

/-- A READ of numbered subindices. A reply whose values no packet could hold carries LENGTH and none. -/
def State.dictRead (s : State) (r : DictReq) : State × List (BitVec 64) :=
  if !r.runOk then (s, [r.reply 2])
  else
    let v := s.readRun r.index r.count r.sub
    let ws := pairWords v.2.2
    (v.1, if 254 < ws.length then [r.reply 5] else r.reply v.2.1 :: ws)

/-- A WRITE of numbered subindices (R52). -/
def State.dictWrite (s : State) (hop : BitVec 16) (r : DictReq) (ws : List (BitVec 64)) : State × Dstat :=
  if !r.runOk then (s, 2)
  else
    let n := ((List.range r.count).map fun k => wordsAt (addrOf r.index (r.sub + k))).sum
    let words := splitWords ws
    if words.length = n ∨ (words.length = n + 1 ∧ words.getLast? = some 0) then
      match cutRun r.index r.count r.sub (words.take n) with
      | some run => s.writeWords (.furlong hop) run
      | none => (s, 5)
    else (s, 5)

/-! ## DOMAIN objects (R321) -/

/-- OFFSET, LAST and bytes wanted of P1. -/
def fragOffset (w : Nat) : BitVec 32 := BitVec.ofNat 32 w
def fragLast (w : Nat) : Bool := bitOf w 32
def fragWanted (w : Nat) : Nat := field w 47 32

/-- A READ of a part of a DOMAIN object. The reply's P1 holds OFFSET, and LAST where the part reaches the end. -/
def State.dictDomainRead (s : State) (r : DictReq) (p1 : Nat) : State × List (BitVec 64) :=
  let addr := addrOf r.index r.sub
  let off := (fragOffset p1).toNat
  match s.domainLen addr with
  | .refused d => (s, [r.reply d])
  | .ok len =>
    if fragWanted p1 < 8 ∨ 2024 < fragWanted p1 then (s, [r.reply 5])
    else
      let bs := s.domainBytes addr off (fragWanted p1)
      (s.served (domainAccesses bs), r.reply 0 :: BitVec.ofNat 64 (off + at_ (b2n (decide (len ≤ off + bs.length))) 32) :: packBytes bs)

/-- The transfer that a hop holds open. -/
def State.transferOf (s : State) (hop : BitVec 16) : Option HopTransfer := s.furlong.transfers.find? fun t => t.hop == hop

/-- A hop holds no transfer open. -/
def State.transferClosed (s : State) (hop : BitVec 16) : State :=
  { s with furlong := { s.furlong with transfers := s.furlong.transfers.filter fun t => t.hop != hop } }

/-- Puts a transfer at its place by hop. -/
def insertTransfer (h : HopTransfer) : List HopTransfer → List HopTransfer
  | [] => [h]
  | x :: xs => if h.hop.toNat < x.hop.toNat then h :: x :: xs else if h.hop = x.hop then h :: xs else x :: insertTransfer h xs

/-- A transfer of a hop is given up: its memory's error reads ABORTED. -/
def State.transferAborted (s : State) (hop : BitVec 16) : State :=
  match s.transferOf hop with
  | none => s
  | some t => (s.domainAbort (addrOf t.index t.sub)).transferClosed hop

/-- An overlay image without the zero bytes that fill its last packet word (DEDUCED, log entry 1406). -/
def unpadded (addr : Nat) (bs : List Byte) : List Byte :=
  let n := imageLength bs
  if indexOf addr = 0x2312 ∧ bs.length < n + 8 ∧ (bs.drop n).all (· == 0) then bs.take n else bs

/-- Bytes of a fragment join a transfer; the last one completes it. -/
def State.fragmentJoins (s : State) (t : HopTransfer) (bs : List Byte) (last : Bool) : State × Dstat :=
  let addr := addrOf t.index t.sub
  let t : HopTransfer := { t with bytes := t.bytes ++ bs, last := s.clock }
  if last then (s.transferClosed t.hop).domainEnd addr (unpadded addr t.bytes)
  else if bs.length ≠ 2024 then ((s.domainAbort addr).transferClosed t.hop, 5)
  else ({ s with furlong := { s.furlong with transfers := insertTransfer t s.furlong.transfers } }, 0)

/-- A WRITE fragment of a DOMAIN object. -/
def State.dictFragment (s : State) (hop : BitVec 16) (r : DictReq) (p1 : Nat) (ws : List (BitVec 64)) : State × Dstat :=
  let bs := ws.flatMap fun w => bytesLE w.toNat 8
  let off := (fragOffset p1).toNat
  let fits : Option HopTransfer := match s.transferOf hop with
    | some t => if t.index = r.index ∧ t.sub = r.sub ∧ t.bytes.length = off then some t else none
    | none => none
  match fits with
  | some t => s.fragmentJoins t bs (fragLast p1)
  | none =>
    let s := s.transferAborted hop
    if off ≠ 0 then (s, 8)
    else
      let b := s.domainBegin (addrOf r.index r.sub)
      if b.2 ≠ 0 then b
      else b.1.fragmentJoins { hop := hop, index := r.index, sub := r.sub, bytes := [], last := b.1.clock } bs (fragLast p1)

/-! ## The events -/

/-- A DOMAIN access in progress is told apart by its OFFSET. -/
def fragmentOf (r : DictReq) (p1 : Nat) : Option (BitVec 32) := if r.count = 0 then some (fragOffset p1) else none

/-- DICT_PKT_READ (R319, R320). -/
def execDictPktRead (s : State) : Host.Outcome State Fault Refusal :=
  match s.takeInbox (isDict 1) with
  | none => .next s
  | some (p, s) =>
    let r := dictReq (p.word 0)
    let hop := BitVec.ofNat 16 p.packet.src
    .next (s.serveDict hop r.tag (fragmentOf r (p.word 1)) fun s =>
      if r.count = 0 then s.dictDomainRead r (p.word 1) else s.dictRead r)

/-- DICT_PKT_WRITE (R319–R321). A write of numbered subindices of a DOMAIN object that the hop is transferring ends nothing. -/
def execDictPktWrite (s : State) : Host.Outcome State Fault Refusal :=
  match s.takeInbox (isDict 2) with
  | none => .next s
  | some (p, s) =>
    let r := dictReq (p.word 0)
    let hop := BitVec.ofNat 16 p.packet.src
    .next (s.serveDict hop r.tag (fragmentOf r (p.word 1)) fun s =>
      let t := if r.count = 0 then s.dictFragment hop r (p.word 1) (p.packet.payload.drop 2)
               else s.dictWrite hop r (p.packet.payload.drop 1)
      (t.1, [r.reply t.2]))

/-- DICT_PKT_RESET (R322): addressed to the chip with UNIQUE_ID 0 or its own, or broadcast with its own. It ends bypass (R333). -/
def execDictPktReset (s : State) : Host.Outcome State Fault Refusal :=
  match s.takeInbox (isDict 4) with
  | none => .next s
  | some (p, s) =>
    let own := p.word 1 = uniqueId.toNat
    if own ∨ (p.packet.dest ≠ 0xFFFF ∧ p.word 1 = 0) then .next (s.chipReset 3) else .next s

/-- DICT_FRAGMENT_TIMEOUT (R321): no fragment for 10 ms. -/
def execDictFragmentTimeout (hop : BitVec 16) (s : State) : Host.Outcome State Fault Refusal :=
  match s.transferOf hop with
  | none => .next s
  | some t => .next ((s.advance (addGrains t.last (10 * msGrains : Nat))).transferAborted hop)

end Sys2Proof.Machine
end

