-- ==== Sys2Proof/Machine/HostWrites.lean ====
section
/-! DEFINITION. The commands that are writes of one subindex or of one DOMAIN object: each reaches the access unit from an
interface, which checks it, stages or applies it, and answers it (R39, R40, R42, R54). -/
namespace Sys2Proof.Machine

/-- STATE_REQ_POWER_UP (R29): STATE_REQ = 1. -/
def execStateReqPowerUp (iface : Iface) (i : Fin 64) (s : State) : Host.Outcome State Fault Refusal :=
  .next (s.hostWrite iface (siteAddr i 0x00 1) 1)

/-- STATE_REQ_POWER_DOWN (R29): STATE_REQ = 2. -/
def execStateReqPowerDown (iface : Iface) (i : Fin 64) (s : State) : Host.Outcome State Fault Refusal :=
  .next (s.hostWrite iface (siteAddr i 0x00 1) 2)

/-- STATE_REQ_UNPARK (R29): STATE_REQ = 3. -/
def execStateReqUnpark (iface : Iface) (i : Fin 64) (s : State) : Host.Outcome State Fault Refusal :=
  .next (s.hostWrite iface (siteAddr i 0x00 1) 3)

/-- STATE_REQ_PARK (R29): STATE_REQ = 4. -/
def execStateReqPark (iface : Iface) (i : Fin 64) (s : State) : Host.Outcome State Fault Refusal :=
  .next (s.hostWrite iface (siteAddr i 0x00 1) 4)

/-- STATE_REQ_FENCE (R29): STATE_REQ = 5. -/
def execStateReqFence (iface : Iface) (i : Fin 64) (s : State) : Host.Outcome State Fault Refusal :=
  .next (s.hostWrite iface (siteAddr i 0x00 1) 5)

/-- STATE_REQ_UNFENCE (R29): STATE_REQ = 6. -/
def execStateReqUnfence (iface : Iface) (i : Fin 64) (s : State) : Host.Outcome State Fault Refusal :=
  .next (s.hostWrite iface (siteAddr i 0x00 1) 6)

/-- MODE_CHANGE (R61, R73): PLL_MAIN_CTRL.MODE. -/
def execModeChange (iface : Iface) (mode : BitVec 8) (s : State) : Host.Outcome State Fault Refusal :=
  .next (s.hostWrite iface (addrOf 0x2100 1) mode.toNat)

/-- CKO_WRITE (R75): a subindex of an output: ENABLE, DIV_M1, DELAY, SYNC_RST. -/
def execCkoWrite (iface : Iface) (output : Fin 4) (sub : Fin 4) (value : BitVec 32)
    (s : State) : Host.Outcome State Fault Refusal :=
  .next (s.hostWrite iface (addrOf (0x2110 + output.val) (sub.val + 1)) value.toNat)

/-- PC_FLAG_CLR (R92). -/
def execPcFlagClr (iface : Iface) (i : Fin 64) (c : Fin 8) (bits : BitVec 32)
    (s : State) : Host.Outcome State Fault Refusal :=
  .next (s.hostWrite iface (siteAddr i 0x26 (c.val + 1)) bits.toNat)

/-- OWNER_CHANGE (R96): PC_MODE, whose OWNER hands the ball over. -/
def execOwnerChange (iface : Iface) (i : Fin 64) (c : Fin 8) (mode : BitVec 32)
    (s : State) : Host.Outcome State Fault Refusal :=
  .next (s.hostWrite iface (siteAddr i 0x22 (c.val + 1)) mode.toNat)

/-- PPMU_IRANGE_CHANGE (R97): PC_PPMU, whose IRANGE changes. -/
def execPpmuIrangeChange (iface : Iface) (i : Fin 64) (c : Fin 8) (value : BitVec 32)
    (s : State) : Host.Outcome State Fault Refusal :=
  .next (s.hostWrite iface (siteAddr i 0x23 (c.val + 1)) value.toNat)

/-- PPMU_START (R100): PC_PPMU with START. -/
def execPpmuStart (iface : Iface) (i : Fin 64) (c : Fin 8) (value : BitVec 32)
    (s : State) : Host.Outcome State Fault Refusal :=
  .next (s.hostWrite iface (siteAddr i 0x23 (c.val + 1)) (value ||| 0x100#32).toNat)

/-- TIMING_FLAG_CLR (R114). -/
def execTimingFlagClr (iface : Iface) (i : Fin 64) (c : Fin 8) (bits : BitVec 32)
    (s : State) : Host.Outcome State Fault Refusal :=
  .next (s.hostWrite iface (siteAddr i 0x52 (c.val + 1)) bits.toNat)

/-- PSQ_START (R146). -/
def execPsqStart (iface : Iface) (i : Fin 64) (s : State) : Host.Outcome State Fault Refusal :=
  .next (s.hostWrite iface (siteAddr i 0x60 1) 1)

/-- PSQ_STOP (R146). -/
def execPsqStop (iface : Iface) (i : Fin 64) (s : State) : Host.Outcome State Fault Refusal :=
  .next (s.hostWrite iface (siteAddr i 0x60 1) 2)

/-- PSQ_GOTO (R145). -/
def execPsqGoto (iface : Iface) (i : Fin 64) (target : BitVec 16) (s : State) : Host.Outcome State Fault Refusal :=
  .next (s.hostWrite iface (siteAddr i 0x64 1) target.toNat)

/-- PSQ_FLAG_CLR (R128). -/
def execPsqFlagClr (iface : Iface) (i : Fin 64) (bits : BitVec 32) (s : State) : Host.Outcome State Fault Refusal :=
  .next (s.hostWrite iface (siteAddr i 0x67 1) bits.toNat)

/-- PSQ_FILL_REGION (R142): SRC = REGION, COUNT − 1 vectors from a vector of region memory. -/
def execPsqFillRegion (iface : Iface) (i : Fin 64) (seg : Fin 8) (count : BitVec 12) (start : BitVec 28)
    (s : State) : Host.Outcome State Fault Refusal :=
  .next (s.hostWrite iface (siteAddr i 0x66 1) (seg.val + at_ count.toNat 8 + at_ start.toNat 32))

/-- PSQ_FILL_XIP (R141): SRC = XIP. -/
def execPsqFillXip (iface : Iface) (i : Fin 64) (seg : Fin 8) (count : BitVec 12) (start : BitVec 28)
    (s : State) : Host.Outcome State Fault Refusal :=
  .next (s.hostWrite iface (siteAddr i 0x66 1) (seg.val + at_ 1 4 + at_ count.toNat 8 + at_ start.toNat 32))

/-- SEG_DATA_WRITE (R139). -/
def execSegDataWrite (iface : Iface) (i : Fin 64) (seg : Fin 8) (bytes : List (BitVec 8))
    (s : State) : Host.Outcome State Fault Refusal :=
  .next (s.hostDomain iface (siteAddr i 0x65 (seg.val + 1)) bytes)

/-- PSQ_SEG_CHAIN_WRITE (R147). -/
def execPsqSegChainWrite (iface : Iface) (i : Fin 64) (seg : Fin 8) (value : BitVec 16)
    (s : State) : Host.Outcome State Fault Refusal :=
  .next (s.hostWrite iface (siteAddr i 0x63 (seg.val + 1)) value.toNat)

/-- RG_PAT_MEM_WRITE (R143). -/
def execRgPatMemWrite (iface : Iface) (q : Fin 4) (bytes : List (BitVec 8)) (s : State) : Host.Outcome State Fault Refusal :=
  .next (s.hostDomain iface (regionAddr q 0x20 1) bytes)

/-- BU_OUTPUT_ON (R155): BU_CTRL with OUTPUT = 1. -/
def execBuOutputOn (iface : Iface) (i : Fin 64) (u : Fin 2) (ctrl : BitVec 32)
    (s : State) : Host.Outcome State Fault Refusal :=
  .next (s.hostWrite iface (siteAddr i 0x80 (u.val + 1)) (ctrl ||| 1#32).toNat)

/-- BU_OUTPUT_OFF (R155): BU_CTRL with OUTPUT = 0. -/
def execBuOutputOff (iface : Iface) (i : Fin 64) (u : Fin 2) (ctrl : BitVec 32)
    (s : State) : Host.Outcome State Fault Refusal :=
  .next (s.hostWrite iface (siteAddr i 0x80 (u.val + 1)) (ctrl &&& ~~~1#32).toNat)

/-- BU_WAVE_CHANGE (R161): BU_CTRL, whose WAVE changes. -/
def execBuWaveChange (iface : Iface) (i : Fin 64) (u : Fin 2) (ctrl : BitVec 32)
    (s : State) : Host.Outcome State Fault Refusal :=
  .next (s.hostWrite iface (siteAddr i 0x80 (u.val + 1)) ctrl.toNat)

/-- BU_SINE_WRITE (R160). -/
def execBuSineWrite (iface : Iface) (i : Fin 64) (u : Fin 2) (value : BitVec 64)
    (s : State) : Host.Outcome State Fault Refusal :=
  .next (s.hostWrite iface (siteAddr i 0x83 (u.val + 1)) value.toNat)

/-- BU_GAIN_CHANGE (R171): BU_RANGE, whose GAIN changes. -/
def execBuGainChange (iface : Iface) (i : Fin 64) (u : Fin 2) (value : BitVec 32)
    (s : State) : Host.Outcome State Fault Refusal :=
  .next (s.hostWrite iface (siteAddr i 0x81 (u.val + 1)) value.toNat)

/-- BU_USER_TABLE_WRITE (R163). -/
def execBuUserTableWrite (iface : Iface) (i : Fin 64) (u : Fin 2) (bytes : List (BitVec 8))
    (s : State) : Host.Outcome State Fault Refusal :=
  .next (s.hostDomain iface (siteAddr i 0x89 (u.val + 1)) bytes)

/-- BU_SAFE_VALUE_WRITE (R169). -/
def execBuSafeValueWrite (iface : Iface) (i : Fin 64) (u : Fin 2) (value : BitVec 32)
    (s : State) : Host.Outcome State Fault Refusal :=
  .next (s.hostWrite iface (siteAddr i 0x84 (u.val + 1)) value.toNat)

/-- BU_FLAG_CLR (R168). -/
def execBuFlagClr (iface : Iface) (i : Fin 64) (u : Fin 2) (bits : BitVec 32)
    (s : State) : Host.Outcome State Fault Refusal :=
  .next (s.hostWrite iface (siteAddr i 0x88 (u.val + 1)) bits.toNat)

/-- ACQ_OFF (R180): BU_ADC_CFG with ACQ = OFF. -/
def execAcqOff (iface : Iface) (i : Fin 64) (u : Fin 2) (cfg : BitVec 32) (s : State) : Host.Outcome State Fault Refusal :=
  .next (s.hostWrite iface (siteAddr i 0x85 (u.val + 1)) ((cfg &&& ~~~3#32) ||| 0#32).toNat)

/-- ACQ_CONTINUOUS (R180): BU_ADC_CFG with ACQ = CONTINUOUS. -/
def execAcqContinuous (iface : Iface) (i : Fin 64) (u : Fin 2) (cfg : BitVec 32)
    (s : State) : Host.Outcome State Fault Refusal :=
  .next (s.hostWrite iface (siteAddr i 0x85 (u.val + 1)) ((cfg &&& ~~~3#32) ||| 1#32).toNat)

/-- ACQ_MSE_MODE (R180): BU_ADC_CFG with ACQ = MSE. -/
def execAcqMseMode (iface : Iface) (i : Fin 64) (u : Fin 2) (cfg : BitVec 32)
    (s : State) : Host.Outcome State Fault Refusal :=
  .next (s.hostWrite iface (siteAddr i 0x85 (u.val + 1)) ((cfg &&& ~~~3#32) ||| 2#32).toNat)

/-- ADC_CFG_RESTART (R187): BU_ADC_CFG, whose RATE or DEMOD changes. -/
def execAdcCfgRestart (iface : Iface) (i : Fin 64) (u : Fin 2) (cfg : BitVec 32)
    (s : State) : Host.Outcome State Fault Refusal :=
  .next (s.hostWrite iface (siteAddr i 0x85 (u.val + 1)) cfg.toNat)

/-- ADC_CFG_CHANGE (R187): BU_ADC_CFG, whose ranges, source or guard change. -/
def execAdcCfgChange (iface : Iface) (i : Fin 64) (u : Fin 2) (cfg : BitVec 32)
    (s : State) : Host.Outcome State Fault Refusal :=
  .next (s.hostWrite iface (siteAddr i 0x85 (u.val + 1)) cfg.toNat)

/-- MSE_START (R200). -/
def execMseStart (iface : Iface) (i : Fin 64) (s : State) : Host.Outcome State Fault Refusal :=
  .next (s.hostWrite iface (siteAddr i 0xA0 1) 1)

/-- MSE_STOP (R204). -/
def execMseStop (iface : Iface) (i : Fin 64) (s : State) : Host.Outcome State Fault Refusal :=
  .next (s.hostWrite iface (siteAddr i 0xA0 1) 2)

/-- MSE_STORE_WRITE (R214). -/
def execMseStoreWrite (iface : Iface) (i : Fin 64) (bytes : List (BitVec 8))
    (s : State) : Host.Outcome State Fault Refusal :=
  .next (s.hostDomain iface (siteAddr i 0xA4 1) bytes)

/-- MSE_LOAD_XIP (R214). -/
def execMseLoadXip (iface : Iface) (i : Fin 64) (load : BitVec 64) (s : State) : Host.Outcome State Fault Refusal :=
  .next (s.hostWrite iface (siteAddr i 0xA5 2) load.toNat)

/-- DSP_START (R242). -/
def execDspStart (iface : Iface) (i : Fin 64) (s : State) : Host.Outcome State Fault Refusal :=
  .next (s.hostWrite iface (siteAddr i 0xC0 1) 1)

/-- DSP_STOP (R242). -/
def execDspStop (iface : Iface) (i : Fin 64) (s : State) : Host.Outcome State Fault Refusal :=
  .next (s.hostWrite iface (siteAddr i 0xC0 1) 2)

/-- H2D_WRITE (R237). -/
def execH2dWrite (iface : Iface) (i : Fin 64) (word : BitVec 32) (s : State) : Host.Outcome State Fault Refusal :=
  .next (s.hostWrite iface (siteAddr i 0xC1 1) word.toNat)

/-- DSP_PMEM_WRITE (R243). -/
def execDspPmemWrite (iface : Iface) (i : Fin 64) (bytes : List (BitVec 8)) (s : State) : Host.Outcome State Fault Refusal :=
  .next (s.hostDomain iface (siteAddr i 0xC4 1) bytes)

/-- DSP_DMEM_WRITE (R243). -/
def execDspDmemWrite (iface : Iface) (i : Fin 64) (bytes : List (BitVec 8)) (s : State) : Host.Outcome State Fault Refusal :=
  .next (s.hostDomain iface (siteAddr i 0xC5 1) bytes)

/-- DSP_LOAD_XIP (R243). -/
def execDspLoadXip (iface : Iface) (i : Fin 64) (load : BitVec 64) (s : State) : Host.Outcome State Fault Refusal :=
  .next (s.hostWrite iface (siteAddr i 0xC6 3) load.toNat)

/-- DSP_FLAG_CLR (R236). -/
def execDspFlagClr (iface : Iface) (i : Fin 64) (bits : BitVec 8) (s : State) : Host.Outcome State Fault Refusal :=
  .next (s.hostWrite iface (siteAddr i 0xC3 1) bits.toNat)

/-- TDC_RUN (R260). -/
def execTdcRun (iface : Iface) (i : Fin 64) (s : State) : Host.Outcome State Fault Refusal :=
  .next (s.hostWrite iface (siteAddr i 0xE8 1) 1)

/-- TDC_APPLY (R262). -/
def execTdcApply (iface : Iface) (i : Fin 64) (s : State) : Host.Outcome State Fault Refusal :=
  .next (s.hostWrite iface (siteAddr i 0xE8 1) 2)

/-- TDC_NOMINAL (R262). -/
def execTdcNominal (iface : Iface) (i : Fin 64) (s : State) : Host.Outcome State Fault Refusal :=
  .next (s.hostWrite iface (siteAddr i 0xE8 1) 3)

/-- TDC_SPECIAL (R263). -/
def execTdcSpecial (iface : Iface) (i : Fin 64) (s : State) : Host.Outcome State Fault Refusal :=
  .next (s.hostWrite iface (siteAddr i 0xE8 1) 4)

/-- TDC_BINS_WRITE (R262). -/
def execTdcBinsWrite (iface : Iface) (i : Fin 64) (source : Fin 13) (bytes : List (BitVec 8))
    (s : State) : Host.Outcome State Fault Refusal :=
  .next (s.hostDomain iface (siteAddr i 0xE9 (source.val + 1)) bytes)

/-- TDC_FLAG_CLR (R249). -/
def execTdcFlagClr (iface : Iface) (i : Fin 64) (c : Fin 8) (bits : BitVec 8)
    (s : State) : Host.Outcome State Fault Refusal :=
  .next (s.hostWrite iface (siteAddr i 0xEA (c.val + 1)) bits.toNat)

/-- TRIG_SITE_CLR (R270). -/
def execTrigSiteClr (iface : Iface) (i : Fin 64) (bits : BitVec 8) (s : State) : Host.Outcome State Fault Refusal :=
  .next (s.hostWrite iface (siteAddr i 0xE2 2) bits.toNat)

/-- BUSHEL_ARM (R276): BUSHEL_CFG, whose ARM changes. -/
def execBushelArm (iface : Iface) (i : Fin 64) (cfg : BitVec 32) (s : State) : Host.Outcome State Fault Refusal :=
  .next (s.hostWrite iface (siteAddr i 0xE3 1) cfg.toNat)

/-- BUSHEL_TRIGGER (R275). -/
def execBushelTrigger (iface : Iface) (i : Fin 64) (s : State) : Host.Outcome State Fault Refusal :=
  .next (s.hostWrite iface (siteAddr i 0xE3 2) 1)

/-- BUSHEL_REARM (R276). -/
def execBushelRearm (iface : Iface) (i : Fin 64) (s : State) : Host.Outcome State Fault Refusal :=
  .next (s.hostWrite iface (siteAddr i 0xE3 2) 2)

/-- TXN_OPEN (R287). -/
def execTxnOpen (iface : Iface) (group : Fin 15) (s : State) : Host.Outcome State Fault Refusal :=
  .next (s.hostWrite iface (addrOf 0x2300 1) (group.val + 1 + at_ 1 8))

/-- TXN_PREPARE (R290, R300). -/
def execTxnPrepare (iface : Iface) (group : Fin 15) (s : State) : Host.Outcome State Fault Refusal :=
  .next (s.hostWrite iface (addrOf 0x2300 1) (group.val + 1 + at_ 2 8))

/-- TXN_COMMIT (R293, R294, R300). -/
def execTxnCommit (iface : Iface) (group : Fin 15) (asap : Bool) (applyLate : Bool)
    (s : State) : Host.Outcome State Fault Refusal :=
  .next (s.hostWrite iface (addrOf 0x2300 1) (group.val + 1 + at_ 3 8 + at_ (b2n asap) 12 + at_ (b2n applyLate) 13))

/-- TXN_ABORT (R297, R300). -/
def execTxnAbort (iface : Iface) (group : Fin 15) (s : State) : Host.Outcome State Fault Refusal :=
  .next (s.hostWrite iface (addrOf 0x2300 1) (group.val + 1 + at_ 4 8))

/-- OVERLAY_STORE_WRITE (R303). -/
def execOverlayStoreWrite (iface : Iface) (slot : Fin 17) (bytes : List (BitVec 8))
    (s : State) : Host.Outcome State Fault Refusal :=
  .next (s.hostDomain iface (addrOf 0x2312 (slot.val + 1)) bytes)

/-- OVERLAY_APPLY (R304). -/
def execOverlayApply (iface : Iface) (slot : BitVec 8) (s : State) : Host.Outcome State Fault Refusal :=
  .next (s.hostWrite iface (addrOf 0x2310 1) slot.toNat)

/-- BASE_SAVE (R307). -/
def execBaseSave (iface : Iface) (s : State) : Host.Outcome State Fault Refusal :=
  .next (s.hostWrite iface (addrOf 0x2320 1) 1)

/-- BASE_ERASE (R307). -/
def execBaseErase (iface : Iface) (s : State) : Host.Outcome State Fault Refusal :=
  .next (s.hostWrite iface (addrOf 0x2320 1) 2)

/-- FL_RESTORE (R332). -/
def execFlRestore (iface : Iface) (s : State) : Host.Outcome State Fault Refusal :=
  .next (s.hostWrite iface (addrOf 0x2200 2) 1)

/-- FL_RETRAIN_UP (R310). -/
def execFlRetrainUp (iface : Iface) (s : State) : Host.Outcome State Fault Refusal :=
  .next (s.hostWrite iface (addrOf 0x2200 2) 2)

/-- FL_RETRAIN_DN (R310). -/
def execFlRetrainDn (iface : Iface) (s : State) : Host.Outcome State Fault Refusal :=
  .next (s.hostWrite iface (addrOf 0x2200 2) 3)

/-- FL_BYPASS_ENTER (R333). -/
def execFlBypassEnter (iface : Iface) (s : State) : Host.Outcome State Fault Refusal :=
  .next (s.hostWrite iface (addrOf 0x2204 1) 1)

/-- ERROR_HISTORY_CLEAR (R344). -/
def execErrorHistoryClear (iface : Iface) (s : State) : Host.Outcome State Fault Refusal :=
  .next (s.hostWrite iface (addrOf 0x1003 0) 0)

/-- TH_ACK (R372). -/
def execThAck (iface : Iface) (sites : BitVec 64) (s : State) : Host.Outcome State Fault Refusal :=
  .next (s.hostWrite iface (addrOf 0x2502 0x41) sites.toNat)

/-- TH_SENSOR_CLR (R365). -/
def execThSensorClr (iface : Iface) (sites : BitVec 64) (s : State) : Host.Outcome State Fault Refusal :=
  .next (s.hostWrite iface (addrOf 0x2505 0x41) sites.toNat)

/-- GT_ACK (R395). -/
def execGtAck (iface : Iface) (slot : BitVec 7) (rseq : BitVec 16) (s : State) : Host.Outcome State Fault Refusal :=
  .next (s.hostWrite iface (addrOf 0x2402 1) (slot.toNat + at_ rseq.toNat 16))

/-- GT_ACK_ALL (R395). -/
def execGtAckAll (iface : Iface) (s : State) : Host.Outcome State Fault Refusal :=
  .next (s.hostWrite iface (addrOf 0x2402 2) 1)

/-- CAL_REQUEST (R404). -/
def execCalRequest (iface : Iface) (s : State) : Host.Outcome State Fault Refusal :=
  .next (s.hostWrite iface (addrOf 0x2600 1) 1)

/-- CAL_CANCEL (R404). -/
def execCalCancel (iface : Iface) (s : State) : Host.Outcome State Fault Refusal :=
  .next (s.hostWrite iface (addrOf 0x2600 1) 2)

/-- CAL_SWEEP (R413). -/
def execCalSweep (iface : Iface) (s : State) : Host.Outcome State Fault Refusal :=
  .next (s.hostWrite iface (addrOf 0x2600 1) 3)

/-- CAL_FACTORY (R416). -/
def execCalFactory (iface : Iface) (s : State) : Host.Outcome State Fault Refusal :=
  .next (s.hostWrite iface (addrOf 0x2600 1) 4)

/-- CLR_WAKE (R425). -/
def execClrWake (iface : Iface) (s : State) : Host.Outcome State Fault Refusal :=
  .next (s.hostWrite iface (addrOf 0x2700 2) 1)

/-- CLR_COUNTS (R425). -/
def execClrCounts (iface : Iface) (s : State) : Host.Outcome State Fault Refusal :=
  .next (s.hostWrite iface (addrOf 0x2700 2) 2)

/-- ASZ_EXPORTED_WRITE (R435). -/
def execAszExportedWrite (iface : Iface) (value : BitVec 64) (s : State) : Host.Outcome State Fault Refusal :=
  .next (s.hostWrite iface (addrOf 0x2902 1) value.toNat)

/-- RG_TEST_MEM (R454): RUN with the bit MEM. -/
def execRgTestMem (iface : Iface) (i : Fin 64) (s : State) : Host.Outcome State Fault Refusal :=
  .next (s.hostWrite iface (regionAddr (regionOf i) 0x41 ((localOf i).val + 1)) 1)

/-- RG_TEST_LOOP (R454): RUN with the bit LOOP. -/
def execRgTestLoop (iface : Iface) (i : Fin 64) (s : State) : Host.Outcome State Fault Refusal :=
  .next (s.hostWrite iface (regionAddr (regionOf i) 0x41 ((localOf i).val + 1)) 2)

/-- RG_TEST_BRIDGE (R454): RUN with the bit BRIDGE. -/
def execRgTestBridge (iface : Iface) (i : Fin 64) (s : State) : Host.Outcome State Fault Refusal :=
  .next (s.hostWrite iface (regionAddr (regionOf i) 0x41 ((localOf i).val + 1)) 4)

/-- SPARE_ASSIGN (R455). -/
def execSpareAssign (iface : Iface) (q : Fin 4) (k : BitVec 8) (s : State) : Host.Outcome State Fault Refusal :=
  .next (s.hostWrite iface (regionAddr q 0x40 1) k.toNat)

/-- SPARE_TEST (R455). -/
def execSpareTest (iface : Iface) (q : Fin 4) (s : State) : Host.Outcome State Fault Refusal :=
  .next (s.hostWrite iface (regionAddr q 0x40 3) 1)

/-- REGISTER_WRITE (R40): a write of a subindex that has no row of its own, in 32-bit words. -/
def execRegisterWrite (iface : Iface) (index : BitVec 16) (sub : BitVec 8) (words : List (BitVec 32)) (s : State) :
    Host.Outcome State Fault Refusal :=
  let r := s.writeWords iface [(addrOf index.toNat sub.toNat, words)]
  .next (r.1.answered iface r.2 [])

end Sys2Proof.Machine
end

