-- ==== Sys2Proof/Machine/Mitten.lean ====
section
/-! DEFINITION. Mitten at work (chapter 20): the tick with its samples, filters, rules and actions, and the wake. -/
namespace Sys2Proof.Machine

/-! ## Wake (R426) -/

/-- A wake ends with a DSTAT and the stage it reached. -/
def State.wakeEnds (s : State) (dstat : Nat) (overlay : Bool) : State :=
  { s with mitten := { s.mitten with wake := .idle, result := dstat, stage := overlay } }

/-- A wake begins: stage 1 applies MODE = FULL when the PLL runs in ECONOMY. -/
def State.wakeStart (s : State) : State :=
  let s := { s with mitten := { s.mitten with pending := false, wake := .lock s.clock } }
  if s.pll.economy then
    let r := s.single .mitten [(addrOf 0x2100 1, 0)] []
    if r.2 = 0 then r.1 else r.1.wakeEnds r.2 false
  else s

/-- A wake is asked for: it merges with one in progress, and waits while the dictionary is not available (Table 20.3). -/
def State.wakeAsked (s : State) : State :=
  if s.mitten.wake ≠ .idle then s
  else if s.dictUp then s.wakeStart
  else { s with mitten := { s.mitten with pending := true } }

/-- WAKE_SLOT. -/
def State.wakeSlot (s : State) : Nat := field (s.cfg 0x2700 1) 12 8

/-- Mitten applies a slot as a single-write transaction (R304, R426). -/
def State.wakeOverlay (s : State) (k : Nat) : State × Dstat :=
  if k = 0 then (s, 0)
  else if s.slotBusy k then (s, 10)
  else if !s.slotValid k then (s, 7)
  else match s.overlayWrites (s.slotImage k) with
  | .refused d => (s, d)
  | .ok es => s.single .mitten es [s.slotApp k]

/-- WAKE_OVERLAY_STAGE (R426): the PLL reads LOCKED in FULL during a wake; the slot is applied and WOKE is set. -/
def execWakeOverlayStage (s : State) : Host.Outcome State Fault Refusal :=
  if s.mitten.wake ≠ .idle ∧ s.pllReady then
    let r := s.wakeOverlay s.wakeSlot
    let t := r.1.wakeEnds r.2 true
    .next (if r.2 = 0 then { t with mitten := { t.mitten with woke := true } } else t)
  else .next s

/-- WAKE_LOCK_TIMEOUT (R426): FULL and LOCKED have not both held within 1 ms of stage 1. -/
def execWakeLockTimeout (s : State) : Host.Outcome State Fault Refusal :=
  match s.mitten.wake with
  | .lock t0 => if s.pllReady then .next s else .next ((s.advance (addGrains t0 (msGrains : Nat))).wakeEnds 8 true)
  | .idle => .next s

/-! ## Samples (R419, R420) -/

/-- What a tick finds outside the chip's registers: the conversions by SRC (0–7 sensor codes, 24–30 mV), and the outputs of each
cell's comparators as a SAMPLED window captures them, 2 × CMP_HI + CMP_LO by global pin. -/
structure TickInputs where
  analogue : List (BitVec 16)
  outputs  : List (BitVec 2)
  deriving DecidableEq, Repr

/-- A sensor's sample; none for code 0 or 4,095. -/
def sensorSample (code : Nat) : Option Int := if code = 0 ∨ code = 4095 then none else some (code : Nat)

/-- The sample of a comparator slot: a SAMPLED cell as just captured, a CONTINUOUS one as it stands. -/
def State.cmpSample (s : State) (pin : Nat) : Option Int :=
  let i : Fin 64 := Fin.ofNat 64 (pin / 8)
  let q := s.cell i (Fin.ofNat 8 (pin % 8))
  if s.siteState i = .off then none
  else match field (s.pcMode i (Fin.ofNat 8 (pin % 8))) 7 6 with
    | 0 => some (2 * b2n q.cmpHi + b2n q.cmpLo : Nat)
    | 1 => some (2 * b2n q.capHi + b2n q.capLo : Nat)
    | _ => none

/-- The sample that a source delivers at a tick, none when it delivers none. -/
def State.mitSample (s : State) (x : TickInputs) (src : Nat) : Option Int :=
  let conv := x.analogue.getD src 0
  if src ≤ 3 then sensorSample conv.toNat
  else if src ≤ 7 then
    if s.siteState (Fin.ofNat 64 (field (s.cfg 0x2700 (src - 1)) 5 0)) = .off then none else sensorSample conv.toNat
  else if src ≤ 23 then s.cmpSample (field (s.cfg 0x2700 (src - 1)) 8 0)
  else if src ≤ 30 then some conv.toInt
  else some (b2n (s.special.levels.getLsbD (src - 31)) : Nat)

/-- The comparators of every SAMPLED cell are captured (R93), as R89 lets them stand: CMP_HI only above VCL, and never apart on
equal thresholds. -/
def State.capturedCells (s : State) (x : TickInputs) : State :=
  s.forEach allSites fun i s =>
    if s.siteState i = .off then s
    else s.forEach allCells fun c s =>
      let w := x.outputs.getD (8 * i.val + c.val) 0
      if field (s.pcMode i c) 7 6 = 1 then s.modCell i c fun q => { q with capHi := w.getLsbD 1,
                                                                           capLo := w.getLsbD 1 || (w.getLsbD 0 && !s.cmpEqual i c) } else s

/-! ## Filters (R422) -/

/-- `a` put in its place in a rising list. -/
def insertInt (a : Int) : List Int → List Int
  | [] => [a]
  | b :: l => if a ≤ b then a :: b :: l else b :: insertInt a l

/-- The median of samples, the lower of the two in the middle when their number is even. -/
def medianLow (l : List Int) : Int := (l.foldr insertInt []).getD ((l.length - 1) / 2) 0

/-- A filter takes a sample: `ty` 1 IIR with shift `k`, 2 MEDIAN5. -/
def MitFilter.take (f : MitFilter) (ty k : Nat) (x : Int) : MitFilter :=
  if ty = 1 then
    let y := if f.valid then f.y + (x * 256 - f.y) / (2 ^ k : Nat) else x * 256
    { f with y := y, out := BitVec.ofInt 16 ((y + 128) / 256), stale := false, valid := true }
  else
    let h := (x :: f.hist).take 5
    { f with hist := h, out := BitVec.ofInt 16 (medianLow h), stale := false, valid := true }

/-- A filter after a tick. -/
def State.filterTick (s : State) (sample : Nat → Option Int) (j : Nat) (f : MitFilter) : MitFilter :=
  let v := s.cfg 0x2702 (j + 1)
  if field v 7 6 = 0 then f
  else match sample (field v 5 0) with
    | some x => f.take (field v 7 6) (field v 11 8) x
    | none => { f with stale := true }

/-! ## Rules (R423, R424) -/

/-- The state that a rule's configuration forms from its input `x`; `first` marks a first evaluation. -/
def ruleForms (v : Nat) (first : Bool) (prev : RuleState) (x : Int) : RuleState :=
  let set := toInt (field v 31 16) 16
  let rel := toInt (field v 47 32) 16
  let between : RuleState := if first then (if bitOf v 9 then .isTrue else .unknown) else prev
  match field v 8 7 with
  | 1 => if set ≤ x then .isTrue else if x ≤ rel then .isFalse else between
  | 2 => if x ≤ set then .isTrue else if rel ≤ x then .isFalse else between
  | _ => if x = set then .isTrue else .isFalse

/-- A rule after an evaluation on its input, and whether it fires; no input is a STALE one. -/
def MitRule.evaluated (r : MitRule) (v : Nat) (input : Option Int) : MitRule × Bool :=
  match input with
  | none => ({ r with state := .unknown, first := true, count := 0 }, false)
  | some x =>
    let st := ruleForms v r.first r.state x
    let count := if st = .isTrue then satInc 0xFFFF r.count else 0
    let fires := decide (count = field v 63 48) && !r.fired && st == .isTrue
    ({ r with state := st, first := false, count := count, fired := (r.fired && st != .isFalse) || fires,
              fires := if fires then r.fires + 1 else r.fires }, fires)

/-- The input of a rule: a source's sample, or the output of a filter that is neither STALE nor without a first sample. -/
def State.ruleInput (s : State) (sample : Nat → Option Int) (v : Nat) : Option Int :=
  if bitOf v 6 then
    let f := vgetN s.mitten.filters (field v 2 0) MitFilter.reset
    if f.stale || !f.valid then none else some f.out.toInt
  else sample (field v 5 0)

/-! ## Actions (R425) -/

/-- An action is discarded: LOST + 1. -/
def State.mitLost (s : State) : State := { s with mitten := { s.mitten with lost := satInc 0x1FFF s.mitten.lost } }

/-- The actions of a firing of rule `k` with input `x`: WAKE, WAKE_OUT, LOG, FORCE as Table 20.3 states. -/
def State.mitActions (s : State) (k v : Nat) (x : Int) : State :=
  let s :=
    if bitOf v 12 then (if s.rst.phase = .bypassed then s.mitLost else s.wakeAsked) else s
  let s := if bitOf v 13 then { s with mitten := { s.mitten with wakeOut := true, outAt := some s.clock } } else s
  let s :=
    if bitOf v 14 then
      (if s.coreUp then s.present .ofChip 0xD0 (k + at_ (ofInt x 16) 16) 0 else s.mitLost)
    else s
  if bitOf v 15 then
    (if s.coreUp then s.present .ofChip 0xD1 (addrOf 0x2703 (0x11 + k)) (2 + field v 11 10) else s.mitLost)
  else s

/-- Rule `k` is evaluated, and acts when it fires. -/
def State.ruleTick (s : State) (sample : Nat → Option Int) (k : Nat) : State :=
  let v := s.cfg 0x2703 (k + 1)
  if field v 8 7 = 0 then s
  else
    let x := s.ruleInput sample v
    let r := (vgetN s.mitten.rules k MitRule.reset).evaluated v x
    let s := { s with mitten := { s.mitten with rules := vmodN s.mitten.rules k fun _ => r.1 } }
    if r.2 then s.mitActions k v (x.getD 0) else s

/-! ## The tick (R421, Table 20.2) -/

/-- STALE after a tick: the sources sampled that delivered nothing; a source not sampled keeps its bit. -/
def staleAfter (old : BitVec 35) (sources : List Nat) (sample : Nat → Option Int) : BitVec 35 :=
  sources.foldl (fun w n => if (sample n).isNone then w ||| (1#35 <<< n) else w &&& ~~~(1#35 <<< n)) old

/-- MITTEN_TICK (R421). -/
def execMittenTick (analogue : List (BitVec 16)) (outputs : List (BitVec 2)) (s : State) : Host.Outcome State Fault Refusal :=
  if s.rst.phase = .vaonLost ∨ !bitOf (s.cfg 0x2700 1) 0 then .next s
  else
    let x : TickInputs := { analogue := analogue, outputs := outputs }
    let s := { s with mitten := { s.mitten with ticks := s.mitten.ticks + 1 } }
    let s := s.capturedCells x
    let sample := s.mitSample x
    let m := s.mitten
    let s := { s with mitten := { m with
      stale := staleAfter m.stale (mitSources s.val) sample,
      filters := Vector.ofFn fun j => s.filterTick sample j.val m.filters[j.val] } }
    .next (s.forEach (List.range 16) fun k s => s.ruleTick sample k)

end Sys2Proof.Machine
end

