-- ==== Sys2Proof/Machine/Mse.lean ====
section
/-! DEFINITION. Microwords (chapter 09): the one that is due, its operation, and the ends of its waits. -/
namespace Sys2Proof.Machine

/-! ## The microword that is due -/

/-- A fault of the MSE's own stops the routine at the faulting microword (R206). -/
def State.mseFault (s : State) (i : Fin 64) (kind : Nat) : State :=
  let upc := (s.mse i).upc
  let s := s.modMse i fun m =>
    { m with state := .idle, waiting := none, window := false, staging := [], result := .fault, faultUpc := upc,
             deferred := none, acqUnits := 0 }
  (s.present (.ofSite i) kind upc.toNat 0).engineIdle i

/-- The microword due at a running MSE, when it is one of those that `p` names, executes by `f` in its cycle. A reserved address
or a reserved field is MSE_ILLEGAL (R193, R194). -/
def State.uStep (s : State) (i : Fin 64) (p : BitVec 24 → Bool) (f : BitVec 24 → State → State) : State :=
  let m := s.mse i
  if m.state = .run ∧ m.waiting = none then
    let at_ := (s.advance m.dueAt).dspWake i
    match m.fetch m.upc with
    | none => at_.mseFault i 0x50
    | some w => if p w then (if uLegal w then f w at_ else at_.mseFault i 0x50) else s
  else s

/-- The microword has opcode `op`. -/
def uIs (op : Nat) (w : BitVec 24) : Bool := uOp w == op

/-- The next microword is the one at `a`, `n` cycles on. -/
def State.uGo (s : State) (i : Fin 64) (a : BitVec 14) (n : Nat) : State :=
  let t := s.cyclesOn n
  s.modMse i fun m => { m with state := .run, waiting := none, upc := a, dueAt := t }

/-- The following microword is next, `n` cycles on. -/
def State.uNext (s : State) (i : Fin 64) (n : Nat) : State := s.uGo i ((s.mse i).upc + 1) n

/-- A wait begins in this cycle. -/
def State.uWait (s : State) (i : Fin 64) (w : MseWait) : State :=
  let t := s.cycle
  s.modMse i fun m => { m with state := .wait, waiting := some w, dueAt := t }

/-- Register `k`. -/
def Mse.gr (m : Mse) (k : Fin 8) : BitVec 32 := m.g[k.val]

/-- A register written. -/
def Mse.put (m : Mse) (k : Fin 8) (v : BitVec 32) : Mse := { m with g := m.g.set k.val v k.isLt }

/-- RJ written. -/
def State.uReject (s : State) (i : Fin 64) (b : Bool) : State := s.modMse i fun m => { m with rj := b }

/-! ## Registers and flow -/

/-- MSE_NOP (R195). -/
def execMseNop (i : Fin 64) (s : State) : Host.Outcome State Fault Refusal :=
  .next (s.uStep i (uIs 0x00) fun _ s => s.uNext i 1)

/-- MSE_LDI (R195). -/
def execMseLdi (i : Fin 64) (s : State) : Host.Outcome State Fault Refusal :=
  .next (s.uStep i (uIs 0x01) fun w s => (s.modMse i fun m => m.put (uRd w) ((uImm w).setWidth 32)).uNext i 1)

/-- LDH (R195). -/
def execLdh (i : Fin 64) (s : State) : Host.Outcome State Fault Refusal :=
  .next (s.uStep i (uIs 0x02) fun w s =>
    (s.modMse i fun m => m.put (uRd w) (uImm w ++ (m.gr (uRd w)).setWidth 16)).uNext i 1)

/-- MSE_ADDI (R195). -/
def execMseAddi (i : Fin 64) (s : State) : Host.Outcome State Fault Refusal :=
  .next (s.uStep i (uIs 0x03) fun w s =>
    (s.modMse i fun m =>
      let a := m.gr (uRd w)
      let b := (uImm w).signExtend 32
      (m.put (uRd w) (a + b)).addFlags a b).uNext i 1)

/-- An ALU function on two values (Table 9.4). -/
def Mse.alu (m : Mse) (fn : Nat) (rd : Fin 8) (a b : BitVec 32) : Mse :=
  match fn with
  | 0 => (m.put rd (a + b)).addFlags a b
  | 1 => (m.put rd (a - b)).subFlags a b
  | n => (m.put rd (aluResult n a b)).flagged (aluResult n a b) false false

/-- MSE_ALU (R195, Table 9.4). -/
def execMseAlu (i : Fin 64) (s : State) : Host.Outcome State Fault Refusal :=
  .next (s.uStep i (uIs 0x04) fun w s =>
    (s.modMse i fun m => m.alu (uFn w) (uRd w) (m.gr (uRa w)) (m.gr (uRb w))).uNext i 1)

/-- CMPI (R195). -/
def execCmpi (i : Fin 64) (s : State) : Host.Outcome State Fault Refusal :=
  .next (s.uStep i (uIs 0x05) fun w s =>
    (s.modMse i fun m => m.subFlags (m.gr (uRd w)) ((uImm w).signExtend 32)).uNext i 1)

/-- MSE_CMP (R195). -/
def execMseCmp (i : Fin 64) (s : State) : Host.Outcome State Fault Refusal :=
  .next (s.uStep i (uIs 0x06) fun w s => (s.modMse i fun m => m.subFlags (m.gr (uRa w)) (m.gr (uRb w))).uNext i 1)

/-- A branch condition of Table 9.5; `dsp` is the site DSP flag. -/
def Mse.holds (m : Mse) (dsp : Bool) (cond : Nat) : Bool :=
  match cond with
  | 0 => true
  | 1 => m.z
  | 2 => !m.z
  | 3 => m.n != m.v
  | 4 => m.n == m.v
  | 5 => !m.z && m.n == m.v
  | 6 => m.z || m.n != m.v
  | 7 => m.c
  | 8 => !m.c
  | 9 => m.rj
  | 10 => !m.rj
  | 11 => m.tmo
  | 12 => m.inw
  | 13 => !m.inw
  | 14 => dsp
  | _ => false

/-- The condition of a microword holds. -/
def State.uHolds (s : State) (i : Fin 64) (w : BitVec 24) : Bool := (s.mse i).holds ((s.dsp i).flagAt s.clock) (uCond w)

/-- MSE_BR (R195, Table 9.5). -/
def execMseBr (i : Fin 64) (s : State) : Host.Outcome State Fault Refusal :=
  .next (s.uStep i (uIs 0x07) fun w s => if s.uHolds i w then s.uGo i (uTarget w) 1 else s.uNext i 1)

/-- MSE_CALL (R195): a push onto a full stack is MSE_STACK (R206). -/
def execMseCall (i : Fin 64) (s : State) : Host.Outcome State Fault Refusal :=
  .next (s.uStep i (uIs 0x08) fun w s =>
    if s.uHolds i w then
      if 4 ≤ (s.mse i).stack.length then s.mseFault i 0x52
      else (s.modMse i fun m => { m with stack := (m.upc + 1) :: m.stack }).uGo i (uTarget w) 1
    else s.uNext i 1)

/-- MSE_RET (R195): a pop of an empty stack is MSE_STACK (R206). -/
def execMseRet (i : Fin 64) (s : State) : Host.Outcome State Fault Refusal :=
  .next (s.uStep i (uIs 0x09) fun _ s =>
    match (s.mse i).stack with
    | [] => s.mseFault i 0x52
    | a :: rest => (s.modMse i fun m => { m with stack := rest }).uGo i a 1)

/-- DJNZ (R195). -/
def execDjnz (i : Fin 64) (s : State) : Host.Outcome State Fault Refusal :=
  .next (s.uStep i (uIs 0x0A) fun w s =>
    let v := (s.mse i).gr (uRd w) - 1
    let s := s.modMse i fun m => m.put (uRd w) v
    if v = 0 then s.uNext i 1 else s.uGo i (uTarget w) 1)

/-! ## Waits (R195, R196) -/

/-- A timed wait of `n` cycles begins; none of 0. -/
def State.uPause (s : State) (i : Fin 64) (n : Nat) : State := if n = 0 then s.uNext i 1 else s.uWait i (.cycles n)

/-- WAITC (R195). -/
def execWaitc (i : Fin 64) (s : State) : Host.Outcome State Fault Refusal :=
  .next (s.uStep i (uIs 0x0B) fun w s => s.uPause i (uImm w).toNat)

/-- WAITR (R195). -/
def execWaitr (i : Fin 64) (s : State) : Host.Outcome State Fault Refusal :=
  .next (s.uStep i (uIs 0x1F) fun w s => s.uPause i (field ((s.mse i).gr (uRd w)).toNat 23 0))

/-- An event names a unit or a line that does not exist. -/
def uNoSource (ev index : Nat) : Bool := ((ev == 1 || ev == 3) && decide (2 ≤ index)) || (ev == 8 && decide (4 ≤ index))

/-- An event of Table 9.6. `pubs` counts the results of the unit when the wait began. Whether the event of a unit or line
that does not exist holds is a free value. -/
def State.uEvent (s : State) (i : Fin 64) (ev index : Nat) (pubs : BitVec 32) : Bool :=
  let u : Fin 2 := Fin.ofNat 2 index
  let c : Fin 8 := Fin.ofNat 8 index
  if uNoSource ev index then (s.fresh 1).getLsbD 0
  else match ev with
  | 1 => (s.bridge i u).pubs != pubs
  | 2 => (s.cell i c).meas.isNone
  | 3 => !(s.bridge i u).slewBusy && (s.bridge i u).range.isNone
  | 4 => !(s.cell i c).levelBusy s.clock && (s.cell i c).held.isNone
  | 5 => (s.site i).psq.state == .idle
  | 6 => (s.dsp i).flagAt s.clock
  | 7 => !(s.mse i).fromDsp.isEmpty
  | 8 => s.special.levels.getLsbD (index % 4)
  | 9 => (s.site i).stream.rtrig
  | _ => false

/-- The free value of an event of no source has been drawn. -/
def State.uTested (s : State) (ev index : Nat) : State := if uNoSource ev index then s.drawn else s

/-- WAITE (R196): the event is tested from this cycle on. -/
def execWaite (i : Fin 64) (s : State) : Host.Outcome State Fault Refusal :=
  .next (s.uStep i (uIs 0x0C) fun w s =>
    let pubs := (s.bridge i (Fin.ofNat 2 (uEvIndex w))).pubs
    let now := s.uEvent i (uCond w) (uEvIndex w) pubs
    let s := s.uTested (uCond w) (uEvIndex w)
    if now then (s.modMse i fun m => { m with tmo := false }).uNext i 1
    else s.uWait i (.event (uCond w) (uEvIndex w) (field ((s.mse i).gr (uRt w)).toNat 23 0) pubs))

/-- The timeout of a WAITE has passed before the present cycle. -/
def State.uExpired (s : State) (i : Fin 64) (timeout : Nat) : Bool :=
  timeout != 0 && elapsed (s.mse i).dueAt s.clock ((timeout + 1) * s.seqLen)

/-- MSE_WAIT_END (R195, R196): the cycles of a timed wait have passed, the event holds, or its timeout elapses. -/
def execMseWaitEnd (i : Fin 64) (s : State) : Host.Outcome State Fault Refusal :=
  let m := s.mse i
  if m.state = .wait then
    match m.waiting with
    | some (.cycles n) => .next ((s.advance (addGrains m.dueAt (n * s.seqLen : Nat))).uNext i 1)
    | some (.event ev index timeout pubs) =>
      let s := s.dspWake i
      let now := s.uEvent i ev index pubs && !s.uExpired i timeout
      let s := s.uTested ev index
      if now then .next ((s.modMse i fun m => { m with tmo := false }).uNext i 1)
      else if timeout = 0 then .next s
      else
        .next (((s.advance (addGrains m.dueAt (timeout * s.seqLen : Nat))).modMse i fun m => { m with tmo := true }).uNext i 1)
    | _ => .next s
  else .next s

/-! ## Outputs (R197) -/

/-- A field of a subindex of the site block: offset, subindex, low bit, width. -/
structure UField where
  off : Nat
  sub : Nat
  lo  : Nat
  wid : Nat
  deriving DecidableEq, Repr

/-- The target of SETDAC (Table 9.7); none for an index beyond its units or cells. -/
def dacTarget (sel index : Nat) : Option UField :=
  match sel with
  | 0 => if index < 2 then some { off := 0x80, sub := index + 1, lo := 16, wid := 16 } else none
  | 1 => if index < 2 then some { off := 0x83, sub := index + 1, lo := 32, wid := 16 } else none
  | 5 => if index < 8 then some { off := 0x23, sub := index + 1, lo := 16, wid := 16 } else none
  | k => if index < 8 then some { off := 0x20, sub := index + 1, lo := [0, 0, 0, 16, 32].getD k 0, wid := 16 } else none

/-- The target of SETRNG. -/
def rngTarget (sel index : Nat) : Option UField :=
  match sel with
  | 0 => if index < 2 then some { off := 0x81, sub := index + 1, lo := 1, wid := 1 } else none
  | 1 => if index < 2 then some { off := 0x80, sub := index + 1, lo := 0, wid := 1 } else none
  | 2 => if index < 8 then some { off := 0x23, sub := index + 1, lo := 0, wid := 2 } else none
  | 3 => if index < 8 then some { off := 0x23, sub := index + 1, lo := 2, wid := 3 } else none
  | 4 => if index < 8 then some { off := 0x23, sub := index + 1, lo := 5, wid := 1 } else none
  | 5 => if index < 8 then some { off := 0x23, sub := index + 1, lo := 6, wid := 2 } else none
  | _ => if index < 8 then some { off := 0x22, sub := index + 1, lo := 0, wid := 2 } else none

/-- `old` with `x` in a field. -/
def UField.fill (f : UField) (old x : Nat) : Nat :=
  old - at_ (field old (f.lo + f.wid - 1) f.lo) f.lo + at_ x f.lo

/-- A change of OWNER, FORCE, IRANGE, MQTY or ROUTE during a measurement (R197). -/
def State.uMeasBusy (s : State) (i : Fin 64) (f : UField) (old new : Nat) : Bool :=
  (f.off == 0x22 || (f.off == 0x23 && decide (f.lo < 8))) && old != new && (s.cell i (Fin.ofNat 8 (f.sub - 1))).meas.isSome

/-- A commit of the present CK_SEQ cycle has written the subindex, so a micro-op's value is discarded (R172). -/
def State.superseded (s : State) (addr : Nat) : Bool := s.outranked addr || s.justWritten addr

/-- The micro-op's write: as a commit, or RJ (R197). A value that a commit of the same cycle supersedes clears RJ, whatever the
state that the commit has left (R172). -/
def State.uSet (s : State) (i : Fin 64) (target : Option UField) (x : Nat) : State :=
  match target with
  | none => s.uReject i true
  | some f =>
    let addr := siteAddr i f.off f.sub
    let old := s.val addr
    let new := f.fill old x
    if 2 ^ f.wid ≤ x then s.uReject i true
    else if s.superseded addr then s.uReject i false
    else if s.uMeasBusy i f old new then s.uReject i true
    else
      match rowAt addr with
      | none => s.uReject i true
      | some (r, _) =>
        match s.acceptValue r addr new with
        | .refused _ => s.uReject i true
        | .ok v =>
          let t := s.single .mse [(addr, v)] []
          t.1.uReject i (t.2 != 0)

/-- SETDAC (R197). -/
def execSetdac (i : Fin 64) (s : State) : Host.Outcome State Fault Refusal :=
  .next (s.uStep i (uIs 0x0D) fun w s =>
    (s.uSet i (dacTarget (uSel w) (uIndex w)) (field ((s.mse i).gr (uRd w)).toNat 15 0)).uNext i 1)

/-- SETRNG (R197). -/
def execSetrng (i : Fin 64) (s : State) : Host.Outcome State Fault Refusal :=
  .next (s.uStep i (uIs 0x0E) fun w s =>
    (s.uSet i (rngTarget (uSel w) (uIndex w)) (field ((s.mse i).gr (uRd w)).toNat 7 0)).uNext i 1)

/-! ## Measurement (R198) -/

/-- MSE_ACQ_START (R180, R198). -/
def execMseAcqStart (i : Fin 64) (s : State) : Host.Outcome State Fault Refusal :=
  .next (s.uStep i (fun w => uIs 0x0F w && uSel w != 1) fun w s =>
    let u : Fin 2 := Fin.ofNat 2 (uIndex w)
    if uIndex w < 2 ∧ field (s.adcCfg i u) 1 0 = 2 then
      (((s.acqStart i u).modMse i fun m => { m with acqUnits := m.acqUnits ||| (1#2 <<< u.val) }).uReject i false).uNext i 1
    else (s.uReject i true).uNext i 1)

/-- MSE_ACQ_STOP (R180): acquisition ends after the result in progress. -/
def execMseAcqStop (i : Fin 64) (s : State) : Host.Outcome State Fault Refusal :=
  .next (s.uStep i (fun w => uIs 0x0F w && uSel w == 1) fun w s =>
    let u : Fin 2 := Fin.ofNat 2 (uIndex w)
    if uIndex w < 2 then
      (((s.acqStopAfter i u).modMse i fun m =>
        { m with acqUnits := m.acqUnits &&& ~~~ (1#2 <<< u.val) }).uReject i false).uNext i 1
    else (s.uReject i true).uNext i 1)

/-- The last published result of a unit. -/
def Bridge.published (b : Bridge) : ResLatch := { ratio := b.ratio, sig := b.sig, ref := b.ref, meta_ := b.meta_ }

/-- A field of a result (Table 9.8). -/
def ResLatch.pick (r : ResLatch) (sel : Nat) : BitVec 32 :=
  let hi (v : BitVec 64) : BitVec 32 := (v.extractLsb' 32 16).signExtend 32
  match sel with
  | 0 => r.ratio.setWidth 32
  | 1 => hi r.ratio
  | 2 => r.sig.setWidth 32
  | 3 => hi r.sig
  | 4 => r.ref.setWidth 32
  | 5 => hi r.ref
  | 6 => (r.meta_.extractLsb' 32 16).setWidth 32
  | _ => r.meta_.setWidth 32

/-- RDRES (R198): sel 7 latches the last result of the unit; the others read the latch. A unit that does not exist gives a
free value. -/
def execRdres (i : Fin 64) (s : State) : Host.Outcome State Fault Refusal :=
  .next (s.uStep i (uIs 0x10) fun w s =>
    let b := (s.bridge i (Fin.ofNat 2 (uIndex w))).published
    if 2 ≤ uIndex w then (s.drawn.modMse i fun m => m.put (uRd w) (s.fresh 32)).uNext i 1
    else if uSel w = 7 then (s.modMse i fun m => { m.put (uRd w) (b.pick 7) with latch := some b }).uNext i 1
    else (s.modMse i fun m => m.put (uRd w) ((m.latch.getD b).pick (uSel w))).uNext i 1)

/-- PMEAS (R198). -/
def execPmeas (i : Fin 64) (s : State) : Host.Outcome State Fault Refusal :=
  .next (s.uStep i (uIs 0x11) fun w s =>
    let c : Fin 8 := Fin.ofNat 8 (uIndex w)
    let st := s.siteState i
    if uIndex w < 8 ∧ (s.cell i c).meas = none ∧ s.ppmuOwns i c = true ∧ (st = .ready ∨ st = .running) then
      ((s.measBegin i c).uReject i false).uNext i 1
    else (s.uReject i true).uNext i 1)

/-- RDPM (R195). A cell that does not exist gives a free value. -/
def execRdpm (i : Fin 64) (s : State) : Host.Outcome State Fault Refusal :=
  .next (s.uStep i (uIs 0x12) fun w s =>
    let q := s.cell i (Fin.ofNat 8 (uIndex w))
    if 8 ≤ uIndex w then
      (s.drawn.modMse i fun m => { m.put (uRd w) (s.fresh 32) with rj := (Config.freeValue 33 s.freeCount).getLsbD 32 }).uNext i 1
    else (s.modMse i fun m => { m.put (uRd w) q.result with rj := q.err != 0 }).uNext i 1)

/-- A status word of Table 9.8. -/
def State.uStatus (s : State) (i : Fin 64) (sel index : Nat) : BitVec 32 :=
  let bu := s.buStatus i (Fin.ofNat 2 index)
  let sext (v : Nat) : BitVec 32 := (BitVec.ofNat 16 v).signExtend 32
  match sel with
  | 0 => BitVec.ofNat 32 ((s.site i).psq.state.code + at_ (s.site i).psq.stopCause.code 8)
  | 1 => BitVec.ofNat 32 (s.site i).psq.flagWord
  | 2 => BitVec.ofNat 32 (field bu 12 0)
  | 3 => sext (field bu 31 16)
  | 4 => BitVec.ofNat 32 (field (s.pcStatus i (Fin.ofNat 8 index)) 23 0)
  | 5 => BitVec.ofNat 32 ((s.siteState i).code + at_ (s.throttleStep i) 8)
  | 6 => sext (field bu 63 48)
  | _ => BitVec.ofNat 32 (field bu 47 32)

/-- A selector of RDST names a unit or cell that does not exist. -/
def uAbsent (sel index : Nat) : Bool :=
  if sel = 4 then decide (8 ≤ index) else if sel = 2 ∨ sel = 3 ∨ sel = 6 ∨ sel = 7 then decide (2 ≤ index) else false

/-- RDST (R198). A unit or cell that does not exist gives a free value. -/
def execRdst (i : Fin 64) (s : State) : Host.Outcome State Fault Refusal :=
  .next (s.uStep i (uIs 0x13) fun w s =>
    if uAbsent (uSel w) (uIndex w) then (s.drawn.modMse i fun m => m.put (uRd w) (s.fresh 32)).uNext i 1
    else (s.modMse i fun m => m.put (uRd w) (s.uStatus i (uSel w) (uIndex w))).uNext i 1)

/-! ## Mailboxes and scratch -/

/-- The entry that POST writes (R199). -/
def Mse.postEntry (m : Mse) (w : BitVec 24) : BitVec 64 :=
  BitVec.ofNat 64 ((m.gr (uRd w)).toNat + at_ (field w.toNat 15 8) 32 + at_ m.runId.toNat 40 + at_ m.restarts 56)

/-- POST (R199): it stalls while the mailbox is full. -/
def execPost (i : Fin 64) (s : State) : Host.Outcome State Fault Refusal :=
  .next (s.uStep i (uIs 0x14) fun w s =>
    let e := (s.mse i).postEntry w
    if (s.mse i).toDsp.length < 16 then (s.modMse i fun m => { m with toDsp := m.toDsp ++ [e] }).uNext i 1
    else s.uWait i (.post e))

/-- POST_STALL_END (R199): room appears, and the POST completes. -/
def execPostStallEnd (i : Fin 64) (s : State) : Host.Outcome State Fault Refusal :=
  match (s.mse i).waiting with
  | some (.post e) =>
    if (s.mse i).toDsp.length < 16 then .next ((s.modMse i fun m => { m with toDsp := m.toDsp ++ [e] }).uNext i 1)
    else .next s
  | _ => .next s

/-- RDMB (R195). -/
def execRdmb (i : Fin 64) (s : State) : Host.Outcome State Fault Refusal :=
  .next (s.uStep i (uIs 0x1A) fun w s =>
    (s.modMse i fun m =>
      { m.put (uRd w) (m.fromDsp.headD 0) with z := m.fromDsp.isEmpty, fromDsp := m.fromDsp.tail }).uNext i 1)

/-- MFLAG (R195). -/
def execMflag (i : Fin 64) (s : State) : Host.Outcome State Fault Refusal :=
  .next (s.uStep i (uIs 0x15) fun w s =>
    (s.mseFlagTo i (((s.mse i).gr (uRd w)).getLsbD 0)).uNext i 1)

/-- RDT (R195): the grain count of this cycle; an imm16 other than 0 and 1 gives a free value. -/
def execRdt (i : Fin 64) (s : State) : Host.Outcome State Fault Refusal :=
  .next (s.uStep i (uIs 0x1B) fun w s =>
    let g := grains s.cycle
    match (uImm w).toNat with
    | 0 => (s.modMse i fun m => { m.put (uRd w) (BitVec.ofNat 32 g) with tLatch := BitVec.ofNat 20 (g / 2 ^ 32) }).uNext i 1
    | 1 => (s.modMse i fun m => m.put (uRd w) (m.tLatch.setWidth 32)).uNext i 1
    | _ => (s.drawn.modMse i fun m => m.put (uRd w) (s.fresh 32)).uNext i 1)

/-- The scratch word that LD and ST name. -/
def Mse.scratchAt (m : Mse) (w : BitVec 24) : Nat := ((m.gr (uRa w)).toNat + uOffset w) % 256

/-- MSE_LD (R195). -/
def execMseLd (i : Fin 64) (s : State) : Host.Outcome State Fault Refusal :=
  .next (s.uStep i (uIs 0x1C) fun w s =>
    (s.modMse i fun m => m.put (uRd w) (sparseGet m.scratch (m.scratchAt w) 0)).uNext i 1)

/-- MSE_ST (R195). -/
def execMseSt (i : Fin 64) (s : State) : Host.Outcome State Fault Refusal :=
  .next (s.uStep i (uIs 0x1D) fun w s =>
    (s.modMse i fun m => { m with scratch := sparseSet m.scratch (m.scratchAt w) (m.gr (uRd w)) 0 }).uNext i 1)

/-- WIN (R195). -/
def execWin (i : Fin 64) (s : State) : Host.Outcome State Fault Refusal :=
  .next (s.uStep i (uIs 0x1E) fun w s =>
    (s.modMse i fun m => { m with inw := (m.gr (uRa w)).sle (m.gr (uRd w)) && (m.gr (uRd w)).sle (m.gr (uRb w)) }).uNext i 1)

/-! ## Staging, COMMIT, END (R200–R202, R206, R211) -/

/-- An address of a staged write in the site block. -/
def stagedAddr (i : Fin 64) (a : Nat) : Nat := siteAddr i (a / 256) (a % 256)

/-- A subindex of MSE_TRIM. -/
def isTrimRecord (a : Nat) : Bool := a == 0xA301 || a == 0xA302

/-- STG may name it: an assigned T subindex of the block that is no DOMAIN, or MSE_TRIM (R201). -/
def stageable (i : Fin 64) (a : Nat) : Bool :=
  isTrimRecord a ||
    match rowAt (stagedAddr i a) with
    | some (r, _) => r.isT && !r.ty.isDomain
    | none => false

/-- STG (R201). -/
def execStg (i : Fin 64) (s : State) : Host.Outcome State Fault Refusal :=
  .next (s.uStep i (uIs 0x16) fun w s =>
    let m := s.mse i
    let a := field (m.gr (uRb w)).toNat 15 0
    let hi : BitVec 32 := if (uFn w).testBit 0 then m.gr (uRa w) else 0
    if stageable i a && decide (m.staging.length < 16) then
      (s.modMse i fun m => { m with staging := m.staging ++ [(a, hi ++ m.gr (uRd w))] }).uNext i 1
    else s.mseFault i 0x51)

/-- Of two staged writes of one subindex the later one counts. -/
def lastStaged : List (Nat × BitVec 64) → List (Nat × BitVec 64)
  | [] => []
  | e :: es => if es.any fun x => x.1 == e.1 then lastStaged es else e :: lastStaged es

/-- A staged write passes R40: its value as it will stand. -/
def State.stagedEntry (s : State) (i : Fin 64) (e : Nat × BitVec 64) : Option Entry :=
  let addr := stagedAddr i e.1
  match rowAt addr with
  | none => none
  | some (r, _) =>
    if 2 ^ (8 * r.ty.byteLen) ≤ e.2.toNat then none
    else match s.acceptValue r addr e.2.toNat with
      | .ok v => some (addr, v)
      | .refused _ => none

/-- A PENDING write of a trim record passes R211. -/
def State.trimOk (s : State) (i : Fin 64) (starts : Bool) (e : Nat × BitVec 64) : Bool :=
  let u := e.1 % 256 - 1
  (vgetN (s.mse i).trims u TrimRecord.reset).status != 1 && (s.dieOf i u).isSome && starts && field e.2.toNat 42 40 == 1

/-- A trim record becomes PENDING, with its entry in the log and its open marker. -/
def State.trimPending (s : State) (i : Fin 64) (e : Nat × BitVec 64) : State :=
  let u : Fin 2 := Fin.ofNat 2 (e.1 % 256 - 1)
  let ctr := s.aszCounter + BitVec.ofNat 64 s.aszOwed
  let old := (s.mse i).trims[u.val].word
  let r : TrimRecord := { value := e.2.setWidth 32, cells := e.2.extractLsb' 32 8, status := 1, counter := ctr }
  let s := s.modMse i fun m => { m with trims := vmod m.trims u fun _ => r }
  let s := s.aszChange .mse (siteAddr i 0xA3 (u.val + 1)) 8 old r.word
  { s with assize := { s.assize with marks := s.assize.marks ++ [OpenMark.trim i u r.cells r.value ctr] } }

/-- What a COMMIT applies: the plain writes, and the trim records in ascending ADDR (R432); none when it is refused. -/
def State.commitSet (s : State) (i : Fin 64) : Option (List Entry × List (Nat × BitVec 64)) :=
  let all := lastStaged (s.mse i).staging
  let trims := [0xA301, 0xA302].flatMap fun a => all.filter fun e => e.1 == a
  match (all.filter fun e => !isTrimRecord e.1).mapM (s.stagedEntry i) with
  | none => none
  | some es =>
    let starts := es.any fun e => e == (siteAddr i 0x60 1, 1)
    let sound := (s.prepareFail es []).isNone && (xipFail s.spm.queue.length es).isNone
    let room := s.aszTakes (s.txnLogs es [] + 2 * trims.length)
    if sound && trims.all (s.trimOk i starts) && room then some (es, trims) else none

/-- The outcome of a COMMIT in its apply cycle: RJ, or every write in effect and the window open (R201, R202). -/
def State.commitApply (s : State) (i : Fin 64) : State :=
  match s.commitSet i with
  | none =>
    ((s.modMse i fun m => { m with staging := [], deferred := if m.window then m.deferred else none }).uReject i true).uNext i 1
  | some (es, trims) =>
    if (s.mse i).window then s.mseFault i 0x51
    else
      let s := s.modMse i fun m => { m with staging := [], window := true }
      let s := s.applyTxns [{ ctx := { src := .mse, group := 0, timed := none }, entries := es, overlays := [] }]
      let s := s.forEach trims fun e s => s.trimPending i e
      (s.uReject i false).uNext i 1

/-- COMMIT (R201, R202): checked in the next cycle, applied in the one after; the next microword follows a cycle later. A cause
that reached the MSE in the apply cycle abandons the routine when the COMMIT opens no window (R203, R204). -/
def execCommit (i : Fin 64) (s : State) : Host.Outcome State Fault Refusal :=
  .next (s.uStep i (uIs 0x17) fun _ s =>
    let m := s.mse i
    if m.staging.isEmpty then (s.uReject i false).uNext i 3
    else
      let s := (s.advance (addGrains (s.cycleAt m.dueAt) (2 * s.seqLen : Nat))).commitApply i
      match m.deferred, (s.mse i).window with
      | some cause, false => (s.mseCause i cause).mseEnded i cause m.upc
      | _, _ => s)

/-- A STOP or the timeout falls in the present cycle, in which END executes (Table 9.12). -/
def State.endLate (s : State) (i : Fin 64) : Bool :=
  (s.mse i).deferred.isSome || (s.dueNow fun es => es.any fun e => e == (siteAddr i 0xA0 1, 2)) ||
    match s.mseLimit i with
    | some t => before t (s.cyclesOn 1)
    | none => false

/-- MSE_END (R200, R208): the routine is complete, and the MSE idle in the following cycle. -/
def execMseEnd (i : Fin 64) (s : State) : Host.Outcome State Fault Refusal :=
  .next (s.uStep i (uIs 0x18) fun _ s =>
    let late := s.endLate i
    ((s.advance (s.cyclesOn 1)).modMse i fun m =>
      { m with state := .idle, waiting := none, window := false, result := .completed, ret := m.gr 0,
               abortLate := m.abortLate || late, deferred := none, acqUnits := 0 }).engineIdle i)

/-- MSE_FAULT (R195, R206): MSE_USER is presented, and the routine goes on. -/
def execMseFault (i : Fin 64) (s : State) : Host.Outcome State Fault Refusal :=
  .next (s.uStep i (uIs 0x19) fun w s => (s.uNext i 1).present (.ofSite i) 0x53 (uImm w).toNat 0)

end Sys2Proof.Machine
end

