-- ==== Sys2Proof/Machine/Sensor.lean ====
section
/-! DEFINITION. A temperature reading arrives (R363–R369, R372–R375). -/
namespace Sys2Proof.Machine

/-- RQ of a region as its always-on element reads it while the core is in reset (R374, R417): nothing is presented. -/
def State.readAlwaysOn (s : State) (q : Fin 4) (k : BitVec 12) : State :=
  if deadCode k.toNat then s
  else s.modRegionThermal q fun r =>
    { r with rq := { r.rq with code := k, used := some k }, held := r.held && decide (s.thRel 3 < k.toNat) }

/-- A reading of RQ with the core running; a chip shutdown is followed by the THERMAL reset (R374). -/
def State.regionReading (s : State) (q : Fin 4) (k : BitVec 12) : State :=
  let s := (s.readRQ q k).judgeRegion q
  if s.thermal.chipShut then s.chipReset 6 else s

/-- SENSOR_READING: `sensor` 0 SB0, 1 SB1, 2 SQ0, 3 SQ1, 4 SS of a site, 5 RQ of its region. -/
def execSensorReading (i : Fin 64) (sensor : Fin 6) (code : BitVec 12) (s : State) : Host.Outcome State Fault Refusal :=
  if h : sensor.val < 5 then .next (if s.coreUp then s.siteReading i ⟨sensor.val, h⟩ code else s)
  else if s.coreUp then .next (s.regionReading (regionOf i) code)
  else if s.rst.phase = .inReset then .next (s.readAlwaysOn (regionOf i) code)
  else .next s

end Sys2Proof.Machine
end

