-- ==== Sys2Proof/Machine/Tap.lean ====
section
/-! DEFINITION. Boundary scan (R456, R457): the instructions of Table 22.6 under the compliance condition. -/
namespace Sys2Proof.Machine

/-- The compliance-enable condition of R457: TEST_EN low together with RESET_N low. -/
def State.compliance (s : State) : Bool := !s.rst.testEn && !s.rst.resetN

/-- `s` with an instruction in force, the register it selects and what the boundary register does to the balls. -/
def State.tapSelect (s : State) (i : TapInstr) (r : TapRegister) (d : BoundaryDrive) : State :=
  { s with tap := { s.tap with instr := i, selected := r, drive := d } }

/-- A scan of the selected register: what it captured, and what was shifted into the boundary register. -/
def State.tapScan (s : State) (captured shift : List Bool) : State :=
  { s with tap := { s.tap with captured := captured, cells := shift } }

/-- An instruction that needs compliance acts as BYPASS while the condition does not hold. -/
def State.tapGuarded (s : State) (i : TapInstr) (act : State) : State :=
  if s.compliance then act else s.tapSelect i .bypass .released

/-- The 32 bits that IDCODE reads, least significant first (R456). -/
def idcodeBits : List Bool := (List.range 32).map (Nat.testBit 0x25164B5F)

/-- EXTEST: the boundary register drives the balls with what is shifted in and captures them. -/
def execExtest (captured shift : List Bool) (s : State) : Host.Outcome State Fault Refusal :=
  .next (s.tapGuarded .extest ((s.tapSelect .extest .boundary .driving).tapScan captured shift))

/-- IDCODE: the identification register is selected. -/
def execIdcode (s : State) : Host.Outcome State Fault Refusal :=
  .next ((s.tapSelect .idcode .idcode .released).tapScan idcodeBits s.tap.cells)

/-- SAMPLE/PRELOAD: the balls are sampled and the boundary register is preloaded; no ball is driven. -/
def execSamplePreload (captured shift : List Bool) (s : State) : Host.Outcome State Fault Refusal :=
  .next ((s.tapSelect .samplePreload .boundary .released).tapScan captured shift)

/-- CLAMP: the boundary register's values stay on the balls, BYPASS is selected. -/
def execClamp (s : State) : Host.Outcome State Fault Refusal :=
  .next (s.tapGuarded .clamp (s.tapSelect .clamp .bypass .held))

/-- HIGHZ: the outputs take high impedance, BYPASS is selected. -/
def execHighz (s : State) : Host.Outcome State Fault Refusal :=
  .next (s.tapGuarded .highz (s.tapSelect .highz .bypass .highz))

/-- EXTEST_PULSE (IEEE 1149.6): as EXTEST, with AC pulses on the lanes. -/
def execExtestPulse (captured shift : List Bool) (s : State) : Host.Outcome State Fault Refusal :=
  .next (s.tapGuarded .extestPulse ((s.tapSelect .extestPulse .boundary .pulsing).tapScan captured shift))

/-- EXTEST_TRAIN (IEEE 1149.6): as EXTEST, with AC trains on the lanes. -/
def execExtestTrain (captured shift : List Bool) (s : State) : Host.Outcome State Fault Refusal :=
  .next (s.tapGuarded .extestTrain ((s.tapSelect .extestTrain .boundary .training).tapScan captured shift))

/-- BYPASS, and every reserved code. -/
def execBypass (s : State) : Host.Outcome State Fault Refusal := .next (s.tapSelect .bypass .bypass .released)

/-- TAP_RESET: IDCODE is selected and the boundary register releases the balls. -/
def execTapReset (s : State) : Host.Outcome State Fault Refusal := .next (s.tapSelect .idcode .idcode .released)

/-- RESET_N has risen: the boundary register releases every ball, and an instruction that needs compliance acts as BYPASS. -/
def State.tapReleased (s : State) : State :=
  match s.tap.instr with
  | .idcode => s.tapSelect .idcode s.tap.selected .released
  | .samplePreload => s.tapSelect .samplePreload s.tap.selected .released
  | i => s.tapSelect i .bypass .released

end Sys2Proof.Machine
end

