-- ==== Sys2Proof/Machine/Start.lean ====
section
/-! DEFINITION. Resets, start-up, supplies, RNVM records and in-service tests (chapter 22, R461). -/
namespace Sys2Proof.Machine

/-! ## Supplies and reset sources (R442, R443, R445, R461) -/

/-- The Assize log when VAON is lost (R432): entries still queued, and entries held behind a checkpoint, are lost; a checkpoint
whose entry RNVM holds stays to be signed (R434). -/
def Assize.unqueued (a : Assize) : Assize :=
  let n := a.n - BitVec.ofNat 48 a.queued
  { a with n := n, entries := a.entries.drop a.queued, queued := 0, held := [], signing := n.toNat % 256 == 254 }

/-- VAON is lost: all powered state goes. RNVM and the levels of the balls remain. -/
def State.vaonOff (s : State) : State :=
  let t := s.coreCleared 0
  { t with
    assize := s.assize.unqueued
    nvm := { t.nvm with jobs := [] }
    thermal := { t.thermal with regions := s.thermal.regions.map fun (r : RegionThermal) =>
        { RegionThermal.reset with held := r.shut || r.held } }
    rst := { ResetCtl.reset with phase := .vaonLost, pwrOk := s.rst.pwrOk, resetN := s.rst.resetN, testEn := s.rst.testEn,
                                 refQualified := false, railsAbsent := s.rst.railsAbsent }
    tap := Tap.reset }

/-- VAON_LOSS (R432). -/
def execVaonLoss (s : State) : Host.Outcome State Fault Refusal :=
  if s.rst.phase = .vaonLost then .next s else .next s.vaonOff

/-- POWER_ON (R442): VAON rises through its threshold. The link PLL locks afresh. -/
def execPowerOn (s : State) : Host.Outcome State Fault Refusal :=
  let s := if s.rst.phase = .vaonLost then s else s.vaonOff
  .next { s with rst := { s.rst with phase := .inReset, cause := 0 }, pll := { s.pll with linkLocked := false } }

/-- Every queued Assize entry is written out at once (R432). -/
def State.queueFlushed (s : State) : State :=
  if s.nvm.readable then
    { s with assize := { s.assize with queued := 0 }, nvm := { s.nvm with writes := s.nvm.writes + BitVec.ofNat 32 s.assize.queued } }
  else s

/-- PWR_OK (R442, R445): low for 1 µs resets the chip and has the Assize queue written out; high ends the source. -/
def execPwrOk (level : Bool) (s : State) : Host.Outcome State Fault Refusal :=
  let s : State := { s with rst := { s.rst with pwrOk := level } }
  if level ∨ s.rst.phase = .vaonLost then .next s else .next (s.chipReset 1).queueFlushed

/-- RESET_N (R442, R457): low for 1 µs resets the chip; as it rises, the boundary register releases every ball. -/
def execResetN (level : Bool) (s : State) : Host.Outcome State Fault Refusal :=
  let s : State := { s with rst := { s.rst with resetN := level } }
  if level then .next s.tapReleased
  else if s.rst.phase = .vaonLost then .next s
  else .next (s.chipReset 2)

/-- SUPPLY_FAULT (R445): supply `supply` (SRC − 24 of Table 20.1) has been out of range for 10 µs at `mv`. While the core is in
reset nothing records it. -/
def execSupplyFault (supply : Fin 7) (mv : BitVec 16) (s : State) : Host.Outcome State Fault Refusal :=
  if s.coreUp then
    let s : State := { s with rst := { s.rst with supplyFault := some supply.val } }
    .next (s.present .ofChip 0xC0 (supply.val + at_ mv.toNat 16) 0)
  else .next s

/-- Every isolation switch opens, wherever a unit is connected or connecting (R461). -/
def State.switchesOpen (s : State) : State :=
  s.forEach allSites fun i s => s.forEach allUnits fun u s =>
    let b := s.bridge i u
    if b.connected || b.closing then s.buOpen i u (s.buPreset i u) else s

/-- Units with OUTPUT = 1 of sites that drive their balls connect again. -/
def State.switchesBack (s : State) : State :=
  s.forEach allSites fun i s =>
    if (s.siteState i).connected && s.siteState i != .safe then
      s.forEach allUnits fun u s => if s.buOutput i u then s.buConnect i u else s
    else s

/-- VPOS_VNEG_ABSENT (R461): while either is absent every DP ball is Z and every isolation switch is open. -/
def execVposVnegAbsent (absent : Bool) (s : State) : Host.Outcome State Fault Refusal :=
  let t : State := { s with rst := { s.rst with railsAbsent := absent } }
  if absent = s.rst.railsAbsent then .next s else .next (if absent then t.switchesOpen.superviseEnd else t.switchesBack)

/-! ## Start-up (R443, R446, R447, R451–R453) -/

/-- Every RQ reads at or below SHUT_REL (R374). -/
def State.regionsCool (s : State) : Bool :=
  s.thermal.regions.toList.all fun r => match r.rq.used with
    | some k => decide (k.toNat ≤ s.thRel 3)
    | none => false

/-- No source is asserted, REFCLK is qualified and the hold of R374 does not apply. -/
def State.mayRelease (s : State) : Bool :=
  s.rst.phase == .inReset && s.rst.pwrOk && s.rst.resetN && s.rst.refQualified && (!s.rst.thermalHold || s.regionsCool)

/-- CORE_RELEASE (R443): the time base is zeroed and the main PLL enters ACQUIRE; the NODE_ID straps are sampled (R338). After
sources 0–2 the ports train. -/
def execCoreRelease (straps : BitVec 7) (s : State) : Host.Outcome State Fault Refusal :=
  if s.mayRelease then
    let ports := decide (s.rst.cause ≤ 2) && s.pll.linkLocked
    let s : State := { s with
      clock := 0, rst := { s.rst with phase := .started, thermalHold := false }, can := { s.can with straps := straps },
      pll := { s.pll with state := .acquire } }
    .next (if ports then (s.portTrain 0).portTrain 1 else s)
  else .next s

/-- SELFTEST_DONE (R452, R453): `failed` holds bits 1–4 of SELFTEST_RESULT. -/
def execSelftestDone (failed : BitVec 4) (s : State) : Host.Outcome State Fault Refusal :=
  if s.rst.phase = .started ∧ s.rst.runNext then
    .next { s with rst := { s.rst with runNext := false, selftest := BitVec.ofNat 5 (1 + 2 * failed.toNat) } }
  else .next s

/-- Uncorrectable words present NVM_UNCORRECTABLE with their addresses (R450). -/
def State.badWords (s : State) (bad : List (BitVec 32)) : State :=
  s.forEach bad fun a s =>
    { s with nvm := { s.nvm with uncorrectable := satInc 0xFFFF s.nvm.uncorrectable } }.present .ofChip 0xC4 a.toNat 0

/-- The areas as start-up finds them (Table 22.4). RNVM that cannot be read presents NVM_UNCORRECTABLE. -/
def State.areasRead (s : State) (a : AreaCheck) : State :=
  let safe := a.readable && a.safe
  let trims := a.readable && a.trims
  let s : State := { s with
    nvm := { s.nvm with
      readable := a.readable, baseValid := a.readable && a.base, safeValid := safe, trimsValid := trims,
      overlaysValid := a.readable && a.overlays == BitVec.allOnes 16, corrected := a.corrected.toNat,
      safe := if safe then s.nvm.safe else Vector.replicate 128 0, safeDone := Vector.replicate 128 false,
      eventLog := if a.readable && a.events then s.nvm.eventLog else [] }
    commit := { s.commit with
      userBase := if a.readable && a.base then s.commit.userBase else none
      userCrc := if a.readable && a.base then s.commit.userCrc else 0
      store := Vector.ofFn fun k => if k.val = 16 ∨ !a.readable ∨ a.overlays.getLsbD k.val then s.commit.store[k.val] else [] }
    rst := { s.rst with outputsHeld := !safe } }
  s.badWords (if !a.readable && a.bad.isEmpty then [0] else a.bad)

/-- CONFIG_SOURCE and the base configuration in force (R447). -/
def State.baseChosen (s : State) : State :=
  let source : Nat := if s.nvm.readable && s.nvm.baseValid then (if s.commit.userBase.isSome then 1 else 0) else 2
  { s with
    commit := { s.commit with baseInForce := if source = 1 then s.commit.userBase.getD [] else [] }
    rst := { s.rst with configSource := source } }

/-- An address that a base-configuration load writes: FL_TOPOLOGY stands under sources 3–6 (R442). -/
def State.baseWrites (s : State) (addr : Nat) : Bool := !(decide (3 ≤ s.rst.cause) && indexOf addr == 0x2200)

/-- The addresses of the Mitten objects that hold configuration. -/
def mitAddrs : List Nat :=
  [addrOf 0x2700 1] ++ (List.range 8).map (fun j => addrOf 0x2702 (j + 1)) ++ (List.range 16).map fun k => addrOf 0x2703 (k + 1)

/-- Every object takes its value of the base configuration (R13, R418): filters and rules whose value changes restart. -/
def State.baseApplied (s : State) : State :=
  let old := s.val
  let s := { s with dict := s.dict.filter fun e => !s.baseWrites e.1 }
  let s := s.forEach (s.commit.baseInForce.filter fun e => s.baseWrites e.1) fun e s =>
    if indexOf e.1 = 0x2302 then s.modGroup (subOf e.1) fun r => { r with t := BitVec.ofNat 52 e.2 } else s.setVal e.1 e.2
  let changed := mitAddrs.filter fun a => s.val a != old a
  s.forEach changed fun a s => s.mitEffect (indexOf a) (subOf a) (old a) (s.val a)

/-- A site starts PARKED (R447): START_STATE, MASK, the hold of R373 and the self-test allow it. -/
def State.startsUp (s : State) (i : Fin 64) : Bool :=
  let q := s.thermal.regions[(regionOf i).val]
  let hot := q.held && match q.rq.used with
    | some k => decide (s.thRel 3 < k.toNat)
    | none => false
  s.siteCfg i 0x00 2 == 1 && bitOf (s.cfg 0x2002 1) i.val && !hot && !s.selfTestFailed

/-- A force that a record holds when a site comes up (R445, R470). -/
def State.forcesOn (s : State) (i : Fin 64) : List Scope :=
  [Scope.site i, Scope.region (regionOf i), Scope.chip].filter s.gtForced

/-- A site is brought to its START_STATE (Table 1.9): PARKED, and SAFE where a force holds it. -/
def State.siteStart (s : State) (i : Fin 64) : State :=
  if s.startsUp i then
    let forces := s.forcesOn i
    let s := (s.sitePowered i).modCtl i fun c => { c.goto .parked .reset s.clock with forces := forces }
    s.siteLanded i
  else s.siteReload i

/-- BASE_CONFIG_LOAD (R447): the areas are read, the base configuration is applied, and the sites take their START_STATE. -/
def execBaseConfigLoad (areas : AreaCheck) (s : State) : Host.Outcome State Fault Refusal :=
  if s.rst.phase = .started ∧ s.pll.relocking = false ∧ s.rst.runNext = false then
    let s := ((s.areasRead areas).baseChosen).baseApplied
    let s := (s.canReload s.can.straps).modeEffect.ckoAll
    let s := s.forEach allSites fun i s => s.siteStart i
    .next { s with rst := { s.rst with phase := .baseLoaded } }
  else .next s

/-- The Assize area fails its check at start-up (R433): the next fuse is blown and the area erased, or the log is DEAD. -/
def State.eraChanged (s : State) : State :=
  let a := s.assize
  let era := min 16 (a.era + 1)
  let s : State := { s with
    assize := { a with era := era, dead := era == 16, n := 0, entries := [], queued := 0, signing := false, held := [],
                       exported := BitVec.ofNat 64 (at_ era 48) } }
  s.badWords [0x35000]

/-- The payload of the entry that an open marker produces (Table 21.1). -/
def State.markEntry (s : State) (m : OpenMark) : State :=
  match m with
  | .sweep ctr => s.aszDevice 0x051 .chip ctr.toNat
  | .trim i u cells value ctr =>
    s.aszDevice 0x052 (s.aszUnit i u.val) (u.val + at_ cells.toNat 8 + at_ value.toNat 16 + at_ ctr.toNat 48)

/-- The place of a marker in the order of R439: a sweep first, then units rising. -/
def OpenMark.order : OpenMark → Nat
  | .sweep _ => 0
  | .trim i u _ _ _ => 1 + 2 * i.val + u.val

/-- A marker put in its place. -/
def insertMark (m : OpenMark) : List OpenMark → List OpenMark
  | [] => [m]
  | x :: xs => if m.order ≤ x.order then m :: x :: xs else x :: insertMark m xs

/-- Assize start-up (R433, R434, R439): a reserved checkpoint, START, and one entry for each marker still set. -/
def State.aszStart (s : State) (valid : Bool) : State :=
  let s : State := { s with nvm := { s.nvm with assizeValid := valid && s.nvm.readable } }
  let s := if valid || !s.nvm.readable then s else s.eraChanged
  let found := s.aszCounter.toNat
  let s := s.aszSigned
  let s := s.aszDevice 0x050 .chip (s.rst.cause + at_ s.rst.configSource 8 + at_ found 16)
  let s := s.forEach (s.assize.marks.foldr insertMark []) fun m s => s.markEntry m
  { s with assize := { s.assize with marks := [] } }.aszWatch

/-- DICTIONARY_AVAILABLE (R446): Assize start-up, PRE-OPERATIONAL with the boot-up message, a pending wake starts (R425). -/
def execDictionaryAvailable (assize : Bool) (s : State) : Host.Outcome State Fault Refusal :=
  if s.rst.phase = .baseLoaded then
    let s := s.aszStart assize
    let s := ({ s with rst := { s.rst with phase := .available } }).canBoot
    .next (if s.mitten.pending then s.wakeStart else s)
  else .next s

/-! ## RNVM records (R449, R450) -/

/-- The object that reports a failed record. -/
def NvmJob.reporter : NvmJob → Nat
  | .safeValue n _ => siteAddr (Fin.ofNat 64 (n / 2)) 0x84 (n % 2 + 1)
  | .overlay k _ => addrOf 0x2312 k
  | _ => addrOf 0x2810 1

/-- A record lands in its area. -/
def State.recordLands (s : State) (j : NvmJob) : State :=
  match j with
  | .safeValue n v => { s with nvm := { s.nvm with safe := vmodN s.nvm.safe n fun _ => v, safeValid := true } }
  | .overlay k image => { s with commit := { s.commit with store := vmodN s.commit.store (k - 1) fun _ => image } }
  | .event e => { s with nvm := { s.nvm with eventLog := ((false, e) :: s.nvm.eventLog).take 512 } }
  | .shutdown e => { s with nvm := { s.nvm with eventLog := ((true, e) :: s.nvm.eventLog).take 512 } }

/-- The hold of an invalid safe-values area ends (Table 22.4): every unit's value has been committed since start-up and the
area reads back valid with all of them. -/
def State.heldNoMore (s : State) : State :=
  let waits := s.nvm.jobs.any fun j => match j with
    | .safeValue _ _ => true
    | _ => false
  if s.nvm.readable && s.nvm.safeValid && s.nvm.safeDone.all id && !waits then { s with rst := { s.rst with outputsHeld := false } }
  else s

/-- Whose turn a record waits for among the region requests (R27): its region, or 4; none for chip management. DESIGN CHOICE (log
entry 2210): the saving of an overlay, which is neither, takes turns with the regions. -/
def NvmJob.turn : NvmJob → Option Nat
  | .safeValue n _ => some (n / 32 % 4)
  | .overlay _ _ => some 4
  | .event _ => none
  | .shutdown _ => none

/-- The record that RNVM writes next (R27): chip management first, then the region requests round robin, once no Assize entry
waits. -/
def State.nvmPick (s : State) : Option NvmJob :=
  match s.nvm.jobs.find? fun j => j.turn.isNone with
  | some j => some j
  | none =>
    if s.assize.queued ≠ 0 then none
    else (List.range 5).findSome? fun k => s.nvm.jobs.find? fun j => j.turn == some ((s.nvm.pos + k) % 5)

/-- RNVM_RECORD_WRITE (R449, R450): the record whose turn it is is written with its marker, or has failed verification three
times. -/
def execRnvmRecordWrite (ok : Bool) (s : State) : Host.Outcome State Fault Refusal :=
  if s.coreUp ∧ s.nvm.readable then
    match s.nvmPick with
    | none => .next s
    | some j =>
      let pos := match j.turn with
        | some k => (k + 1) % 5
        | none => s.nvm.pos
      let s : State := { s with nvm := { s.nvm with jobs := s.nvm.jobs.erase j, pos := pos } }
      if ok then .next ({ s with nvm := { s.nvm with writes := s.nvm.writes + 1 } }.recordLands j).heldNoMore
      else .next (s.present .ofChip 0xC5 j.reporter 0)
  else .next s

/-! ## In-service tests (R454, R455) -/

/-- The MEM test leaves the site's memories at 0 and its Bushel DISARMED (Table 22.5); the DSP memories of the site's own DSP. -/
def Site.memTested (t : Site) : Site :=
  { t with
    psq := { t.psq with segs := t.psq.segs.map fun (g : Segment) => { g with mem := [] } }
    mse := { t.mse with store := [], toDsp := [], fromDsp := [] }
    dsp := { t.dsp with pmem := [], dmem := [] }
    tdc := { t.tdc with cells := t.tdc.cells.map fun (c : CellTdc) => { c with queue := [] } }
    stream := { t.stream with fifo := [], flushed := 0, bushel := { t.stream.bushel with state := .disarmed, hist := [], image := [] } } }

/-- The CRC of the control store is recomputed and applied with an entry (R214, Table 22.5). -/
def State.storeCrc (s : State) (i : Fin 64) : State :=
  let m := (s.site i).mse
  let crc := crc32 m.storeBytes
  (s.aszChange .device (siteAddr i 0xA6 1) 4 m.crc.toNat crc.toNat).modMse i fun m => { m with crc := crc }

/-- What a completed test leaves. -/
def State.testLeaves (s : State) (i : Fin 64) (test : Nat) : State :=
  match test with
  | 0 =>
    let s := ((s.modSite i Site.memTested).starveSettle i).storeCrc i
    if s.spareServes i then s else (s.dspCrc i false).dspCrc i true
  | 1 => (s.modTdc i fun t => { t with cells := t.cells.map fun (c : CellTdc) => { c with queue := [] } }).starveSettle i
  | _ => s

/-- The result of a completed test (Table 22.10). -/
def SiteTest.done (t : SiteTest) (test : Nat) (fails : BitVec 8) : SiteTest :=
  let bit : BitVec 3 := 1#3 <<< test
  let left := t.left.drop 1
  { t with
    state := if left.isEmpty then 2 else 1
    left := left
    ran := t.ran ||| bit
    failed := if fails = 0 then t.failed else t.failed ||| bit
    memFail := if test = 0 then fails.setWidth 7 else t.memFail
    loopFail := if test = 1 then fails else t.loopFail
    bridgeFail := if test = 2 then fails.setWidth 2 else t.bridgeFail }

/-- TEST_DONE (R454, R455): the test that runs on a site ends with its failures; the spare's MEM test ends. -/
def execTestDone (place : TestPlace) (fails : BitVec 8) (s : State) : Host.Outcome State Fault Refusal :=
  match place with
  | .site i =>
    match (s.site i).test.state, (s.site i).test.left with
    | 1, test :: _ => .next ((s.testLeaves i test).modSite i fun t => { t with test := t.test.done test fails })
    | _, _ => .next s
  | .spare q =>
    if (s.region q).spareTest then
      .next (s.modRegion q fun r => { r with spareTest := false, spareFail := decide (fails ≠ 0), spare := Dsp.reset })
    else .next s

end Sys2Proof.Machine
end

