-- ==== Sys2Proof/Machine/Dispatch.lean ====
section
/-! DEFINITION. One arm for each command: its meaning. -/
namespace Sys2Proof.Machine

/-- What a command does to everything but the queue of waiting commands. -/
def exec (i : Instr) (s : State) : Host.Outcome State Fault Refusal :=
  match i with
  | .stateReqPowerUp iface site => Sys2Proof.Machine.execStateReqPowerUp iface site s
  | .stateReqPowerDown iface site => Sys2Proof.Machine.execStateReqPowerDown iface site s
  | .stateReqUnpark iface site => Sys2Proof.Machine.execStateReqUnpark iface site s
  | .stateReqPark iface site => Sys2Proof.Machine.execStateReqPark iface site s
  | .stateReqFence iface site => Sys2Proof.Machine.execStateReqFence iface site s
  | .stateReqUnfence iface site => Sys2Proof.Machine.execStateReqUnfence iface site s
  | .powerUpComplete site => Sys2Proof.Machine.execPowerUpComplete site s
  | .powerDownComplete site => Sys2Proof.Machine.execPowerDownComplete site s
  | .unparkComplete site => Sys2Proof.Machine.execUnparkComplete site s
  | .parkComplete site => Sys2Proof.Machine.execParkComplete site s
  | .fenceComplete site => Sys2Proof.Machine.execFenceComplete site s
  | .unfenceComplete site => Sys2Proof.Machine.execUnfenceComplete site s
  | .streamWordGrant site => Sys2Proof.Machine.execStreamWordGrant site s
  | .echo => Sys2Proof.Machine.execEcho s
  | .version => Sys2Proof.Machine.execVersion s
  | .dictRead => Sys2Proof.Machine.execDictRead s
  | .dictWrite => Sys2Proof.Machine.execDictWrite s
  | .rawUnknownService => Sys2Proof.Machine.execRawUnknownService s
  | .csvReplyRoom => Sys2Proof.Machine.execCsvReplyRoom s
  | .qcHeartbeatMiss region => Sys2Proof.Machine.execQcHeartbeatMiss region s
  | .watchdogExpiry => Sys2Proof.Machine.execWatchdogExpiry s
  | .registerWrite iface index sub words => Sys2Proof.Machine.execRegisterWrite iface index sub words s
  | .modeChange iface mode => Sys2Proof.Machine.execModeChange iface mode s
  | .lockCriterionMet => Sys2Proof.Machine.execLockCriterionMet s
  | .lockLost => Sys2Proof.Machine.execLockLost s
  | .refLost => Sys2Proof.Machine.execRefLost s
  | .holdoverLong => Sys2Proof.Machine.execHoldoverLong s
  | .refclkQualified phase => Sys2Proof.Machine.execRefclkQualified phase s
  | .resyncTimeout => Sys2Proof.Machine.execResyncTimeout s
  | .slewEnd => Sys2Proof.Machine.execSlewEnd s
  | .epochWrap => Sys2Proof.Machine.execEpochWrap s
  | .syncEdge coarse fine => Sys2Proof.Machine.execSyncEdge coarse fine s
  | .ckoWrite iface output sub value => Sys2Proof.Machine.execCkoWrite iface output sub value s
  | .levelMoveDone site cell which => Sys2Proof.Machine.execLevelMoveDone site cell which s
  | .cmpEdge site cell hi coarse fine => Sys2Proof.Machine.execCmpEdge site cell hi coarse fine s
  | .pcFlagClr iface site cell bits => Sys2Proof.Machine.execPcFlagClr iface site cell bits s
  | .drvOverload site cell => Sys2Proof.Machine.execDrvOverload site cell s
  | .ownerChange iface site cell mode => Sys2Proof.Machine.execOwnerChange iface site cell mode s
  | .ppmuIrangeChange iface site cell value => Sys2Proof.Machine.execPpmuIrangeChange iface site cell value s
  | .ppmuRangeDone site cell => Sys2Proof.Machine.execPpmuRangeDone site cell s
  | .ppmuStart iface site cell value => Sys2Proof.Machine.execPpmuStart iface site cell value s
  | .ppmuSettleDone site cell => Sys2Proof.Machine.execPpmuSettleDone site cell s
  | .ppmuConversionDone site cell value saturated => Sys2Proof.Machine.execPpmuConversionDone site cell value saturated s
  | .timingFlagClr iface site cell bits => Sys2Proof.Machine.execTimingFlagClr iface site cell bits s
  | .adv site below inside above => Sys2Proof.Machine.execAdv site below inside above s
  | .jmp site below inside above => Sys2Proof.Machine.execJmp site below inside above s
  | .jmpIf site below inside above => Sys2Proof.Machine.execJmpIf site below inside above s
  | .psqCall site below inside above => Sys2Proof.Machine.execPsqCall site below inside above s
  | .psqRet site below inside above => Sys2Proof.Machine.execPsqRet site below inside above s
  | .loopBegin site below inside above => Sys2Proof.Machine.execLoopBegin site below inside above s
  | .loopEnd site below inside above => Sys2Proof.Machine.execLoopEnd site below inside above s
  | .waitEvent site below inside above => Sys2Proof.Machine.execWaitEvent site below inside above s
  | .matchVec site below inside above => Sys2Proof.Machine.execMatchVec site below inside above s
  | .syncWait site below inside above => Sys2Proof.Machine.execSyncWait site below inside above s
  | .psqTrig site below inside above => Sys2Proof.Machine.execPsqTrig site below inside above s
  | .calPermit site below inside above => Sys2Proof.Machine.execCalPermit site below inside above s
  | .psqHalt site below inside above => Sys2Proof.Machine.execPsqHalt site below inside above s
  | .psqStart iface site => Sys2Proof.Machine.execPsqStart iface site s
  | .psqStop iface site => Sys2Proof.Machine.execPsqStop iface site s
  | .psqGoto iface site target => Sys2Proof.Machine.execPsqGoto iface site target s
  | .psqFlagClr iface site bits => Sys2Proof.Machine.execPsqFlagClr iface site bits s
  | .psqFillRegion iface site seg count start => Sys2Proof.Machine.execPsqFillRegion iface site seg count start s
  | .psqFillXip iface site seg count start => Sys2Proof.Machine.execPsqFillXip iface site seg count start s
  | .segDataWrite iface site seg bytes => Sys2Proof.Machine.execSegDataWrite iface site seg bytes s
  | .segFillDone site seg => Sys2Proof.Machine.execSegFillDone site seg s
  | .psqSegChainWrite iface site seg value => Sys2Proof.Machine.execPsqSegChainWrite iface site seg value s
  | .rgPatMemWrite iface region bytes => Sys2Proof.Machine.execRgPatMemWrite iface region bytes s
  | .waitResume site => Sys2Proof.Machine.execWaitResume site s
  | .waitTimeout site => Sys2Proof.Machine.execWaitTimeout site s
  | .underrunResume site => Sys2Proof.Machine.execUnderrunResume site s
  | .underrunTimeout site => Sys2Proof.Machine.execUnderrunTimeout site s
  | .buOutputOn iface site unit ctrl => Sys2Proof.Machine.execBuOutputOn iface site unit ctrl s
  | .buOutputOff iface site unit ctrl => Sys2Proof.Machine.execBuOutputOff iface site unit ctrl s
  | .switchesClosed site unit => Sys2Proof.Machine.execSwitchesClosed site unit s
  | .slewMoveDone site unit ampl => Sys2Proof.Machine.execSlewMoveDone site unit ampl s
  | .buWaveChange iface site unit ctrl => Sys2Proof.Machine.execBuWaveChange iface site unit ctrl s
  | .buSineWrite iface site unit value => Sys2Proof.Machine.execBuSineWrite iface site unit value s
  | .buGainChange iface site unit value => Sys2Proof.Machine.execBuGainChange iface site unit value s
  | .rangeSwitchDone site unit => Sys2Proof.Machine.execRangeSwitchDone site unit s
  | .buUserTableWrite iface site unit bytes => Sys2Proof.Machine.execBuUserTableWrite iface site unit bytes s
  | .buSafeValueWrite iface site unit value => Sys2Proof.Machine.execBuSafeValueWrite iface site unit value s
  | .buFlagClr iface site unit bits => Sys2Proof.Machine.execBuFlagClr iface site unit bits s
  | .supervisionQualify site unit which => Sys2Proof.Machine.execSupervisionQualify site unit which s
  | .localSenseEnd site unit => Sys2Proof.Machine.execLocalSenseEnd site unit s
  | .limitOnset site unit sensed => Sys2Proof.Machine.execLimitOnset site unit sensed s
  | .limitRelease site unit => Sys2Proof.Machine.execLimitRelease site unit s
  | .acqContinuous iface site unit cfg => Sys2Proof.Machine.execAcqContinuous iface site unit cfg s
  | .acqOff iface site unit cfg => Sys2Proof.Machine.execAcqOff iface site unit cfg s
  | .acqMseMode iface site unit cfg => Sys2Proof.Machine.execAcqMseMode iface site unit cfg s
  | .adcCfgRestart iface site unit cfg => Sys2Proof.Machine.execAdcCfgRestart iface site unit cfg s
  | .adcCfgChange iface site unit cfg => Sys2Proof.Machine.execAdcCfgChange iface site unit cfg s
  | .sinc4Output site unit sig ref ovl => Sys2Proof.Machine.execSinc4Output site unit sig ref ovl s
  | .mseNop site => Sys2Proof.Machine.execMseNop site s
  | .mseLdi site => Sys2Proof.Machine.execMseLdi site s
  | .ldh site => Sys2Proof.Machine.execLdh site s
  | .mseAddi site => Sys2Proof.Machine.execMseAddi site s
  | .mseAlu site => Sys2Proof.Machine.execMseAlu site s
  | .cmpi site => Sys2Proof.Machine.execCmpi site s
  | .mseCmp site => Sys2Proof.Machine.execMseCmp site s
  | .mseBr site => Sys2Proof.Machine.execMseBr site s
  | .mseCall site => Sys2Proof.Machine.execMseCall site s
  | .mseRet site => Sys2Proof.Machine.execMseRet site s
  | .djnz site => Sys2Proof.Machine.execDjnz site s
  | .waitc site => Sys2Proof.Machine.execWaitc site s
  | .waite site => Sys2Proof.Machine.execWaite site s
  | .waitr site => Sys2Proof.Machine.execWaitr site s
  | .mseWaitEnd site => Sys2Proof.Machine.execMseWaitEnd site s
  | .setdac site => Sys2Proof.Machine.execSetdac site s
  | .setrng site => Sys2Proof.Machine.execSetrng site s
  | .mseAcqStart site => Sys2Proof.Machine.execMseAcqStart site s
  | .mseAcqStop site => Sys2Proof.Machine.execMseAcqStop site s
  | .rdres site => Sys2Proof.Machine.execRdres site s
  | .pmeas site => Sys2Proof.Machine.execPmeas site s
  | .rdpm site => Sys2Proof.Machine.execRdpm site s
  | .rdst site => Sys2Proof.Machine.execRdst site s
  | .post site => Sys2Proof.Machine.execPost site s
  | .postStallEnd site => Sys2Proof.Machine.execPostStallEnd site s
  | .mflag site => Sys2Proof.Machine.execMflag site s
  | .stg site => Sys2Proof.Machine.execStg site s
  | .commit site => Sys2Proof.Machine.execCommit site s
  | .mseEnd site => Sys2Proof.Machine.execMseEnd site s
  | .mseFault site => Sys2Proof.Machine.execMseFault site s
  | .rdmb site => Sys2Proof.Machine.execRdmb site s
  | .rdt site => Sys2Proof.Machine.execRdt site s
  | .mseLd site => Sys2Proof.Machine.execMseLd site s
  | .mseSt site => Sys2Proof.Machine.execMseSt site s
  | .win site => Sys2Proof.Machine.execWin site s
  | .mseStart iface site => Sys2Proof.Machine.execMseStart iface site s
  | .mseStop iface site => Sys2Proof.Machine.execMseStop iface site s
  | .mseRestart site => Sys2Proof.Machine.execMseRestart site s
  | .mseTimeout site => Sys2Proof.Machine.execMseTimeout site s
  | .deferExpiry site => Sys2Proof.Machine.execDeferExpiry site s
  | .trimCompletion site => Sys2Proof.Machine.execTrimCompletion site s
  | .mseStoreWrite iface site bytes => Sys2Proof.Machine.execMseStoreWrite iface site bytes s
  | .mseLoadXip iface site load => Sys2Proof.Machine.execMseLoadXip iface site load s
  | .mseLoadDone site => Sys2Proof.Machine.execMseLoadDone site s
  | .dspNop site slot => Sys2Proof.Machine.execDspNop site slot s
  | .dspMac site slot => Sys2Proof.Machine.execDspMac site slot s
  | .dspMsu site slot => Sys2Proof.Machine.execDspMsu site slot s
  | .dspMpy site slot => Sys2Proof.Machine.execDspMpy site slot s
  | .dspMac2 site slot => Sys2Proof.Machine.execDspMac2 site slot s
  | .dspMsu2 site slot => Sys2Proof.Machine.execDspMsu2 site slot s
  | .dspMacx site slot => Sys2Proof.Machine.execDspMacx site slot s
  | .dspAclr site slot => Sys2Proof.Machine.execDspAclr site slot s
  | .dspAmov site slot => Sys2Proof.Machine.execDspAmov site slot s
  | .dspAadd site slot => Sys2Proof.Machine.execDspAadd site slot s
  | .dspExt site slot => Sys2Proof.Machine.execDspExt site slot s
  | .dspAget site slot => Sys2Proof.Machine.execDspAget site slot s
  | .dspAput site slot => Sys2Proof.Machine.execDspAput site slot s
  | .dspAdd site slot => Sys2Proof.Machine.execDspAdd site slot s
  | .dspSub site slot => Sys2Proof.Machine.execDspSub site slot s
  | .dspAdds site slot => Sys2Proof.Machine.execDspAdds site slot s
  | .dspSubs site slot => Sys2Proof.Machine.execDspSubs site slot s
  | .dspAnd site slot => Sys2Proof.Machine.execDspAnd site slot s
  | .dspOr site slot => Sys2Proof.Machine.execDspOr site slot s
  | .dspXor site slot => Sys2Proof.Machine.execDspXor site slot s
  | .dspMov site slot => Sys2Proof.Machine.execDspMov site slot s
  | .dspNeg site slot => Sys2Proof.Machine.execDspNeg site slot s
  | .dspAbs site slot => Sys2Proof.Machine.execDspAbs site slot s
  | .dspMin site slot => Sys2Proof.Machine.execDspMin site slot s
  | .dspMax site slot => Sys2Proof.Machine.execDspMax site slot s
  | .dspShl site slot => Sys2Proof.Machine.execDspShl site slot s
  | .dspShra site slot => Sys2Proof.Machine.execDspShra site slot s
  | .dspShrl site slot => Sys2Proof.Machine.execDspShrl site slot s
  | .dspMul site slot => Sys2Proof.Machine.execDspMul site slot s
  | .dspMulh site slot => Sys2Proof.Machine.execDspMulh site slot s
  | .dspAddi site slot => Sys2Proof.Machine.execDspAddi site slot s
  | .dspShi site slot => Sys2Proof.Machine.execDspShi site slot s
  | .dspLd site => Sys2Proof.Machine.execDspLd site s
  | .dspSt site => Sys2Proof.Machine.execDspSt site s
  | .dspLd2 site => Sys2Proof.Machine.execDspLd2 site s
  | .dspSt2 site => Sys2Proof.Machine.execDspSt2 site s
  | .dspAgset site => Sys2Proof.Machine.execDspAgset site s
  | .dspAgget site => Sys2Proof.Machine.execDspAgget site s
  | .dspLdi site => Sys2Proof.Machine.execDspLdi site s
  | .dspBr site => Sys2Proof.Machine.execDspBr site s
  | .dspCall site => Sys2Proof.Machine.execDspCall site s
  | .dspRet site => Sys2Proof.Machine.execDspRet site s
  | .dspRti site => Sys2Proof.Machine.execDspRti site s
  | .dspBrz site => Sys2Proof.Machine.execDspBrz site s
  | .dspBrnz site => Sys2Proof.Machine.execDspBrnz site s
  | .dspBrlt site => Sys2Proof.Machine.execDspBrlt site s
  | .dspBrge site => Sys2Proof.Machine.execDspBrge site s
  | .dspLoop site => Sys2Proof.Machine.execDspLoop site s
  | .dspIn site => Sys2Proof.Machine.execDspIn site s
  | .dspMbr site => Sys2Proof.Machine.execDspMbr site s
  | .dspMbw site => Sys2Proof.Machine.execDspMbw site s
  | .dspSout site => Sys2Proof.Machine.execDspSout site s
  | .soutHoldEnd site => Sys2Proof.Machine.execSoutHoldEnd site s
  | .dspRput site => Sys2Proof.Machine.execDspRput site s
  | .dspRpub site => Sys2Proof.Machine.execDspRpub site s
  | .dspDflag site => Sys2Proof.Machine.execDspDflag site s
  | .dspSrd site => Sys2Proof.Machine.execDspSrd site s
  | .dspSwr site => Sys2Proof.Machine.execDspSwr site s
  | .dspSincos site => Sys2Proof.Machine.execDspSincos site s
  | .dspWait site => Sys2Proof.Machine.execDspWait site s
  | .dspWaitEnd site => Sys2Proof.Machine.execDspWaitEnd site s
  | .dspRclr site => Sys2Proof.Machine.execDspRclr site s
  | .dspTrap site => Sys2Proof.Machine.execDspTrap site s
  | .dspHalt site => Sys2Proof.Machine.execDspHalt site s
  | .dspInterruptEntry site => Sys2Proof.Machine.execDspInterruptEntry site s
  | .dspTimer site => Sys2Proof.Machine.execDspTimer site s
  | .dspStart iface site => Sys2Proof.Machine.execDspStart iface site s
  | .dspStop iface site => Sys2Proof.Machine.execDspStop iface site s
  | .h2dWrite iface site word => Sys2Proof.Machine.execH2dWrite iface site word s
  | .dspPmemWrite iface site bytes => Sys2Proof.Machine.execDspPmemWrite iface site bytes s
  | .dspDmemWrite iface site bytes => Sys2Proof.Machine.execDspDmemWrite iface site bytes s
  | .dspLoadXip iface site load => Sys2Proof.Machine.execDspLoadXip iface site load s
  | .dspLoadDone site => Sys2Proof.Machine.execDspLoadDone site s
  | .dspFlagClr iface site bits => Sys2Proof.Machine.execDspFlagClr iface site bits s
  | .stampResolve site source => Sys2Proof.Machine.execStampResolve site source s
  | .lossWordStore site cell => Sys2Proof.Machine.execLossWordStore site cell s
  | .intervalTimeout site k => Sys2Proof.Machine.execIntervalTimeout site k s
  | .freqGateTimeout site f => Sys2Proof.Machine.execFreqGateTimeout site f s
  | .tdcRun iface site => Sys2Proof.Machine.execTdcRun iface site s
  | .tdcRunDone site hits => Sys2Proof.Machine.execTdcRunDone site hits s
  | .tdcApply iface site => Sys2Proof.Machine.execTdcApply iface site s
  | .tdcNominal iface site => Sys2Proof.Machine.execTdcNominal iface site s
  | .tdcSpecial iface site => Sys2Proof.Machine.execTdcSpecial iface site s
  | .tdcSpecialDone hits => Sys2Proof.Machine.execTdcSpecialDone hits s
  | .tdcBinsWrite iface site source bytes => Sys2Proof.Machine.execTdcBinsWrite iface site source bytes s
  | .tdcFlagClr iface site cell bits => Sys2Proof.Machine.execTdcFlagClr iface site cell bits s
  | .triggerFire region u cycle second placed => Sys2Proof.Machine.execTriggerFire region u cycle second placed s
  | .holdoffEnd region u => Sys2Proof.Machine.execHoldoffEnd region u s
  | .trigPacketRx => Sys2Proof.Machine.execTrigPacketRx s
  | .chainTrigAction => Sys2Proof.Machine.execChainTrigAction s
  | .trigSiteClr iface site bits => Sys2Proof.Machine.execTrigSiteClr iface site bits s
  | .bushelArm iface site cfg => Sys2Proof.Machine.execBushelArm iface site cfg s
  | .bushelTrigger iface site => Sys2Proof.Machine.execBushelTrigger iface site s
  | .bushelRearm iface site => Sys2Proof.Machine.execBushelRearm iface site s
  | .bushelCaptureDone site => Sys2Proof.Machine.execBushelCaptureDone site s
  | .bushelDumpDone site => Sys2Proof.Machine.execBushelDumpDone site s
  | .packetFlush site => Sys2Proof.Machine.execPacketFlush site s
  | .lostMarkQueue site => Sys2Proof.Machine.execLostMarkQueue site s
  | .txnOpen iface group => Sys2Proof.Machine.execTxnOpen iface group s
  | .txnPrepare iface group => Sys2Proof.Machine.execTxnPrepare iface group s
  | .prepareDone group => Sys2Proof.Machine.execPrepareDone group s
  | .txnCommit iface group asap applyLate => Sys2Proof.Machine.execTxnCommit iface group asap applyLate s
  | .txnAbort iface group => Sys2Proof.Machine.execTxnAbort iface group s
  | .txnApply => Sys2Proof.Machine.execTxnApply s
  | .txnTimeout group => Sys2Proof.Machine.execTxnTimeout group s
  | .xchipPrepare => Sys2Proof.Machine.execXchipPrepare s
  | .xchipVote => Sys2Proof.Machine.execXchipVote s
  | .xchipCommit => Sys2Proof.Machine.execXchipCommit s
  | .xchipAbort => Sys2Proof.Machine.execXchipAbort s
  | .xchipOutcome => Sys2Proof.Machine.execXchipOutcome s
  | .txnDeadline group => Sys2Proof.Machine.execTxnDeadline group s
  | .voteDeadline group => Sys2Proof.Machine.execVoteDeadline group s
  | .overlayStoreWrite iface slot bytes => Sys2Proof.Machine.execOverlayStoreWrite iface slot bytes s
  | .overlayApply iface slot => Sys2Proof.Machine.execOverlayApply iface slot s
  | .baseSave iface => Sys2Proof.Machine.execBaseSave iface s
  | .baseSaveDone ok => Sys2Proof.Machine.execBaseSaveDone ok s
  | .baseErase iface => Sys2Proof.Machine.execBaseErase iface s
  | .portTrained port => Sys2Proof.Machine.execPortTrained port s
  | .trainingRetry port => Sys2Proof.Machine.execTrainingRetry port s
  | .idleBlock port => Sys2Proof.Machine.execIdleBlock port s
  | .ackBlock port lseq => Sys2Proof.Machine.execAckBlock port lseq s
  | .nakBlock port lseq => Sys2Proof.Machine.execNakBlock port lseq s
  | .creditBlock port vc words => Sys2Proof.Machine.execCreditBlock port vc words s
  | .enumBlock port next accLat => Sys2Proof.Machine.execEnumBlock port next accLat s
  | .enumEndBlock port last => Sys2Proof.Machine.execEnumEndBlock port last s
  | .breakBlock port edge dir => Sys2Proof.Machine.execBreakBlock port edge dir s
  | .pingBlock port time => Sys2Proof.Machine.execPingBlock port time s
  | .pongBlock port time => Sys2Proof.Machine.execPongBlock port time s
  | .laneAlignBlock port lane => Sys2Proof.Machine.execLaneAlignBlock port lane s
  | .ctlBlockUnknown port => Sys2Proof.Machine.execCtlBlockUnknown port s
  | .packetReceive port lseq h0 payload trailer => Sys2Proof.Machine.execPacketReceive port lseq h0 payload trailer s
  | .ackTimer port => Sys2Proof.Machine.execAckTimer port s
  | .portDown port => Sys2Proof.Machine.execPortDown port s
  | .dictPktRead => Sys2Proof.Machine.execDictPktRead s
  | .dictPktWrite => Sys2Proof.Machine.execDictPktWrite s
  | .dictPktReset => Sys2Proof.Machine.execDictPktReset s
  | .dictFragmentTimeout hop => Sys2Proof.Machine.execDictFragmentTimeout hop s
  | .syncPacketRx => Sys2Proof.Machine.execSyncPacketRx s
  | .flRestore iface => Sys2Proof.Machine.execFlRestore iface s
  | .flRetrainUp iface => Sys2Proof.Machine.execFlRetrainUp iface s
  | .flRetrainDn iface => Sys2Proof.Machine.execFlRetrainDn iface s
  | .flBypassEnter iface => Sys2Proof.Machine.execFlBypassEnter iface s
  | .nmtStart node => Sys2Proof.Machine.execNmtStart node s
  | .nmtStop node => Sys2Proof.Machine.execNmtStop node s
  | .nmtEnterPreop node => Sys2Proof.Machine.execNmtEnterPreop node s
  | .nmtResetApp node => Sys2Proof.Machine.execNmtResetApp node s
  | .nmtResetComm node straps => Sys2Proof.Machine.execNmtResetComm node straps s
  | .usdoUpload client first index sub room => Sys2Proof.Machine.execUsdoUpload client first index sub room s
  | .usdoDownload client first last index sub bytes => Sys2Proof.Machine.execUsdoDownload client first last index sub bytes s
  | .usdoTimeout => Sys2Proof.Machine.execUsdoTimeout s
  | .rpdoRx cob data => Sys2Proof.Machine.execRpdoRx cob data s
  | .tpdoChangeCheck tpdo => Sys2Proof.Machine.execTpdoChangeCheck tpdo s
  | .tpdoEventTimer tpdo => Sys2Proof.Machine.execTpdoEventTimer tpdo s
  | .heartbeatTimer => Sys2Proof.Machine.execHeartbeatTimer s
  | .emcyTransmit => Sys2Proof.Machine.execEmcyTransmit s
  | .errorHistoryClear iface => Sys2Proof.Machine.execErrorHistoryClear iface s
  | .canErrPassive tec recv => Sys2Proof.Machine.execCanErrPassive tec recv s
  | .canBusOff => Sys2Proof.Machine.execCanBusOff s
  | .busOffRecovery => Sys2Proof.Machine.execBusOffRecovery s
  | .canDupNode => Sys2Proof.Machine.execCanDupNode s
  | .foreignFrame => Sys2Proof.Machine.execForeignFrame s
  | .spsWrite addr words ending trailer => Sys2Proof.Machine.execSpsWrite addr words ending trailer s
  | .spsRead addr count ending trailer => Sys2Proof.Machine.execSpsRead addr count ending trailer s
  | .contRead addr count ending trailer => Sys2Proof.Machine.execContRead addr count ending trailer s
  | .spsStatus ending trailer => Sys2Proof.Machine.execSpsStatus ending trailer s
  | .rawWrite words ending trailer => Sys2Proof.Machine.execRawWrite words ending trailer s
  | .rawRead count ending trailer => Sys2Proof.Machine.execRawRead count ending trailer s
  | .xipTransferStart => Sys2Proof.Machine.execXipTransferStart s
  | .xipTransferDone bytes => Sys2Proof.Machine.execXipTransferDone bytes s
  | .dqsTimeout => Sys2Proof.Machine.execDqsTimeout s
  | .sensorReading site sensor code => Sys2Proof.Machine.execSensorReading site sensor code s
  | .hotClassEntry site unit out force => Sys2Proof.Machine.execHotClassEntry site unit out force s
  | .hotClassExit site out0 force0 out1 force1 => Sys2Proof.Machine.execHotClassExit site out0 force0 out1 force1 s
  | .thermalStepDown site => Sys2Proof.Machine.execThermalStepDown site s
  | .thermalStepUp site => Sys2Proof.Machine.execThermalStepUp site s
  | .thAck iface sites => Sys2Proof.Machine.execThAck iface sites s
  | .thSensorClr iface sites => Sys2Proof.Machine.execThSensorClr iface sites s
  | .budgetUpdate iOut force ppmu => Sys2Proof.Machine.execBudgetUpdate iOut force ppmu s
  | .budgetStepUp => Sys2Proof.Machine.execBudgetStepUp s
  | .conditionGone kind site cell => Sys2Proof.Machine.execConditionGone kind site cell s
  | .gtAck iface slot rseq => Sys2Proof.Machine.execGtAck iface slot rseq s
  | .gtAckAll iface => Sys2Proof.Machine.execGtAckAll iface s
  | .quietPeriodExpiry scope => Sys2Proof.Machine.execQuietPeriodExpiry scope s
  | .calRequest iface => Sys2Proof.Machine.execCalRequest iface s
  | .calCancel iface => Sys2Proof.Machine.execCalCancel iface s
  | .calSweep iface => Sys2Proof.Machine.execCalSweep iface s
  | .calFactory iface => Sys2Proof.Machine.execCalFactory iface s
  | .calEntry site => Sys2Proof.Machine.execCalEntry site s
  | .calStepDone site codes => Sys2Proof.Machine.execCalStepDone site codes s
  | .calStepTimeout site => Sys2Proof.Machine.execCalStepTimeout site s
  | .calMaxDeferExpiry site => Sys2Proof.Machine.execCalMaxDeferExpiry site s
  | .sweepPhaseDone => Sys2Proof.Machine.execSweepPhaseDone s
  | .mittenTick analogue outputs => Sys2Proof.Machine.execMittenTick analogue outputs s
  | .wakeOverlayStage => Sys2Proof.Machine.execWakeOverlayStage s
  | .wakeLockTimeout => Sys2Proof.Machine.execWakeLockTimeout s
  | .clrWake iface => Sys2Proof.Machine.execClrWake iface s
  | .clrCounts iface => Sys2Proof.Machine.execClrCounts iface s
  | .assizeQueueWrite ok => Sys2Proof.Machine.execAssizeQueueWrite ok s
  | .checkpointSigned => Sys2Proof.Machine.execCheckpointSigned s
  | .aszExportedWrite iface value => Sys2Proof.Machine.execAszExportedWrite iface value s
  | .rnvmRecordWrite ok => Sys2Proof.Machine.execRnvmRecordWrite ok s
  | .powerOn => Sys2Proof.Machine.execPowerOn s
  | .pwrOk level => Sys2Proof.Machine.execPwrOk level s
  | .resetN level => Sys2Proof.Machine.execResetN level s
  | .coreRelease straps => Sys2Proof.Machine.execCoreRelease straps s
  | .baseConfigLoad areas => Sys2Proof.Machine.execBaseConfigLoad areas s
  | .dictionaryAvailable assize => Sys2Proof.Machine.execDictionaryAvailable assize s
  | .selftestDone failed => Sys2Proof.Machine.execSelftestDone failed s
  | .supplyFault supply mv => Sys2Proof.Machine.execSupplyFault supply mv s
  | .rgTestMem iface site => Sys2Proof.Machine.execRgTestMem iface site s
  | .rgTestLoop iface site => Sys2Proof.Machine.execRgTestLoop iface site s
  | .rgTestBridge iface site => Sys2Proof.Machine.execRgTestBridge iface site s
  | .testDone place fails => Sys2Proof.Machine.execTestDone place fails s
  | .spareAssign iface region local_ => Sys2Proof.Machine.execSpareAssign iface region local_ s
  | .spareTest iface region => Sys2Proof.Machine.execSpareTest iface region s
  | .extest captured shift => Sys2Proof.Machine.execExtest captured shift s
  | .idcode => Sys2Proof.Machine.execIdcode s
  | .samplePreload captured shift => Sys2Proof.Machine.execSamplePreload captured shift s
  | .clamp => Sys2Proof.Machine.execClamp s
  | .highz => Sys2Proof.Machine.execHighz s
  | .extestPulse captured shift => Sys2Proof.Machine.execExtestPulse captured shift s
  | .extestTrain captured shift => Sys2Proof.Machine.execExtestTrain captured shift s
  | .bypass => Sys2Proof.Machine.execBypass s
  | .ppmuClamp site cell => Sys2Proof.Machine.execPpmuClamp site cell s
  | .trigInEdge line coarse fine => Sys2Proof.Machine.execTrigInEdge line coarse fine s
  | .ringSlotGrant port => Sys2Proof.Machine.execRingSlotGrant port s
  | .linkPllLocked => Sys2Proof.Machine.execLinkPllLocked s
  | .blockLockLost port lane => Sys2Proof.Machine.execBlockLockLost port lane s
  | .vaonLoss => Sys2Proof.Machine.execVaonLoss s
  | .vposVnegAbsent absent => Sys2Proof.Machine.execVposVnegAbsent absent s
  | .tapReset => Sys2Proof.Machine.execTapReset s

end Sys2Proof.Machine
end

