-- ==== Sys2Proof/Safety.lean ====
section
/-! DEFINITION. What a safe run is: one that no fault and no refusal ends. -/
namespace Sys2Proof

/-- The outcome is a next state. -/
def Safety.Continues (o : Host.Outcome Machine.State Machine.Fault Machine.Refusal) : Prop :=
  ∃ s, o = .next s

/-- A command completes in every state. -/
def Safety.Completes (c : Instr) : Prop := ∀ s, Safety.Continues (Machine.exec c s)

end Sys2Proof
end

