-- ==== Sys2Proof/WellFormed.lean ====
section
/-! DEFINITION. Which commands the world outside can send: what a link, a bus or a converter cannot deliver is ill-formed. -/
namespace Sys2Proof

/-- A CAN FD data length in bytes. -/
def canLength (n : Nat) : Bool := decide (n ≤ 8) || [12, 16, 20, 24, 32, 48, 64].contains n

/-- LENGTH of a packet header (Table 14.3): the payload words of the packet. -/
def packetLength (h0 : BitVec 64) : Nat := (h0.toNat / 2 ^ 10) % 256

/-- The hits of a code-density run for one converter: 1,280 bins in each half (R260, R261). -/
def hitsShape (h : List Nat × List Nat) : Bool := h.1.length == 1280 && h.2.length == 1280

/-- A command has the shape that its source can give it. -/
def Instr.wf : Instr → Bool
  | .packetReceive _ _ h0 payload _ => 1 ≤ payload.length && payload.length == packetLength h0
  | .rpdoRx _ data => canLength data.length
  | .budgetUpdate iOut force ppmu => iOut.length == 128 && force.length == 128 && ppmu.length == 512
  | .mittenTick analogue outputs => analogue.length == 35 && outputs.length == 512
  | .tdcRunDone _ hits => hits.all hitsShape
  | .tdcSpecialDone hits => hits.all hitsShape
  | .extest captured shift => captured.length == shift.length
  | .samplePreload captured shift => captured.length == shift.length
  | .extestPulse captured shift => captured.length == shift.length
  | .extestTrain captured shift => captured.length == shift.length
  | _ => true

end Sys2Proof
end

