-- ==== Sys2Proof/Certificates/Slice0/Obligations.lean ====
section
/-! DEFINITION. The statements about the model: what its commands do, what they leave, what every step keeps. -/
namespace Sys2Proof.Claims
open Sys2Proof.Machine

/-- The write that a command of the host is: its interface, the address of the subindex and the value. -/
def writeOf : Instr → Option (Iface × Nat × Nat)
  | .stateReqPowerUp iface i => some (iface, siteAddr i 0x00 1, 1)
  | .stateReqPowerDown iface i => some (iface, siteAddr i 0x00 1, 2)
  | .stateReqUnpark iface i => some (iface, siteAddr i 0x00 1, 3)
  | .stateReqPark iface i => some (iface, siteAddr i 0x00 1, 4)
  | .stateReqFence iface i => some (iface, siteAddr i 0x00 1, 5)
  | .stateReqUnfence iface i => some (iface, siteAddr i 0x00 1, 6)
  | .modeChange iface mode => some (iface, addrOf 0x2100 1, mode.toNat)
  | .ckoWrite iface output sub value => some (iface, addrOf (0x2110 + output.val) (sub.val + 1), value.toNat)
  | .pcFlagClr iface i c bits => some (iface, siteAddr i 0x26 (c.val + 1), bits.toNat)
  | .ownerChange iface i c mode => some (iface, siteAddr i 0x22 (c.val + 1), mode.toNat)
  | .ppmuIrangeChange iface i c value => some (iface, siteAddr i 0x23 (c.val + 1), value.toNat)
  | .ppmuStart iface i c value => some (iface, siteAddr i 0x23 (c.val + 1), (value ||| 0x100#32).toNat)
  | .timingFlagClr iface i c bits => some (iface, siteAddr i 0x52 (c.val + 1), bits.toNat)
  | .psqStart iface i => some (iface, siteAddr i 0x60 1, 1)
  | .psqStop iface i => some (iface, siteAddr i 0x60 1, 2)
  | .psqGoto iface i target => some (iface, siteAddr i 0x64 1, target.toNat)
  | .psqFlagClr iface i bits => some (iface, siteAddr i 0x67 1, bits.toNat)
  | .psqFillRegion iface i seg count start =>
    some (iface, siteAddr i 0x66 1, (seg.val + at_ count.toNat 8 + at_ start.toNat 32))
  | .psqFillXip iface i seg count start =>
    some (iface, siteAddr i 0x66 1, (seg.val + at_ 1 4 + at_ count.toNat 8 + at_ start.toNat 32))
  | .psqSegChainWrite iface i seg value => some (iface, siteAddr i 0x63 (seg.val + 1), value.toNat)
  | .buOutputOn iface i u ctrl => some (iface, siteAddr i 0x80 (u.val + 1), (ctrl ||| 1#32).toNat)
  | .buOutputOff iface i u ctrl => some (iface, siteAddr i 0x80 (u.val + 1), (ctrl &&& ~~~1#32).toNat)
  | .buWaveChange iface i u ctrl => some (iface, siteAddr i 0x80 (u.val + 1), ctrl.toNat)
  | .buSineWrite iface i u value => some (iface, siteAddr i 0x83 (u.val + 1), value.toNat)
  | .buGainChange iface i u value => some (iface, siteAddr i 0x81 (u.val + 1), value.toNat)
  | .buSafeValueWrite iface i u value => some (iface, siteAddr i 0x84 (u.val + 1), value.toNat)
  | .buFlagClr iface i u bits => some (iface, siteAddr i 0x88 (u.val + 1), bits.toNat)
  | .acqOff iface i u cfg => some (iface, siteAddr i 0x85 (u.val + 1), ((cfg &&& ~~~3#32) ||| 0#32).toNat)
  | .acqContinuous iface i u cfg => some (iface, siteAddr i 0x85 (u.val + 1), ((cfg &&& ~~~3#32) ||| 1#32).toNat)
  | .acqMseMode iface i u cfg => some (iface, siteAddr i 0x85 (u.val + 1), ((cfg &&& ~~~3#32) ||| 2#32).toNat)
  | .adcCfgRestart iface i u cfg => some (iface, siteAddr i 0x85 (u.val + 1), cfg.toNat)
  | .adcCfgChange iface i u cfg => some (iface, siteAddr i 0x85 (u.val + 1), cfg.toNat)
  | .mseStart iface i => some (iface, siteAddr i 0xA0 1, 1)
  | .mseStop iface i => some (iface, siteAddr i 0xA0 1, 2)
  | .mseLoadXip iface i load => some (iface, siteAddr i 0xA5 2, load.toNat)
  | .dspStart iface i => some (iface, siteAddr i 0xC0 1, 1)
  | .dspStop iface i => some (iface, siteAddr i 0xC0 1, 2)
  | .h2dWrite iface i word => some (iface, siteAddr i 0xC1 1, word.toNat)
  | .dspLoadXip iface i load => some (iface, siteAddr i 0xC6 3, load.toNat)
  | .dspFlagClr iface i bits => some (iface, siteAddr i 0xC3 1, bits.toNat)
  | .tdcRun iface i => some (iface, siteAddr i 0xE8 1, 1)
  | .tdcApply iface i => some (iface, siteAddr i 0xE8 1, 2)
  | .tdcNominal iface i => some (iface, siteAddr i 0xE8 1, 3)
  | .tdcSpecial iface i => some (iface, siteAddr i 0xE8 1, 4)
  | .tdcFlagClr iface i c bits => some (iface, siteAddr i 0xEA (c.val + 1), bits.toNat)
  | .trigSiteClr iface i bits => some (iface, siteAddr i 0xE2 2, bits.toNat)
  | .bushelArm iface i cfg => some (iface, siteAddr i 0xE3 1, cfg.toNat)
  | .bushelTrigger iface i => some (iface, siteAddr i 0xE3 2, 1)
  | .bushelRearm iface i => some (iface, siteAddr i 0xE3 2, 2)
  | .flRestore iface => some (iface, addrOf 0x2200 2, 1)
  | .flRetrainUp iface => some (iface, addrOf 0x2200 2, 2)
  | .flRetrainDn iface => some (iface, addrOf 0x2200 2, 3)
  | .flBypassEnter iface => some (iface, addrOf 0x2204 1, 1)
  | .errorHistoryClear iface => some (iface, addrOf 0x1003 0, 0)
  | .thAck iface sites => some (iface, addrOf 0x2502 0x41, sites.toNat)
  | .thSensorClr iface sites => some (iface, addrOf 0x2505 0x41, sites.toNat)
  | .gtAck iface slot rseq => some (iface, addrOf 0x2402 1, (slot.toNat + at_ rseq.toNat 16))
  | .gtAckAll iface => some (iface, addrOf 0x2402 2, 1)
  | .calRequest iface => some (iface, addrOf 0x2600 1, 1)
  | .calCancel iface => some (iface, addrOf 0x2600 1, 2)
  | .calSweep iface => some (iface, addrOf 0x2600 1, 3)
  | .clrWake iface => some (iface, addrOf 0x2700 2, 1)
  | .clrCounts iface => some (iface, addrOf 0x2700 2, 2)
  | .aszExportedWrite iface value => some (iface, addrOf 0x2902 1, value.toNat)
  | .rgTestMem iface i => some (iface, regionAddr (regionOf i) 0x41 ((localOf i).val + 1), 1)
  | .rgTestLoop iface i => some (iface, regionAddr (regionOf i) 0x41 ((localOf i).val + 1), 2)
  | .rgTestBridge iface i => some (iface, regionAddr (regionOf i) 0x41 ((localOf i).val + 1), 4)
  | .spareAssign iface q k => some (iface, regionAddr q 0x40 1, k.toNat)
  | .spareTest iface q => some (iface, regionAddr q 0x40 3, 1)
  | _ => none

/-- The writes of TXN_CTRL, OVERLAY_ACTIVE, BASE_CFG and the FACTORY command, which the Commit Unit serves by themselves. -/
def commandOf : Instr → Option (Iface × Nat × Nat)
  | .txnOpen iface group => some (iface, addrOf 0x2300 1, (group.val + 1 + at_ 1 8))
  | .txnPrepare iface group => some (iface, addrOf 0x2300 1, (group.val + 1 + at_ 2 8))
  | .txnCommit iface group asap applyLate =>
    some (iface, addrOf 0x2300 1, (group.val + 1 + at_ 3 8 + at_ (b2n asap) 12 + at_ (b2n applyLate) 13))
  | .txnAbort iface group => some (iface, addrOf 0x2300 1, (group.val + 1 + at_ 4 8))
  | .overlayApply iface slot => some (iface, addrOf 0x2310 1, slot.toNat)
  | .baseSave iface => some (iface, addrOf 0x2320 1, 1)
  | .baseErase iface => some (iface, addrOf 0x2320 1, 2)
  | .calFactory iface => some (iface, addrOf 0x2600 1, 4)
  | _ => none

/-- The DOMAIN write that a command of the host is: its interface, the address and the bytes. -/
def domainOf : Instr → Option (Iface × Nat × List (BitVec 8))
  | .segDataWrite iface i seg bytes => some (iface, siteAddr i 0x65 (seg.val + 1), bytes)
  | .rgPatMemWrite iface q bytes => some (iface, regionAddr q 0x20 1, bytes)
  | .buUserTableWrite iface i u bytes => some (iface, siteAddr i 0x89 (u.val + 1), bytes)
  | .mseStoreWrite iface i bytes => some (iface, siteAddr i 0xA4 1, bytes)
  | .dspPmemWrite iface i bytes => some (iface, siteAddr i 0xC4 1, bytes)
  | .dspDmemWrite iface i bytes => some (iface, siteAddr i 0xC5 1, bytes)
  | .tdcBinsWrite iface i source bytes => some (iface, siteAddr i 0xE9 (source.val + 1), bytes)
  | .overlayStoreWrite iface slot bytes => some (iface, addrOf 0x2312 (slot.val + 1), bytes)
  | _ => none

/-- The words `ws` written at `a` from `f` in the cycle of `s` are taken as a single-write transaction that leaves `w`: they pass
R40, R11 and R12, `f` owns no open group, the checks of R290 and R292 find nothing, the XIP queue has room, and no group that
applied in this cycle wrote the subindex (R308). -/
structure Accepts (s : State) (f : Iface) (a : Nat) (ws : List Word) (w : Nat) : Prop where
  plain  : isCommand (a, w) = false
  value  : s.accept a ws = .ok w
  owner  : s.groupCheck f (a, w) = 0
  single : s.openGroup f = none
  checks : s.checkFail .single [(a, w)] [] = none
  room   : xipFail s.spm.queue.length [(a, w)] = none
  stands : s.outranked a = false

/-- A write as the Commit Unit applies it. -/
def written (s : State) (f : Iface) (a w : Nat) : Applied :=
  { ctx := { src := .iface f, group := 0, timed := none }, addr := a, old := s.val a, v := w }

/-- The transaction of a single write. -/
def alone (f : Iface) (a w : Nat) : Txn :=
  { ctx := { src := .iface f, group := 0, timed := none }, entries := [(a, w)], overlays := [] }

/-- `s` after a single write has been applied (R39, R43, R291): the value stands, the log takes its entry, the effect of the
subindex follows, groups that depend on the value fail, and the write is remembered as its cycle's. -/
def applied (s : State) (f : Iface) (a w : Nat) : State :=
  let t := (((((s.planesKept [a]).stored (written s f a w)).logTxn (alone f a w) [written s f a w]).effect
    (written s f a w)).groupsChanged [a])
  { t with access := { t.access with wrote := [a] } }

/-- No group is PREPARED or SCHEDULED, so no write can fail one, and none has applied in this cycle. -/
def Settled (s : State) : Prop :=
  ∀ g ∈ groupNums, (s.group g).state ≠ .prepared ∧ (s.group g).state ≠ .scheduled ∧
    s.applying (s.group g) = false

/-- No record of a bridge unit's supervision is acknowledged while its condition is present. -/
def Unacked (s : State) : Prop := ∀ r ∈ s.gtRecords, 0x40 ≤ r.kind → r.kind ≤ 0x42 → r.acked = false

/-- No record is acknowledged, so none clears when its condition goes. -/
def NoAcks (s : State) : Prop := ∀ r ∈ s.gtRecords, r.acked = false

/-- Every site but `i` is as it was. -/
def OtherSites (s t : State) (i : Fin 64) : Prop := ∀ j, j ≠ i → t.site j = s.site j

/-- The command that makes a state request of a site from an interface. -/
def request (r : StateReq) (f : Iface) (i : Fin 64) : Instr :=
  match r with
  | .powerUp => .stateReqPowerUp f i
  | .powerDown => .stateReqPowerDown f i
  | .unpark => .stateReqUnpark f i
  | .park => .stateReqPark f i
  | .fence => .stateReqFence f i
  | .unfence => .stateReqUnfence f i

/-- The transition that a request begins. -/
def begun : StateReq → Transition
  | .powerUp => .powerUp
  | .powerDown => .powerDown
  | .unpark => .unpark
  | .park => .park
  | .fence => .fence
  | .unfence => .unfence

/-- The positions granted for a sequence of requests, from starvation counters on. -/
def grants (counts : Vector Nat 11) : List (List Bool) → List Nat
  | [] => []
  | r :: rs =>
    match starveWinner counts.toList r with
    | some w => w :: grants (starveGrant counts r w) rs
    | none => grants counts rs

/-- A raw request with header `h` has been answered: the reply of DSTAT `d` stands in the CSV-to-SPS mailbox and is counted. -/
def served (h : Word) (t : State) (d : Nat) (reply : List Word) : State :=
  let header := BitVec.ofNat 32 (at_ ((field h.toNat 31 24 + 0x80) % 256) 24 + at_ reply.length 16 + field h.toNat 15 0)
  { t with
    sps := { t.sps with fromCsv := t.sps.fromCsv ++ (header :: BitVec.ofNat 32 d :: reply) },
    csv := { t.csv with rawServed := t.csv.rawServed + 1,
                        rawGeneral := if d = 15 then satInc 0xFFFF t.csv.rawGeneral else t.csv.rawGeneral } }

/-- The vector due at a PSQ. -/
def dueVector (s : State) (i : Fin 64) : BitVec 64 := (s.psq i).vector (s.psq i).pc

/-- A legal vector with opcode `op` is due at the PSQ of a site, whose time zero is no boundary still to be judged. -/
structure Due (s : State) (i : Fin 64) (op : Nat) : Prop where
  run   : (s.psq i).state = .run
  here  : (s.psq i).resume = none
  legal : vLegal (dueVector s i) = true
  op    : vOp (dueVector s i) = op

/-- The state at the end of the vector that is due, before the boundary. -/
def ran (s : State) (i : Fin 64) (m : Strobe) (judged clr : Bool) : State := s.vecThen i (dueVector s i) m judged clr id

/-- Nothing takes the boundary of the vector away from its own choice: it makes no new edge collision, and no GOTO, STOP or
PARK waits for it. -/
structure Clean (s : State) (i : Fin 64) (m : Strobe) (judged clr : Bool) : Prop where
  edges : ∀ c, ((ran s i m judged clr).cell i c).collision = true → (s.cell i c).collision = true
  goto  : (s.psq i).goto = none
  stop  : (s.psq i).stopAt = none
  park  : (s.site i).ctl.trans ≠ some .park

/-- The vector due has executed and the PSQ goes on at `a`, at the end of the vector's period. -/
def GoesOn (s : State) (i : Fin 64) (t : State) (a : BitVec 15) : Prop :=
  let p := s.psq i
  let q := t.psq i
  q.state = .run ∧ q.pc = a ∧ q.prev = p.pc ∧ q.vectors = p.vectors + 1 ∧
    q.zero = addGrains p.zero (s.vecPeriod i (dueVector s i) p.zero : Nat)

/-- The vector due has executed and the PSQ has stopped at its boundary with a cause. -/
def Stopped (s : State) (i : Fin 64) (t : State) (cause : StopCause) : Prop :=
  let p := s.psq i
  let q := t.psq i
  q.state = .idle ∧ q.stopCause = cause ∧ q.pc = p.pc ∧ q.vectors = p.vectors + 1 ∧ q.lines = 0

/-- The vector due has executed, `u` is its end, and the sequential advance follows (R136): the next address, or at offset 4,095
the first vector of the chain successor when that was ACTIVE or ARMED at the decision point, or the end. -/
def Advanced (s : State) (i : Fin 64) (u t : State) : Prop :=
  let p := s.psq i
  (p.pc.toNat % 4096 ≠ 4095 → GoesOn s i t (p.pc + 1)) ∧
  (p.pc.toNat % 4096 = 4095 → (s.segNext i (segOf p.pc) = none → Stopped s i t .theEnd) ∧
    ∀ g, s.segNext i (segOf p.pc) = some g → u.segServes i g (u.psq i).zero = true → GoesOn s i t (vecAddr g 0))

/-- The commands of a site's vectors. -/
def vectorCommands (i : Fin 64) (b n a : BitVec 8) : List Instr :=
  [.adv i b n a, .jmp i b n a, .jmpIf i b n a, .psqCall i b n a, .psqRet i b n a, .loopBegin i b n a, .loopEnd i b n a,
   .waitEvent i b n a, .matchVec i b n a, .syncWait i b n a, .psqTrig i b n a, .psqHalt i b n a]

/-- The vector due has executed and ends in a fault of a kind, presented with the faulting address (R125, R383). -/
def Faulted (s : State) (i : Fin 64) (r : State) (kind : Nat) : Prop :=
  ∃ w : State, r = w.present (.ofSite i) kind (s.psq i).pc.toNat 0 ∧ Stopped s i w .fault

/-- A legal microword `w` with opcode `op` is due at the running MSE of a site. -/
structure MseDue (s : State) (i : Fin 64) (w : BitVec 24) (op : Nat) : Prop where
  run   : (s.mse i).state = .run
  free  : (s.mse i).waiting = none
  fetch : (s.mse i).fetch (s.mse i).upc = some w
  legal : uLegal w = true
  op    : uOp w = op

/-- `s` in the cycle in which its due microword executes, the results published by then standing. -/
def mseAt (s : State) (i : Fin 64) : State := (s.advance (s.mse i).dueAt).dspWake i

/-- The microword has left the MSE as `m`, the next one is at `a`, `n` cycles on; nothing else has changed. -/
def mseGoes (s : State) (i : Fin 64) (m : Mse) (a : BitVec 14) (n : Nat) : State :=
  let v := mseAt s i
  v.modMse i fun _ => { m with state := .run, waiting := none, upc := a, dueAt := v.cyclesOn n }

/-- The microword has left the MSE as `m`; the following one executes in the next cycle. -/
def mseNexts (s : State) (i : Fin 64) (m : Mse) : State := mseGoes s i m ((s.mse i).upc + 1) 1

/-- The MSE has stopped with a fault of its own, which is then presented as `r`. -/
def MseFaulted (s : State) (i : Fin 64) (r : State) (kind : Nat) : Prop :=
  ∃ w : State, r = (w.present (.ofSite i) kind (s.mse i).upc.toNat 0).engineIdle i ∧ (w.mse i).state = .idle ∧
    (w.mse i).result = .fault ∧ (w.mse i).faultUpc = (s.mse i).upc ∧ (w.mse i).staging = [] ∧ (w.mse i).window = false ∧
    w = { (mseAt s i) with sites := w.sites } ∧ OtherSites (mseAt s i) w i

/-- The following microword is next, one cycle on. -/
def MseOn (s : State) (i : Fin 64) (t : State) : Prop :=
  (t.mse i).state = .run ∧ (t.mse i).waiting = none ∧ (t.mse i).upc = (s.mse i).upc + 1 ∧
    (t.mse i).dueAt = (mseAt s i).cyclesOn 1 ∧ t.clock = (mseAt s i).clock

/-- Every site but `i` has its MSE, its PSQ and its bridge units as they were. -/
def OtherEngines (s t : State) (i : Fin 64) : Prop :=
  ∀ j, j ≠ i → t.mse j = s.mse j ∧ t.psq j = s.psq j ∧ (t.site j).bridges = (s.site j).bridges

/-- A transaction that the MSE of a site commits. -/
def mseTxn (es : List Entry) : Txn :=
  { ctx := { src := .mse, group := 0, timed := none }, entries := es, overlays := [] }

/-- The DSP issues its next bundle, or is within one: CK_DSP runs, it is in RUN and not frozen, and no interrupt is recognised. -/
structure DspRuns (s : State) (i : Fin 64) : Prop where
  clock : s.fastClocks = true
  run   : (s.dsp i).state = .run
  held  : (s.dsp i).outHeld = []
  calls : s.dspCalls i = none

/-- At its issue edge, slot `slot` of the bundle at PC of a running, unfrozen DSP is due, holds the word `w` with opcode `op`,
and the bundle is legal. -/
structure DspDue (s : State) (i : Fin 64) (slot : Fin 3) (w op : Nat) : Prop where
  runs  : DspRuns (s.dspIssue i) i
  due   : ((s.dspIssue i).dsp i).slotDue = slot.val
  legal : slot = 0 → ((s.dspIssue i).dsp i).legal = true
  word  : w = bSlot ((s.dspIssue i).dsp i).bundle slot.val
  op    : kOp w = op

/-- The slot has been executed with the effect `f` on the DSP; nothing else has changed. -/
def dspGoes (s : State) (i : Fin 64) (slot : Fin 3) (f : Dsp → Dsp) : State :=
  (s.dspIssue i).modDsp i fun d => (f d).slotDone slot

/-- `v` held to the range of `n`-bit signed numbers. -/
def held (n : Nat) (v : Int) : Int := max (-(2 ^ (n - 1))) (min (2 ^ (n - 1) - 1) v)

/-- An accumulator shifted right by `sh`, truncated, or rounded to nearest with ties away from zero. -/
def shifted (v : Int) (sh : Nat) (rnd : Bool) : Int :=
  if rnd = true ∧ sh ≠ 0 then v.sign * ((v.natAbs + 2 ^ (sh - 1)) / 2 ^ sh : Nat) else v / 2 ^ sh

/-- `d` with a register written through an address generator, as LD and LD2 do. -/
def loaded (d : Dsp) (n : Nat) (g : Fin 4) : Dsp := d.write n 3 (sparseGet d.dmem (d.ag g).p.toNat 0)

/-- `d` with a register stored through an address generator, as ST and ST2 do. -/
def stored (d : Dsp) (n : Nat) (g : Fin 4) : Dsp :=
  { d with stores := d.stores ++ [(d.count + 2, (d.ag g).p.toNat, d.x n)] }

/-- The data address of an address generator exists. -/
def addressed (d : Dsp) (g : Fin 4) : Prop := (d.ag g).p.toNat < 24576

/-- The DSP has stopped with a fault of a kind at `pc`, which is presented as `r`. -/
def DspFaulted (i : Fin 64) (r : State) (kind : Nat) (pc : BitVec 12) : Prop :=
  ∃ x : State, r = x.present (.ofSite i) kind pc.toNat 0 ∧ (x.dsp i).state = .fault ∧ (x.dsp i).stopCause = .fault ∧
    (x.dsp i).faultPc = pc ∧ (x.dsp i).flight = [] ∧ (x.dsp i).stores = []

/-- No interval or frequency channel of a site looks at stamps. -/
def NoChannels (s : State) (i : Fin 64) : Prop :=
  (∀ k : Fin 4, ((s.site i).tdc.ints[k.val]).state = .idle) ∧ ∀ f : Fin 2, ((s.site i).tdc.freqs[f.val]).armed = false

/-- The time that a capture of a cell gives at the pad, rounded to a grain. -/
def padGrain (s : State) (i : Fin 64) (c : Fin 8) (e : Capture) : Time := roundFine (s.padTime i c e)

/-- A code of a sensor that is neither open nor shorted and lies where its neighbours lead to expect it. -/
def Plausible (s : State) (i : Fin 64) (n : Fin 5) (k : BitVec 12) : Prop :=
  k ≠ 0 ∧ k ≠ 4095 ∧ s.suspicious i n k.toNat = false

/-- A condition stands in an unescalated record of its own. -/
def Standing (s : State) (o : Origin) (kind n : Nat) (r : GtRecord) : Prop := s.gtFind o kind = some n ∧ s.gtSlot n = some r

/-- The output stage of a unit `b` has computed its power into `c`, in 0.1 mW, from a current in µA and a force voltage in mV:
|I| × (15 V − |V|) is 100,000 nW a step (R165); an inexact value takes one of the two steps around it (log entry 1709). -/
def Power (b c : Bridge) (out force : BitVec 16) : Prop :=
  let nW := out.toInt.natAbs * (15000 - force.toInt.natAbs)
  (b.connected = true → c.iOut = out ∧ (c.pEst = nW / 100000 ∨ (nW % 100000 ≠ 0 ∧ c.pEst = nW / 100000 + 1))) ∧
  (b.connected = false → c.iOut = 0 ∧ c.pEst = 0)

/-- The load of a site as BUDGET_UPDATE computes it (R377), in 0.1 mW, with the power that the units of `t` hold. -/
def load (s t : State) (ppmu : List (BitVec 32)) (i : Fin 64) : Nat :=
  (t.bridge i 0).pEst + (t.bridge i 1).pEst +
    (allCells.map fun c => if (s.cell i c).connected then (ppmu.getD (8 * i.val + c.val) 0).toNat * 75 / 1000000 else 0).sum

/-- The sites that are up. -/
def upSites (s : State) : List (Fin 64) := allSites.filter fun i => s.siteState i != .off

/-- A link control block of a type with content. -/
def block (type content : Nat) : TxBlock := .ctl (BitVec.ofNat 64 (type * 2 ^ 56 + content % 2 ^ 56))

/-- The chip is where its own packets and faults are served. -/
def Served (s : State) : Prop := s.dictUp = true ∧ s.furlong.bypassed = false

/-- A packet arrives in order, sound and unstomped, and no ACK falls due with it. -/
structure Arrives (s : State) (p : Fin 2) (lseq : BitVec 16) (pk : Packet) (trailer : BitVec 64) : Prop where
  carries : (s.port p).carries = true
  stomp   : trailer.getLsbD 63 = false
  crc     : packetCrc pk.h0 pk.payload = trailer.setWidth 32
  length  : pk.payload.length = pk.length
  order   : lseq = (s.port p).rxSeq
  room    : (s.port p).rxUnacked + pk.words < 256
  whole   : pk.stomp = false

/-- A reply of `ws` to the request of a packet, which is remembered (R320). -/
def answers (x : State) (p : InPacket) (offset : Option (BitVec 32)) (ws : List (BitVec 64)) : State :=
  x.replied (BitVec.ofNat 16 p.packet.src) (dictReq (p.word 0)).tag offset ws

/-- The frame is good: it ends whole, and in checked mode its COUNT, its CRC over the host's bytes and its ALIVE are right (R354). -/
def Good (s : State) (e : FrameEnd) (count0 : Bool) (bs : List Byte) (t : FrameTrailer) : Prop :=
  e = .whole ∧ (s.spsChecked = true → count0 = false ∧ t.crc = trailerCrc bs t.alive ∧
    (s.sps.anyAlive = true ∨ t.alive = s.sps.lastAlive + 1))

/-- What the device drives in a frame: the status byte, the words in wire order, and in checked mode its trailer (R348, R354). -/
def drives (checked : Bool) (s : State) (ws : List Word) (t : FrameTrailer) : List Byte :=
  let bs := s.statusByte :: ws.flatMap wireWord
  if checked then bs ++ (bytesLE (t.alive.toNat * 2 ^ 12 + (trailerCrc bs t.alive).toNat) 2).reverse else bs

/-- A good read frame has been answered with words and a DSTAT; `v` is the state after the accesses that it makes. -/
def ReadDone (s v t : State) (ws : List Word) (d : Nat) (tr : FrameTrailer) : Prop :=
  t.sps.out = drives v.spsChecked (s.frameGood tr) ws tr ∧ t.sps.dstat = d ∧ t.sps.frameBad = false ∧ t.dict = v.dict ∧
    t.sites = v.sites ∧ t.clock = v.clock ∧
    (s.spsChecked = true → t.sps.lastAlive = tr.alive ∧ t.sps.anyAlive = false)

/-- What a tick of Mitten finds at its sources: the captured cells and the samples by SRC (R419, R420). -/
def sampled (s : State) (a : List (BitVec 16)) (o : List (BitVec 2)) : Nat → Option Int :=
  State.mitSample (State.capturedCells { s with mitten := { s.mitten with ticks := s.mitten.ticks + 1 } } ⟨a, o⟩) ⟨a, o⟩

/-- Rule `k` acts alone: the other rules are OFF. -/
def OnlyRule (s : State) (k : Fin 16) : Prop := ∀ j : Fin 16, j ≠ k → field (s.cfg 0x2703 (j.val + 1)) 8 7 = 0

/-- The outcome of boundary scan is that of the TAP alone. -/
def TapOnly (s : State) (r : Host.Outcome State Fault Refusal) (p : Tap → Prop) : Prop := ∃ x, r = .next { s with tap := x } ∧ p x

/-- What boundary scan never does (R457): the boundary register holds or drives a ball only in compliance. And the dictionary
keeps its canonical form. -/
def Inv (s : State) : Prop :=
  (s.tap.drive ≠ .released → s.rst.testEn = false ∧ s.rst.resetN = false) ∧ sparseWf initial s.dict = true

end Sys2Proof.Claims

open Sys2Proof Sys2Proof.Machine

/-- For every command c and state s, one step of s with c at the front of its queue is exec of c on s with the queue's rest.
With no command waiting a step lets one CK_SEQ cycle pass: 2,560 grains, or in ACQUIRE one REFCLK period of 5,120; when no
epoch wrap falls in it and no code-density run is to start nothing else changes. That the idle step is one CK_SEQ cycle is the
model's choice (log entry 2). -/
def Obligations.StepRunsFrontCommand : Prop :=
  (∀ (c : Instr) (s : State), step { s with pending := c :: s.pending } = exec c s) ∧
  ∀ s : State, s.pending = [] →
    let n := if s.pll.state = .acquire then 5120 else 2560
    step s = .next s.tick ∧ s.tick.clock = s.clock + BitVec.ofNat 68 n ∧
    (grains s.clock + n < 2 ^ 52 → s.special.start = none → s.tick = { s with clock := s.clock + BitVec.ofNat 68 n })

/-- State.reset holds what the object maps give after reset: part, die step and dictionary version; every SITE_ENABLE bit 1; every
site PARKED with cause RESET and no request result; every PSQ, MSE and DSP stopped; the PLL locked in FULL; every group FREE;
no queue, no record; and the invariant that every step keeps (StepKeepsInvariant) holds. (That the time base reads 0 there,
with no user image, straps 0 and an empty log, is the model's choice: log entries 3, 4, 5.) Where it rests on a choice or an
inference of the model: log entries 3, 4, 6, 7, 11. -/
def Obligations.ResetState : Prop :=
  State.reset.pending = [] ∧ State.reset.cfg 0x2000 1 = 0x5164 ∧ State.reset.cfg 0x2000 2 = 2 ∧ State.reset.cfg 0x2000 3 = 0x100 ∧
  State.reset.cfg 0x2002 1 = 2 ^ 64 - 1 ∧
  (∀ i : Fin 64, State.reset.siteState i = .parked ∧ (State.reset.site i).ctl.cause = .reset ∧
    (State.reset.site i).ctl.reqResult = .none ∧ (State.reset.psq i).state = .idle ∧ (State.reset.mse i).state = .idle ∧
    (State.reset.dsp i).state = .stopped ∧ State.reset.throttleStep i = 0) ∧
  State.reset.pll.state = .locked ∧ State.reset.pll.economy = false ∧
  (∀ g ∈ groupNums, (State.reset.group g).state = .free) ∧ State.reset.gauntlet = Gauntlet.reset ∧ State.reset.dictUp = true ∧
  Claims.Inv State.reset

/-- Every command of the host that writes a numbered subindex (its address and value are those of Claims.writeOf), when the
write is accepted and its interface owns no open group, answers a next state: in the CK_SEQ cycle that the access unit gives it
(one access in each) the Commit Unit has applied the value as a single-write transaction, with its log entry, its effect and the
failing of groups that depend on it, and the interface is answered OK. -/
def Obligations.WriteCommandApplies : Prop :=
  ∀ (c : Instr) (f : Iface) (a v w : Nat) (s : State), Claims.writeOf c = some (f, a, v) → s.dictUp = true →
    Claims.Accepts (s.served 1) f a (words32 v (wordsAt a)) w →
    exec c s = .next ((Claims.applied (s.served 1) f a w).answered f 0 [])

/-- In the cycle that its access takes, a write command whose value fails acceptance (READ_ONLY, NO_SUB, LENGTH, RANGE) leaves the
whole state but for its answer, which names the refusal; one that fails a check leaves it too, but for REQ_RESULT of a refused
STATE_REQ, which reads REFUSED_PREPARE unless a transition is in progress; and with the dictionary unavailable every write is
answered STATE. -/
def Obligations.RefusedWriteChangesNothing : Prop :=
  ∀ (c : Instr) (f : Iface) (a v : Nat) (s : State), Claims.writeOf c = some (f, a, v) →
    (s.dictUp = false → exec c s = .next (s.answered f 8 [])) ∧
    let u := s.served 1
    (∀ d, s.dictUp = true → u.accept a (words32 v (wordsAt a)) = .refused d → exec c s = .next (u.answered f d [])) ∧
    (∀ w d x, s.dictUp = true → isCommand (a, w) = false → u.accept a (words32 v (wordsAt a)) = .ok w →
      u.groupCheck f (a, w) = 0 → u.openGroup f = none → u.outranked a = false → u.checkFail .single [(a, w)] [] = some (d, x) →
      let t := u.refusedAt .single [(a, w)]
      exec c s = .next (t.answered f d []) ∧ t = { u with sites := t.sites } ∧
        (∀ i, a ≠ siteAddr i 0 1 ∨ stateReqOf w = none ∨ (u.site i).ctl.trans.isSome = true → t.site i = u.site i) ∧
        ∀ i, (t.site i).ctl = { (u.site i).ctl with reqResult := (t.site i).ctl.reqResult })

/-- Where a T subindex can be read, its read gives the applied value; and whatever writes and overlays a group has staged, every
read of an object outside the Commit Unit's own status gives what it gives without them. -/
def Obligations.ReadsShowAppliedValues : Prop :=
  ∀ (s : State) (a : Nat),
    (∀ v, isAddrT a = true → s.readValue a = .ok v → v = s.val a) ∧
    (∀ r k, rowAt a = some (r, k) → r.isT = true → r.acc = .rw → r.ty.isDomain = false → s.dictUp = true →
      s.darkAddr a = false → s.readValue a = .ok (s.val a)) ∧
    (∀ (g : Nat) (es : List Entry) (os : List OverlayApp), indexOf a / 256 ≠ 0x23 →
      let t := s.modGroup g fun r => { r with entries := es, overlays := os }
      t.readValue a = s.readValue a ∧ ∀ off n, t.domainBytes a off n = s.domainBytes a off n)

/-- A write command to a T subindex, from an interface that owns the open group g, is put into the group's staged writes and
answered OK in the cycle that its access takes; nothing else changes, so the applied value of every subindex is what it was. -/
def Obligations.OwnedGroupStages : Prop :=
  ∀ (c : Instr) (f : Iface) (a v w g : Nat) (s : State), Claims.writeOf c = some (f, a, v) → s.dictUp = true → let u := s.served 1
    isCommand (a, w) = false → u.accept a (words32 v (wordsAt a)) = .ok w → u.groupCheck f (a, w) = 0 → isAddrT a = true →
    u.openGroup f = some g → (u.group g).entries.length < 4096 →
    ∃ t : State, exec c s = .next (t.answered f 0 []) ∧ (a, w) ∈ (t.group g).entries ∧
      (∀ b, t.val b = u.val b) ∧ t = { u with commit := t.commit } ∧ ∀ h, h ≠ g → h ∈ groupNums → t.group h = u.group h

/-- A run takes one CK_SEQ cycle for each subindex. One in which a subindex is refused writes nothing; a run that passes, from an
interface without an open group and with no command in it, is one transaction in which every subindex takes effect together.
REGISTER_WRITE of one subindex applies it as a single write does, and the interface is answered OK. Where it rests on a choice
or an inference of the model: log entries 1307. -/
def Obligations.RunIsWhole : Prop :=
  (∀ (s : State) (f : Iface) (pre post : List (Nat × List Word)) (a : Nat) (ws : List Word) (d : Dstat),
    let u := s.served (pre.length + 1 + post.length)
    s.dictUp = true → (∀ p ∈ pre, ∃ v, u.accept p.1 p.2 = .ok v) → u.accept a ws = .refused d →
    s.writeWords f (pre ++ (a, ws) :: post) = (u, d)) ∧
  (∀ (s : State) (f : Iface) (ws : List (Nat × List Word)) (es : List Entry),
    let u := s.served ws.length
    s.dictUp = true → u.acceptAll ws = .ok es → es ≠ [] →
    (∀ e ∈ es, isCommand e = false ∧ u.groupCheck f e = 0 ∧ u.outranked e.1 = false) →
    u.openGroup f = none → u.checkFail .single es [] = none → xipFail u.spm.queue.length es = none →
    let t := u.applyTxns [{ ctx := { src := .iface f, group := 0, timed := none }, entries := es, overlays := [] }]
    s.writeWords f ws = ({ t with access := { t.access with wrote := es.map (·.1) } }, 0)) ∧
  (∀ (s : State) (f : Iface) (index : BitVec 16) (sub : BitVec 8) (ws : List Word) (w : Nat),
    let a := addrOf index.toNat sub.toNat
    s.dictUp = true → Claims.Accepts (s.served 1) f a ws w →
    exec (.registerWrite f index sub ws) s = .next ((Claims.applied (s.served 1) f a w).answered f 0 []))

/-- The value that a write leaves holds, in every field of the subindex's row, what was written there, and 0 in every bit that no
field names; a field with an encoding that its row does not list refuses the whole write with RANGE. -/
def Obligations.ReservedBitsAndCodes : Prop :=
  (∀ (s : State) (a : Nat) (ws : List Word) (w : Nat), s.accept a ws = .ok w →
    ∃ r n, rowAt a = some (r, n) ∧ w = r.defined (natWords ws) ∧ r.inRange w = true) ∧
  (∀ (a : Nat) (r : SubRow) (n v : Nat), rowAt a = some (r, n) → ∀ k,
    (r.defined v).testBit k = (v.testBit k && r.fields.any fun f => decide (f.lo ≤ k) && decide (k ≤ f.hi))) ∧
  (∀ (s : State) (a : Nat) (r : SubRow) (n : Nat) (ws : List Word), rowAt a = some (r, n) → (r.acc = .rw ∨ r.acc = .wo) →
    r.ty.isDomain = false → ws.length = r.ty.words → natWords ws < 2 ^ (8 * r.ty.byteLen) →
    r.inRange (r.defined (natWords ws)) = false → s.accept a ws = .refused 6)

/-- Every command that writes a DOMAIN object (Claims.domainOf) answers a next state: after the CK_SEQ cycles that its accesses of
16 bytes take, when its checks find nothing, the image lands whole and the interface is answered OK; otherwise nothing changes
but the answer, which names the refusal. With the dictionary unavailable it is answered STATE. Where it rests on a choice or
an inference of the model: log entries 1307. -/
def Obligations.DomainWriteWhole : Prop :=
  ∀ (c : Instr) (f : Iface) (a : Nat) (bs : List Byte) (s : State), Claims.domainOf c = some (f, a, bs) →
    let u := s.served (max 1 ((bs.length + 15) / 16))
    (s.dictUp = true → u.domainCheck a bs = 0 → exec c s = .next ((u.domainLand a bs).answered f 0 [])) ∧
    (s.dictUp = true → u.domainCheck a bs ≠ 0 → exec c s = .next (u.answered f (u.domainCheck a bs) [])) ∧
    (s.dictUp = false → exec c s = .next (s.answered f 8 []))

/-- A STATE_REQ from an interface that owns no open group, in the cycle that its access takes: where the site stands in a state
from which Table 1.9 names the transition, with none in progress and the request's own conditions met (the MASK bit for
POWER_UP, the PLL in FULL and locked for UNPARK and FENCE, no hold), the transition is in progress: STATE keeps, REQ_RESULT
reads IN_PROGRESS, the interface is answered OK, and no other site changes, where no supervision record waits for its end to
clear. Anywhere else it is refused with STATE, REQ_RESULT reads REFUSED_PREPARE unless a transition is in progress, and
nothing else changes. In the cycle in which a force takes the site into SAFE, requests but POWER_DOWN and FENCE are overridden
(R21): REQ_RESULT reads OVERRIDDEN_SAFE. Where it rests on a choice or an inference of the model: log entries 9, 604. -/
def Obligations.SiteRequestBegins : Prop :=
  ∀ (f : Iface) (i : Fin 64) (r : StateReq) (s : State), s.dictUp = true → let u := s.served 1
    u.openGroup f = none → u.outranked (siteAddr i 0 1) = false →
    let view := u.viewOf [(siteAddr i 0 1, r.code)]
    let c := (u.site i).ctl
    (u.reqAllowed view i r = true → u.reqOverridden i r = false → Claims.Settled u → Claims.Unacked u →
      (u.psq i).state ≠ .underrun →
      ∃ t, exec (Claims.request r f i) s = .next t ∧ t.answer = some { iface := f, dstat := 0, words := [] } ∧
        (t.site i).ctl = { c with trans := some (Claims.begun r), reqResult := .inProgress } ∧ Claims.OtherSites u t i) ∧
    (u.reqAllowed view i r = false → u.reqOverridden i r = false →
      exec (Claims.request r f i) s = .next ((u.reqTurned i .refusedPrepare).answered f 8 [])) ∧
    (u.reqTurned i .refusedPrepare = if c.trans.isSome then u else u.reqResult i .refusedPrepare) ∧
    (u.reqOverridden i r = true → Claims.Settled u → ∃ t, exec (Claims.request r f i) s = .next t ∧
      (t.site i).ctl = { c with reqResult := .overriddenSafe } ∧ Claims.OtherSites u t i) ∧
    (u.reqOverridden i r = true ↔ u.safeNow i = true ∧ r ≠ .powerDown ∧ r ≠ .fence) ∧
    (u.reqAllowed view i .powerUp = true ↔ c.trans = none ∧ c.state = .off ∧ bitOf (view (addrOf 0x2002 1)) i.val = true ∧
      u.selfTestFailed = false ∧ u.thermal.regions[(regionOf i).val].held = false) ∧
    (u.reqAllowed view i .powerDown = true ↔ c.trans = none ∧ (c.state = .parked ∨ c.state = .safe ∨ c.state = .fenced)) ∧
    (u.reqAllowed view i .unpark = true ↔ c.trans = none ∧ c.state = .parked ∧ u.pllReady = true ∧ u.rst.outputsHeld = false) ∧
    (u.reqAllowed view i .park = true ↔ c.trans = none ∧ (c.state = .ready ∨ c.state = .running)) ∧
    (u.reqAllowed view i .fence = true ↔ c.trans = none ∧ (c.state = .parked ∨ c.state = .ready ∨ c.state = .safe) ∧
      u.pllReady = true) ∧
    (u.reqAllowed view i .unfence = true ↔ c.trans = none ∧ c.state = .fenced)

/-- Each completion event, while its transition is in progress: the site takes the new state with cause REQUEST, REQ_RESULT reads
APPLIED and no transition is in progress; POWER_UP and POWER_DOWN leave the site's memories empty; POWER_UP and UNFENCE end in
SAFE when a force has waited for them; PARK and FENCE complete once PSQ and MSE have stopped, a vector boundary that is still
to come has come, and no connected unit changes its range: at the end of the last slew they open the bridge units, whose
supervision then ends. Without its transition the event changes nothing. Where it rests on a choice or an inference of the
model: log entries 9, 1701, 1707. -/
def Obligations.SiteTransitionCompletes : Prop :=
  ∀ (i : Fin 64) (s : State),
    (s.inTrans i .powerUp = true → ∃ t, exec (.powerUpComplete i) s = .next t ∧ (t.site i).ctl.trans = none ∧
      (t.site i).ctl.reqResult = .applied ∧ (t.site i).psq.segs = Psq.reset.segs ∧ (t.site i).mse.store = [] ∧
      (t.site i).dsp.pmem = [] ∧ (t.site i).dsp.dmem = [] ∧
      (s.thermalHeld i = false → (s.site i).ctl.forces = [] → t.siteState i = .parked ∧ (t.site i).ctl.cause = .request) ∧
      (s.thermalHeld i = true ∨ (s.site i).ctl.forces ≠ [] → t.siteState i = .safe ∧ (t.site i).ctl.safeFrom = .parked)) ∧
    (s.inTrans i .powerDown = true → ∃ t, exec (.powerDownComplete i) s = .next t ∧ t.siteState i = .off ∧
      (t.site i).ctl.trans = none ∧ (t.site i).ctl.reqResult = .applied ∧ (t.site i).ctl.cause = .request ∧
      (t.site i).psq = Psq.reset ∧ (t.site i).mse = Mse.reset ∧ (t.site i).dsp = Dsp.reset ∧ (t.site i).tdc = Tdc.reset ∧
      t.dsp i = Dsp.reset ∧ ((∀ j ∈ sitesOf (regionOf i), j ≠ i → s.siteState j = .off) → (t.region (regionOf i)).patMem = [])) ∧
    (s.inTrans i .unpark = true → ∃ t, exec (.unparkComplete i) s = .next t ∧ t.siteState i = .ready ∧
      (t.site i).ctl.trans = none ∧ (t.site i).ctl.reqResult = .applied ∧ (t.site i).ctl.cause = .request ∧
      (t.site i).ctl.prev = s.siteState i ∧ (t.siteCal i).firstDone = true) ∧
    (s.inTrans i .park = true → let v := s.psqReach i; v.inTrans i .park = true → v.enginesStopped i = true →
      v.rangesDone i = true → let w := v.advance (v.slewsEnd i)
      ∃ t, exec (.parkComplete i) s = .next t.superviseEnd ∧
      t.siteState i = .parked ∧ (t.site i).ctl.trans = none ∧ (t.site i).ctl.reqResult = .applied ∧
      (t.site i).ctl.prev = v.siteState i ∧ (∀ u : Fin 2, (t.bridge i u).connected = false) ∧ t.clock = w.clock ∧
      Claims.OtherSites w t i) ∧
    ((s.psq i).resume = none → s.psqReach i = s) ∧
    (s.inTrans i .fence = true → s.enginesStopped i = true → s.rangesDone i = true → let w := s.advance (s.slewsEnd i)
      ∃ t, exec (.fenceComplete i) s = .next t.superviseEnd ∧ t.siteState i = .fenced ∧
      (t.site i).ctl.trans = none ∧ (t.site i).ctl.reqResult = .applied ∧ (t.site i).ctl.forces = [] ∧
      (∀ u : Fin 2, (t.bridge i u).connected = false) ∧ t.clock = w.clock ∧ Claims.OtherSites w t i) ∧
    (s.inTrans i .fence = true → s.enginesStopped i = false ∨ s.rangesDone i = false → exec (.fenceComplete i) s = .next s) ∧
    (∀ x : State, (x.enginesStopped i = true ↔ (x.psq i).state = .idle ∧ (x.mse i).state.busy = false) ∧
      (x.rangesDone i = true ↔ ∀ u : Fin 2, (x.bridge i u).connected = true → (x.bridge i u).range = none)) ∧
    (s.inTrans i .unfence = true → ∃ t, exec (.unfenceComplete i) s = .next t ∧ (t.site i).ctl.trans = none ∧
      (s.thermalHeld i = false → (s.site i).ctl.forces = [] →
        t.siteState i = .parked ∧ (t.site i).ctl.reqResult = .applied ∧ Claims.OtherSites s t i) ∧
      (s.thermalHeld i = true ∨ (s.site i).ctl.forces ≠ [] → t.siteState i = .safe)) ∧
    ((s.site i).ctl.trans = none → ∀ c ∈ [Instr.powerUpComplete i, .powerDownComplete i, .unparkComplete i, .parkComplete i,
      .fenceComplete i, .unfenceComplete i], exec c s = .next s)

/-- A safe-state force that reaches a site: PARKED, READY, RUNNING or CAL, with no transition or with UNPARK or PARK in progress,
becomes SAFE with its PSQ stopped, its DSP executing as before, and remembers whether it came from PARKED; an UNPARK or PARK
is abandoned with OVERRIDDEN_SAFE. A site that is OFF or FENCED, or is leaving by POWER_DOWN or FENCE, keeps its state and its
transition. A SAFE site that nothing holds is released to PARKED if it entered from PARKED, to READY otherwise. Where it rests
on a choice or an inference of the model: log entries 10, 1801, 1802. -/
def Obligations.SafeEntryAndRelease : Prop :=
  ∀ (i : Fin 64) (sc : Scope) (cause : SiteCause) (s : State),
    let c := (s.site i).ctl
    let t := s.forceSite sc cause i
    ((c.state = .parked ∨ c.state = .ready ∨ c.state = .running ∨ c.state = .cal) →
      (c.trans = none ∨ c.trans = some .unpark ∨ c.trans = some .park) →
      t.siteState i = .safe ∧ (t.site i).ctl.cause = cause ∧ (t.site i).ctl.prev = c.state ∧ (t.site i).ctl.trans = none ∧
      (t.site i).ctl.safeFrom = (if c.state = .parked then .parked else .ready) ∧ (t.psq i).state = .idle ∧
      (t.site i).dsp.state = (s.site i).dsp.state ∧ sc ∈ (t.site i).ctl.forces ∧
      (c.trans ≠ none → (t.site i).ctl.reqResult = .overriddenSafe)) ∧
    (c.state = .off ∨ c.state = .fenced ∨ c.trans = some .powerDown ∨ c.trans = some .fence →
      t.siteState i = s.siteState i ∧ (t.site i).ctl.trans = c.trans) ∧
    (c.state = .safe → c.trans = none → c.forces = [] →
      (s.siteRelease i cause).siteState i = (if c.safeFrom = .parked then .parked else .ready) ∧
      ((s.siteRelease i cause).site i).ctl.prev = .safe) ∧
    (c.state ≠ .safe ∨ c.trans ≠ none ∨ c.forces ≠ [] → s.siteRelease i cause = s)

/-- The grant goes to the starving requester of the lowest position, and with none starving to the lowest requester; there is a
grant whenever something is requested. After it the granted counter and those of all that do not request are 0, and those of
the others have risen by one.
Where it rests on a choice or an inference of the model: log entries 1202. -/
def Obligations.StarvationGrant : Prop :=
  ∀ (counts : Vector Nat 11) (reqs : List Bool), reqs.length = 11 →
    (reqs.any id = true → ∃ w, starveWinner counts.toList reqs = some w) ∧
    ∀ w, starveWinner counts.toList reqs = some w → w < 11 ∧ reqs.getD w false = true ∧
      ((∃ p : Fin 11, reqs.getD p.val false = true ∧ 16 ≤ counts[p.val]) →
        (∃ h : w < 11, 16 ≤ counts[w]) ∧ ∀ p : Fin 11, p.val < w → ¬ (reqs.getD p.val false = true ∧ 16 ≤ counts[p.val])) ∧
      ((∀ p : Fin 11, reqs.getD p.val false = true → counts[p.val] < 16) → ∀ p < w, reqs.getD p false = false) ∧
      ∀ p : Fin 11, (starveGrant counts reqs w)[p.val] =
        if p.val = w then 0 else if reqs.getD p.val false = true then counts[p.val] + 1 else 0

/-- However the other requesters come and go, and whatever their counters hold, a requester at position p that begins to wait with
its counter at 0 and requests at every grant is one of the next 17 + p grants. -/
def Obligations.StarvationBound : Prop :=
  ∀ (p : Fin 11) (counts : Vector Nat 11) (rs : List (List Bool)), counts[p.val] = 0 → rs.length = 17 + p.val →
    (∀ r ∈ rs, r.length = 11 ∧ r.getD p.val false = true) → p.val ∈ Claims.grants counts rs

/-- A whole raw request at the head of the SPS-to-CSV mailbox, with no reply waiting and room for its reply, is taken and answered
with SERVICE + 0x80, its TAG, a status word and the reply words: ECHO returns its arguments, VERSION the two firmware
versions, DICT_READ the words of the subindices it names, each read in a CK_SEQ cycle of its own, or the first refusal,
DICT_WRITE the outcome of the run, written by the CSV as an interface of its own; any other service is answered GENERAL and
counted. Nothing but the mailboxes, the counts, the time of the accesses and what a DICT_WRITE writes changes. A reply that
waits is placed when there is room. Where it rests on a choice or an inference of the model: log entries 102. -/
def Obligations.RawServices : Prop :=
  (∀ (s : State) (h : Word) (args rest : List Word), s.dictUp = true → s.csv.waiting = none →
    s.sps.toCsv = h :: (args ++ rest) → field h.toNat 23 16 = args.length → s.sps.fromCsv.length ≤ 64 →
    let taken := s.modSps fun m => { m with toCsv := rest }
    let served := Claims.served h
    (field h.toNat 31 24 = 0x01 → args.length ≤ 62 → exec .echo s = .next (served taken 0 args)) ∧
    (field h.toNat 31 24 = 0x02 → args = [] →
      exec .version s = .next (served taken 0 [BitVec.ofNat 32 (s.cfg 0x2003 1), BitVec.ofNat 32 (s.cfg 0x2003 2)])) ∧
    (field h.toNat 31 24 = 0x10 → ∀ (a : Word) (v : Nat), args = [a, 1] → a.toNat < 2 ^ 24 → wordsAt a.toNat ≤ 62 →
      (taken.served 1).readValue a.toNat = .ok v →
      exec .dictRead s = .next (served (taken.served 1) 0 (words32 v (wordsAt a.toNat)))) ∧
    (field h.toNat 31 24 = 0x10 → ∀ (a : Word) (d : Dstat), args = [a, 1] → a.toNat < 2 ^ 24 → d ≠ 0 →
      (taken.served 1).readValue a.toNat = .refused d → exec .dictRead s = .next (served (taken.served 1) d [])) ∧
    (field h.toNat 31 24 = 0x10 → ∀ a n : Word, args = [a, n] → a.toNat < 2 ^ 24 → 1 ≤ n.toNat → n.toNat ≤ 255 →
      let r := taken.rawRead (indexOf a.toNat) n.toNat (subOf a.toNat)
      r.2.2.length ≤ 62 → exec .dictRead s = .next (served r.1 r.2.1 r.2.2)) ∧
    (field h.toNat 31 24 = 0x11 → ∀ (a : Word) (ws : List Word) (t : State), args = a :: ws → a.toNat < 2 ^ 24 →
      taken.writeRun .csv a.toNat ws = (t, 0) → t.sps.fromCsv.length ≤ 64 → exec .dictWrite s = .next (served t 0 [])) ∧
    (field h.toNat 31 24 ∉ [0x01, 0x02, 0x10, 0x11] → exec .rawUnknownService s = .next (served taken 15 []))) ∧
  (∀ (s : State) (reply : List Word), s.csv.waiting = some reply → s.sps.fromCsv.length + reply.length ≤ 128 →
    exec .csvReplyRoom s = .next { s with
      csv := { s.csv with waiting := none }, sps := { s.sps with fromCsv := s.sps.fromCsv ++ reply } })

/-- While the core runs: a QC that misses four heartbeats is marked and the CSV services its watchdog no more, and nothing else
changes; an expiry causes the WATCHDOG reset, which RG_RESET reports as its cause and counts. -/
def Obligations.WatchdogResets : Prop :=
  ∀ (s : State), s.coreUp = true →
    (∀ q : Fin 4, ∃ t, exec (.qcHeartbeatMiss q) s = .next t ∧ t = { s with csv := t.csv } ∧ t.csv.servicing = false ∧
      t.csv.qcStopped[q.val] = true ∧ ∀ r : Fin 4, r ≠ q → t.csv.qcStopped[r.val] = s.csv.qcStopped[r.val]) ∧
    (∃ t, exec .watchdogExpiry s = .next t ∧ t.rst.phase = .inReset ∧ t.rst.cause = 5 ∧
      t.rst.watchdogs = satInc 0xFFFF s.rst.watchdogs ∧ t.rst.resets = satInc 0xFFFF s.rst.resets ∧ t.pending = s.pending ∧
      ∀ i : Fin 64, t.siteState i = .off)

/-- TXN_OPEN of an available group, from an interface that owns no other group in OPEN, makes the group OPEN with that interface
as owner, no entry, no FAIL_PHASE, no FAIL_DSTAT and no flag; it is refused with NOT_OWNER where another owner holds the group,
with STATE where the owner already holds it or owns another group in OPEN, and then nothing changes but the answer. No other
group and nothing outside the Commit Unit changes, in the CK_SEQ cycle that the access takes. A command of the owner of a held
group, refused or not, restarts its timeout, which is what `heardFrom` changes. -/
def Obligations.TxnOpen : Prop :=
  ∀ (f : Iface) (g : Fin 15) (s : State), s.dictUp = true →
    let n := g.val + 1
    let u := (s.served 1).heardFrom f n
    let r := u.group n
    let held := (u.groupState r).held
    (held = false → u.openGroup f = none → ∃ t : State,
      exec (.txnOpen f g) s = .next (t.answered f 0 []) ∧ (t.group n).state = .opened ∧ (t.group n).owner = some f ∧
      (t.group n).entries = [] ∧ (t.group n).overlays = [] ∧ (t.group n).failPhase = .none ∧ (t.group n).failDstat = 0 ∧
      (t.group n).abortLate = false ∧ (t.group n).lateApplied = false ∧ (t.group n).stepped = false ∧
      (t.group n).overridden = false ∧ (t.group n).split = false ∧ (t.group n).heard = u.clock ∧
      t = { u with commit := t.commit } ∧ t.commit = { u.commit with groups := t.commit.groups } ∧
      ∀ m ∈ groupNums, m ≠ n → t.group m = u.group m) ∧
    (held = true → r.owner ≠ some f → exec (.txnOpen f g) s = .next (u.answered f 9 [])) ∧
    (held = true → r.owner = some f → exec (.txnOpen f g) s = .next (u.answered f 8 [])) ∧
    (held = false → u.openGroup f ≠ none → exec (.txnOpen f g) s = .next (u.answered f 8 []))

/-- PREPARE of an OPEN group makes it PREPARING, and a coordinator's also sets D and broadcasts PREPARE. COMMIT of a PREPARED
group with ASAP schedules it for the second CK_SEQ cycle after the present one; with T at least 5,120 grains ahead for T; with
a later T it is refused with STATE, unless APPLY_LATE schedules it as with ASAP and sets LATE_APPLIED. ABORT makes a held
group ABORTED with nothing staged, but during PREPARING it waits for the checks to end; in the apply cycle and of a COMMITTED
group it sets ABORT_LATE; of one that is FREE, FAILED or ABORTED it changes nothing. From another interface each is refused
with NOT_OWNER, and a participant's owner can neither prepare nor commit. Each acts in the CK_SEQ cycle that its access takes.
Where it rests on a choice or an inference of the model: log entries 1301, 1302, 1303. -/
def Obligations.GroupCommands : Prop :=
  ∀ (f : Iface) (g : Fin 15) (asap late : Bool) (s : State), s.dictUp = true →
    let n := g.val + 1
    let u := (s.served 1).heardFrom f n
    let r := u.group n
    let same (t : State) : Prop := t = { u with commit := t.commit, furlong := t.furlong }
    (r.state = .opened → r.owner = some f → u.role n ≠ 1 → ∃ t : State,
      exec (.txnPrepare f g) s = .next (t.answered f 0 []) ∧ (t.group n).state = .preparing ∧
      (t.group n).entries = r.entries ∧ same t ∧ (u.role n = 0 → t.furlong = u.furlong) ∧
      (u.role n = 2 → (t.group n).deadline = some (addGrains u.clock (u.xDeadline n)) ∧ (t.group n).votesYes = 0)) ∧
    (r.state = .prepared → r.owner = some f → u.role n = 0 → ∀ (at_ : Time), at_ = resolve52 u.clock r.t.toNat →
      (asap = true → ∃ t : State, exec (.txnCommit f g asap late) s = .next (t.answered f 0 []) ∧
        (t.group n).state = .scheduled ∧ t.dueCycle (t.group n) = some (u.cyclesOn 2) ∧
        (t.group n).lateApplied = false ∧ same t) ∧
      (asap = false → 5120 ≤ span u.clock at_ → ∃ t : State, exec (.txnCommit f g asap late) s = .next (t.answered f 0 []) ∧
        (t.group n).state = .scheduled ∧ (t.group n).due = some (.at at_) ∧ (t.group n).lateApplied = false ∧ same t) ∧
      (asap = false → span u.clock at_ < 5120 → late = true → ∃ t : State,
        exec (.txnCommit f g asap late) s = .next (t.answered f 0 []) ∧ (t.group n).state = .scheduled ∧
        t.dueCycle (t.group n) = some (u.cyclesOn 2) ∧ (t.group n).lateApplied = true ∧ same t) ∧
      (asap = false → span u.clock at_ < 5120 → late = false →
        exec (.txnCommit f g asap late) s = .next (u.answered f 8 []))) ∧
    (r.state = .preparing → r.owner = some f → u.role n = 0 → ∃ t : State,
      exec (.txnAbort f g) s = .next (t.answered f 0 []) ∧ (t.group n).state = .preparing ∧
      (t.group n).abortWaits = some .none ∧ same t) ∧
    ((r.state = .opened ∨ r.state = .prepared ∨ r.state = .scheduled) → u.groupDue r = false → r.owner = some f → u.role n = 0 → ∃ t : State,
      exec (.txnAbort f g) s = .next (t.answered f 0 []) ∧ (t.group n).state = .aborted ∧ (t.group n).entries = [] ∧
      (t.group n).reserved = 0 ∧ (Claims.NoAcks u → t.dict = u.dict)) ∧
    (r.state = .committed ∨ r.state = .scheduled ∧ u.groupDue r = true → r.owner = some f → u.role n = 0 → ∃ t : State,
      exec (.txnAbort f g) s = .next (t.answered f 0 []) ∧ (t.group n).state = r.state ∧ (t.group n).abortLate = true ∧
      same t) ∧
    ((r.state = .free ∨ r.state = .failed ∨ r.state = .aborted) → u.role n ≠ 2 →
      exec (.txnAbort f g) s = .next (u.answered f 0 [])) ∧
    ((r.state = .free ∨ r.state = .failed ∨ r.state = .aborted) → u.role n = 2 → ∃ t : State,
      exec (.txnAbort f g) s = .next (t.answered f 0 []) ∧ t = { u with furlong := t.furlong }) ∧
    ((u.groupState r).held = true → r.owner ≠ some f → ∀ c ∈ [Instr.txnPrepare f g, .txnCommit f g asap late, .txnAbort f g],
      exec c s = .next (u.answered f 9 [])) ∧
    (r.state.held = true → r.owner = some f → u.role n = 1 → ∀ c ∈ [Instr.txnPrepare f g, .txnCommit f g asap late],
      exec c s = .next (u.answered f 8 []))

/-- When the checks of a PREPARING group end, 16 CK_SEQ cycles and one for each entry after PREPARE: an ABORT that waited makes it
ABORTED; a failed check makes it FAILED in phase PREPARE with the code and address of the first failing entry; otherwise it is
PREPARED with its dependency set and its log entries reserved. In the apply cycle of the one group that is due: a state check
that fails makes it FAILED in phase COMMIT_CYCLE and no value is applied; otherwise it is COMMITTED, APPLIED_AT is the start
of the cycle, and nothing stays scheduled for it. A single write of a subindex that a group applied in the same cycle has
written leaves that group's value. Where it rests on a choice or an inference of the model: log entries 201, 202. -/
def Obligations.GroupPreparesAndApplies : Prop :=
  (∀ (g : Fin 15) (s₀ : State), let n := g.val + 1; let r := s₀.group n
    let s := s₀.advance (addGrains r.prepFrom ((16 + r.entries.length) * s₀.seqLen : Nat))
    r.state = .preparing →
      (∀ ph, r.abortWaits = some ph → ∃ t, exec (.prepareDone g) s₀ = .next t ∧ (t.group n).state = .aborted ∧
        (t.group n).failPhase = ph ∧ (t.group n).entries = [] ∧ (Claims.NoAcks s → t.dict = s.dict)) ∧
      (∀ d a, r.abortWaits = none → s.prepareFail r.entries r.overlays = some (d, a) → ∃ t,
        exec (.prepareDone g) s₀ = .next t ∧ (t.group n).state = .failed ∧ (t.group n).failPhase = .prepare ∧
        (t.group n).failDstat = d ∧ (t.group n).failAddr = a ∧ (Claims.NoAcks s → t.dict = s.dict)) ∧
      (r.abortWaits = none → s.prepareFail r.entries r.overlays = none → ∃ t,
        exec (.prepareDone g) s₀ = .next t ∧ (t.group n).state = .prepared ∧ (t.group n).entries = r.entries ∧
        (t.group n).deps = depSet r.entries ∧ (t.group n).reserved = s.txnLogs r.entries r.overlays ∧ (Claims.NoAcks s → t.dict = s.dict))) ∧
  (∀ (g : Nat) (cyc : Time) (s : State), s.nextApply = some cyc → (s.advance cyc).dueGroups = [g] →
    let u := s.advance cyc
    (∀ d a, u.applyFail u.spm.queue.length (u.group g).entries = some (d, a) → ∃ t, exec .txnApply s = .next t ∧
      (t.group g).state = .failed ∧ (t.group g).failPhase = .commitCycle ∧ (t.group g).failDstat = d ∧
      (t.group g).failAddr = a ∧ (Claims.NoAcks s → t.dict = s.dict)) ∧
    (u.applyFail u.spm.queue.length (u.group g).entries = none → ∃ t, exec .txnApply s = .next t ∧
      (t.group g).state = .committed ∧ (t.group g).appliedAt = time64 u.cycle ∧ (t.group g).due = none ∧
      (t.groupState (t.group g)) = (if t.cycle = u.cycle then .scheduled else .committed))) ∧
  (∀ (g : Fin 15) (f : Iface) (a v w : Nat) (s : State), (s.group (g.val + 1)).state = .committed →
    (s.group (g.val + 1)).applyCycle = some s.cycle → (a, v) ∈ (s.group (g.val + 1)).entries →
    s.applyTxns [Claims.alone f a w] = s.groupsChanged []) ∧
  (∀ s : State, s.nextApply = none → exec .txnApply s = .next s)

/-- A set of writes to plain configuration, none of which starts anything, logs anything or fails a group, applied in one
transaction: every subindex reads its own last write, and every subindex that is not written reads as before. -/
def Obligations.AppliedValuesStand : Prop :=
  ∀ (s : State) (es : List Entry), sparseWf initial s.dict = true → (∀ e ∈ es, holdsValue e.1 = true) →
    let stood := s.forEach es fun e t => t.stored (Claims.written s .can e.1 e.2)
    (∀ a, (∀ e ∈ es, e.1 ≠ a) → stood.val a = s.val a) ∧
    (∀ pre post a v, es = pre ++ (a, v) :: post → (∀ e ∈ post, e.1 ≠ a) → stood.val a = v) ∧
    sparseWf initial stood.dict = true ∧ stood = { s with dict := stood.dict }

/-- With TIMEOUT set, an OPEN group, or a PREPARED one that is no participant's, becomes ABORTED with FAIL_PHASE TIMEOUT, not
before TIMEOUT ms after its owner's last command or staging. When D
passes a PREPARED participant becomes ABORTED with FAIL_PHASE DEADLINE. When D − FL_LATENCY_BUDGET passes with too few YES votes
a coordinator's group becomes FAILED with FAIL_PHASE VOTE. Nothing staged is applied.
Where it rests on a choice or an inference of the model: log entries 1301. -/
def Obligations.GroupDeadlines : Prop :=
  ∀ (g : Fin 15) (s : State), let n := g.val + 1; let r := s.group n
    (s.cfg 0x2300 2 ≠ 0 → r.state = .opened ∨ (r.state = .prepared ∧ s.role n ≠ 1) → ∃ t,
      exec (.txnTimeout g) s = .next t ∧ (t.group n).state = .aborted ∧ (t.group n).failPhase = .timeout ∧
      (t.group n).entries = [] ∧ (Claims.NoAcks s → t.dict = s.dict) ∧
      t.clock = laterOf s.clock (addGrains r.heard (s.cfg 0x2300 2 * msGrains : Nat))) ∧
    (∀ d, r.deadline = some d → r.state = .prepared → s.role n = 1 → ∃ t,
      exec (.txnDeadline g) s = .next t ∧ (t.group n).state = .aborted ∧ (t.group n).failPhase = .deadline ∧
      (t.group n).entries = [] ∧ (Claims.NoAcks s → t.dict = s.dict) ∧ t.clock = laterOf s.clock d) ∧
    (∀ d, r.deadline = some d → r.state = .preparing ∨ r.state = .prepared → s.role n = 2 →
      r.votesYes < field (s.xchip n) 47 32 → ∃ t,
      exec (.voteDeadline g) s = .next t ∧ (t.group n).state = .failed ∧ (t.group n).failPhase = .vote ∧ (Claims.NoAcks s → t.dict = s.dict)) ∧
    (s.cfg 0x2300 2 = 0 → exec (.txnTimeout g) s = .next s)

/-- The oldest TXN packet of its message in the receive buffer leaves it. At a participant, from its coordinator: PREPARE makes an
OPEN group PREPARING with the packet's D; COMMIT in time schedules a PREPARED group for T, and one that is not in time makes
it FAILED in phase LATE; ABORT makes an OPEN, PREPARED or SCHEDULED group ABORTED in phase COORD_ABORT, waits during
PREPARING, and sets ABORT_LATE in the apply cycle and on a COMMITTED one. At a coordinator: a YES vote is counted, a NO vote
makes the group FAILED in phase VOTE, an OUTCOME is held. Where it rests on a choice or an inference of the model: log entries
1302, 1303. -/
def Obligations.CrossChipMessages : Prop :=
  ∀ (s u : State) (p : InPacket), let g := p.group; let r := u.group g
    (s.takeInbox (isTxn 1) = some (p, u) → u.fromCoord p = true → r.state = .opened → ∃ t,
      exec .xchipPrepare s = .next t ∧ (t.group g).state = .preparing ∧ (t.group g).remote = true ∧
      (t.group g).deadline = some (timeOf64 u.clock (BitVec.ofNat 64 (p.word 1))) ∧ t = { u with commit := t.commit }) ∧
    (s.takeInbox (isTxn 3) = some (p, u) → u.fromCoord p = true → r.state = .prepared →
      ∀ d, r.deadline = some d → let at_ := timeOf64 u.clock (BitVec.ofNat 64 (p.word 1))
      (before p.time d = true → 5120 ≤ span p.time at_ → ∃ t, exec .xchipCommit s = .next t ∧
        (t.group g).state = .scheduled ∧ (t.group g).due = some (.at at_) ∧ t = { u with commit := t.commit }) ∧
      (before p.time d = false ∨ span p.time at_ < 5120 → ∃ t, exec .xchipCommit s = .next t ∧
        (t.group g).state = .failed ∧ (t.group g).failPhase = .late ∧ (Claims.NoAcks s → t.dict = s.dict))) ∧
    (s.takeInbox (isTxn 4) = some (p, u) → u.fromCoord p = true →
      (r.state = .preparing → ∃ t, exec .xchipAbort s = .next t ∧ (t.group g).abortWaits = some .coordAbort ∧
        t = { u with commit := t.commit }) ∧
      (r.state = .committed ∨ u.groupDue r = true → ∃ t, exec .xchipAbort s = .next t ∧ (t.group g).state = r.state ∧
        (t.group g).abortLate = true ∧ t = { u with commit := t.commit }) ∧
      (r.state = .opened ∨ r.state = .prepared ∨ r.state = .scheduled → u.groupDue r = false → ∃ t, exec .xchipAbort s = .next t ∧
        (t.group g).state = .aborted ∧ (t.group g).failPhase = .coordAbort ∧ (t.group g).entries = [] ∧ (Claims.NoAcks s → t.dict = s.dict))) ∧
    (s.takeInbox (isTxn 2) = some (p, u) → u.role g = 2 → 1 ≤ g → r.state = .preparing ∨ r.state = .prepared →
      (field (p.word 0) 51 48 = 0 → ∃ t, exec .xchipVote s = .next t ∧
        (t.group g).votesYes = satInc 0xFFFF r.votesYes ∧ (t.group g).state = r.state ∧ t = { u with commit := t.commit }) ∧
      (field (p.word 0) 51 48 ≠ 0 → ∃ t, exec .xchipVote s = .next t ∧ (t.group g).state = .failed ∧
        (t.group g).failPhase = .vote ∧ (t.group g).votesNo = satInc 0xFFFF r.votesNo ∧ (Claims.NoAcks s → t.dict = s.dict))) ∧
    (s.takeInbox (isTxn 5) = some (p, u) → u.role g = 2 → 1 ≤ g → r.state ≠ .free → r.state ≠ .opened → ∃ t,
      exec .xchipOutcome s = .next t ∧ (t.group g).outcomes = r.outcomes ||| BitVec.ofNat 3 (2 ^ field (p.word 0) 51 48) ∧
      t = { u with commit := t.commit }) ∧
    (∀ c ∈ [(1, Instr.xchipPrepare), (2, .xchipVote), (3, .xchipCommit), (4, .xchipAbort), (5, .xchipOutcome)],
      s.takeInbox (isTxn c.1) = none → exec c.2 s = .next s)

/-- OVERLAY_ACTIVE with a slot that holds a sound image and an interface that owns no open group applies every entry of the image
as one transaction and answers OK; a slot being written is SEG_BUSY, one with no sound image DEPENDENCY. BASE_CFG SAVE copies
the values and has no stored image meanwhile, is refused while one is in progress; its end records the outcome and stores the
image when it verified; ERASE drops the image. FACTORY applies the factory trims as one transaction. Where it rests on a
choice or an inference of the model: log entries 1304, 1305, 1306. -/
def Obligations.OverlayAndBase : Prop :=
  (∀ (f : Iface) (k : BitVec 8) (s : State), s.dictUp = true → 1 ≤ k.toNat → k.toNat ≤ 17 →
    let u := s.served 1
    (u.slotBusy k.toNat = true → exec (.overlayApply f k) s = .next (u.answered f 10 [])) ∧
    (u.slotBusy k.toNat = false → u.slotValid k.toNat = false → exec (.overlayApply f k) s = .next (u.answered f 7 [])) ∧
    (∀ es, u.slotBusy k.toNat = false → u.slotValid k.toNat = true → u.overlayWrites (u.slotImage k.toNat) = .ok es →
      u.openGroup f = none → (∀ e ∈ es, u.outranked e.1 = false) → u.checkFail .single es [u.slotApp k.toNat] = none →
      xipFail u.spm.queue.length es = none →
      let t := u.applyTxns [
        { ctx := { src := .iface f, group := 0, timed := none }, entries := es, overlays := [u.slotApp k.toNat] }]
      exec (.overlayApply f k) s = .next (({ t with access := { t.access with wrote := es.map (·.1) } } : State).answered f 0 []))) ∧
  (∀ (f : Iface) (s : State), s.dictUp = true → let u := s.served 1
    (u.commit.saving = none → u.aszTakes 1 = true → exec (.baseSave f) s = .next (({ u with
      commit := { u.commit with saving := some (.iface f, u.baseCopy), userBase := none, userCrc := 0 } }).answered f 0 [])) ∧
    (u.commit.saving ≠ none → exec (.baseSave f) s = .next (u.answered f 8 [])) ∧
    (exec (.baseErase f) s = .next (({ u with commit := { u.commit with userBase := none, userCrc := 0 } }).answered f 0 []))) ∧
  (∀ (ok : Bool) (src : Source) (image : List Entry) (s : State), s.commit.saving = some (src, image) → ∃ t,
    exec (.baseSaveDone ok) s = .next t ∧ t.commit.saving = none ∧ t.commit.saveResult = (if ok then 1 else 2) ∧
    t.commit.userBase = (if ok then some image else none) ∧ (Claims.NoAcks s → t.dict = s.dict)) ∧
  (∀ (f : Iface) (s : State), s.dictUp = true → let u := s.served 1
    u.calCtrlCheck 4 = 0 → (∀ e ∈ u.factoryWrites, u.outranked e.1 = false) → u.checkFail .single u.factoryWrites [] = none →
    xipFail u.spm.queue.length u.factoryWrites = none → exec (.calFactory f) s = .next ((u.applyTxns
      [{ ctx := { src := .cal, group := 0, timed := none }, entries := u.factoryWrites, overlays := [] }]).answered f 0 []))

/-- The PLL moves as Table 3.5 says. The lock criterion takes ACQUIRE to LOCKED in the committed mode, UNLOCKED back to LOCKED or
to SLEW while a correction is left, and a stepped RESYNC_WAIT to LOCKED; a loss of lock takes LOCKED and SLEW to UNLOCKED. A
lost reference takes every state but BYPASS and HOLDOVER to HOLDOVER, counts it and discards the correction. A qualified
reference ends a HOLDOVER (with no SYNC grid by the phase error of its first edge: within W LOCKED, within 51,200 grains and
POLICY 0 SLEW with the correction −J, else RESYNC_WAIT); in BYPASS it is noted. A RESYNC timeout in RETURN decides by the
folded phase. The end of a correction takes SLEW to LOCKED. Where LOCKED is entered with another MODE committed than the one
in force, that MODE is taken up at once: ACQUIRE. Where it rests on a choice or an inference of the model: log entries 301,
302, 306. -/
def Obligations.PllEvents : Prop :=
  ∀ s : State, let lands (t : State) : Prop :=
      (decide (s.cfg 0x2100 1 = 1) = s.pll.economy → t.pll.state = .locked ∧ t.pll.economy = s.pll.economy) ∧
      (decide (s.cfg 0x2100 1 = 1) ≠ s.pll.economy → t.pll.state = .acquire)
    (s.pll.state = .acquire → ∃ t, exec .lockCriterionMet s = .next t ∧ t.pll.state = .locked ∧
      t.pll.economy = decide (s.cfg 0x2100 1 = 1)) ∧
    (s.pll.state = .unlocked → s.slewLeft = 0 → ∃ t, exec .lockCriterionMet s = .next t ∧ lands t) ∧
    (s.pll.state = .unlocked → s.slewLeft ≠ 0 → ∃ t, exec .lockCriterionMet s = .next t ∧ t.pll.state = .slew ∧
      t.pll.slewRemain = s.pll.slewRemain) ∧
    (s.pll.state = .resyncWait → s.pll.stepped = true → ∃ t, exec .lockCriterionMet s = .next t ∧
      (s.pll.lostInAcquire = false → lands t) ∧
      (s.pll.lostInAcquire = true → t.pll.state = .locked ∧ t.pll.economy = decide (s.cfg 0x2100 1 = 1))) ∧
    (s.pll.state = .resyncWait → s.pll.stepped = false → exec .lockCriterionMet s = .next s) ∧
    (s.pll.state = .locked ∨ s.pll.state = .slew → ∃ t, exec .lockLost s = .next t ∧ t.pll.state = .unlocked) ∧
    (s.pll.state ≠ .locked → s.pll.state ≠ .slew → exec .lockLost s = .next s) ∧
    (s.pll.state ≠ .bypass → s.pll.state ≠ .holdover → ∃ t, exec .refLost s = .next t ∧ t.pll.state = .holdover ∧
      t.pll.refPresent = false ∧ t.pll.holdovers = satInc 65535 s.pll.holdovers ∧ t.pll.slewRemain = 0) ∧
    (s.pll.state = .holdover → ∃ t, exec .holdoverLong s = .next t ∧ t.pll.state = .holdover ∧ t.clock = s.clock) ∧
    (∀ ph : BitVec 16, s.pll.state = .bypass → exec (.refclkQualified ph) s = .next { s with
      rst := { s.rst with refQualified := true }, pll := { s.pll with refPresent := true } }) ∧
    (∀ ph : BitVec 16, s.pll.state = .holdover → s.pll.jLost = false → s.gridPeriod = 0 →
      let j := foldPhase ph.toInt
      ∃ t, exec (.refclkQualified ph) s = .next t ∧ t.pll.refPresent = true ∧ t.pll.jLast = jWord (some j) ∧
        (j.natAbs ≤ s.lockWindow.natAbs → lands t) ∧
        (s.lockWindow.natAbs < j.natAbs → j.natAbs ≤ 51200 → s.cfg 0x2103 1 = 0 →
          t.pll.state = .slew ∧ t.pll.slewRemain = -j ∧ t.pll.slewBegun = true) ∧
        (s.lockWindow.natAbs < j.natAbs → 51200 < j.natAbs ∨ s.cfg 0x2103 1 ≠ 0 → t.pll.state = .resyncWait)) ∧
    (∀ ph, s.pll.state = .ret → s.pll.phaseAtReturn = some ph → ∃ t, exec .resyncTimeout s = .next t ∧
      t.pll.jLast = jWord (some (foldPhase ph)) ∧ t.pll.phaseAtReturn = none) ∧
    (s.pll.state = .slew → ∃ t, exec .slewEnd s = .next t ∧ lands t ∧ t.pll.slewRemain = 0 ∧
      t.clock = laterOf s.clock s.slewEnds)

/-- An epoch wrap takes the time base to the first grain of the next epoch. A SYNC_IN edge, while SOURCE is 0 and no run holds the
converters, is stamped and counted with its corrected time, its resolved time less SKEW_OFFSET, and the armed actions are used
up; an edge armed as EPOCH takes the time base to 0 at that edge. While SOURCE is not 0 only its stamp remains. A command that
comes at a later time takes the time base to it, and only an epoch entered on the way leaves anything else. Where it rests on
a choice or an inference of the model: log entries 101, 301, 302. -/
def Obligations.TimeBaseEvents : Prop :=
  ∀ s : State,
    (∃ t, exec .epochWrap s = .next t ∧ grains t.clock = 0 ∧ epochOf t.clock = (epochOf s.clock + 1) % 2 ^ 16 ∧
      t.dict = s.dict ∧ t.pll = s.pll) ∧
    (∀ (coarse : BitVec 42) (fine : Fin 1280), let at0 := roundFine ((s.captured coarse fine false).raw s.special.convs[4])
      let v := (s.advance at0).specialBegun
      v.special.runsAt v.clock = false → s.cfg 0x2120 1 = 0 →
      let corrected := addGrains at0 (-s.skewOffset)
      ∃ t, exec (.syncEdge coarse fine) s = .next t ∧ t.sync.last = time64 corrected ∧ t.sync.count = s.sync.count + 1 ∧
        (sparseWf initial s.dict = true → t.cfg 0x2120 2 = 0) ∧
        (s.gridPeriod = 0 → bitOf (s.cfg 0x2120 2) 0 = true →
          t.clock = addGrains (laterOf s.clock at0) (-(corrected.toNat : Int)) ∧
          t.pll.lastStep = BitVec.ofInt 64 (-(grains corrected : Int))) ∧
        (s.gridPeriod = 0 → bitOf (s.cfg 0x2120 2) 0 = false → t.clock = laterOf s.clock at0)) ∧
    (∀ (coarse : BitVec 42) (fine : Fin 1280), let at0 := roundFine ((s.captured coarse fine false).raw s.special.convs[4])
      let v := (s.advance at0).specialBegun
      (v.special.runsAt v.clock = false → s.cfg 0x2120 1 ≠ 0 →
        ∃ t, exec (.syncEdge coarse fine) s = .next t ∧ t.sync = s.sync ∧ t.dict = s.dict ∧ t.pll = s.pll) ∧
      (v.special.runsAt v.clock = true → exec (.syncEdge coarse fine) s = .next v)) ∧
    (∀ T : Time, (s.advance T).clock = laterOf s.clock T ∧ (s.advance T).dict = s.dict ∧
      (before s.clock T = true → epochOf T = epochOf s.clock → s.advance T = { s with clock := T }) ∧
      (before s.clock T = false → s.advance T = s))

/-- After a committed write of a clock output's object its divider and delay are those that the object holds, from its next
terminal count on; it runs exactly while it is enabled, no relock holds it and ECONOMY does not stop it: it starts at the next
terminal count, and completes a high phase in progress before it is held. The other outputs and everything else stay. With the
PLL LOCKED, a committed MODE other than the one in force takes it to ACQUIRE and holds every output.
Where it rests on a choice or an inference of the model: log entries 305. -/
def Obligations.ClockOutputs : Prop :=
  (∀ (n : Fin 4) (s : State), let cfg := s.cfg (0x2110 + n.val); let t := s.clockEffect (0x2110 + n.val) 1
    let econ := s.pll.economy && ((cfg 2 + 1) % 4 != 0 || field (cfg 3) 31 16 % 4 != 0)
    let on := cfg 1 == 1 && !econ && !s.pll.relocking; let old := (s.ckos[n.val]).settled s.clock; let c := t.ckos[n.val]
    c.cur = old.cur ∧ (old.cur.div = cfg 2 + 1 → old.cur.delay = ckoDelay (cfg 3) → c.next = none) ∧
    (old.cur.div ≠ cfg 2 + 1 ∨ old.cur.delay ≠ ckoDelay (cfg 3) → ∃ x, c.next = some (old.cur.nextRise s.clock, x) ∧
      x.div = cfg 2 + 1 ∧ x.delay = ckoDelay (cfg 3)) ∧
    c.running = on ∧ (old.running = on → c.from_ = old.from_) ∧
    (old.running ≠ on → before s.clock old.from_ = false →
      c.from_ = if on then old.cur.nextRise s.clock else old.cur.highEnd s.clock) ∧
    c.heldRelock = s.pll.relocking ∧ c.econStopped = econ ∧ t = { s with ckos := t.ckos } ∧
    ∀ m : Fin 4, m ≠ n → t.ckos[m.val] = s.ckos[m.val]) ∧
  (∀ s : State, let t := s.clockEffect 0x2100 1
    (s.pll.state = .locked → decide (s.cfg 0x2100 1 = 1) ≠ s.pll.economy → t.pll.state = .acquire ∧
      ∀ n : Fin 4, t.ckos[n.val].running = false ∧ t.ckos[n.val].heldRelock = true) ∧
    (s.pll.state ≠ .locked ∨ decide (s.cfg 0x2100 1 = 1) = s.pll.economy → t = s))

/-- When a vector executes, the next time zero lies one period of its timing set after its own, VECTORS counts it, it is the
last vector executed, the marker lines show its marker bits, KEEP cells repeat their last other code, and its compares become
visible behind the three vectors before it. Where the time base stays in its epoch, configuration, the other sites and
everything outside the site but the time base and the MARK balls stay. (A vector that makes a new collision presents it at its
time zero, and goes on as long as that forces no SAFE.)
Where it rests on a choice or an inference of the model: log entries 12, 601, 605, 606. -/
def Obligations.VectorExecutes : Prop :=
  ∀ (s : State) (i : Fin 64) (v : BitVec 64) (m : Strobe) (judged clr : Bool), let p := s.psq i
    let t := s.vecThen i v m judged clr id
    let q := t.psq i
    let e := addGrains p.zero (s.vecPeriod i v p.zero : Nat)
    p.state = .run → (∀ c, (t.cell i c).collision = true → (s.cell i c).collision = true) →
    q.zero = e ∧ t.clock = laterOf (laterOf s.clock p.zero) e ∧ q.vectors = p.vectors + 1 ∧ q.prev = p.pc ∧ q.pc = p.pc ∧
    q.state = p.state ∧ q.lines = vMark v ∧ q.stack = p.stack ∧ q.ctrs = p.ctrs ∧ q.segs = p.segs ∧
    (∀ c : Fin 8, q.lastCode[c.val] = if vPin v c = 0xC then p.lastCode[c.val] else some (BitVec.ofNat 4 (vPin v c))) ∧
    (∀ a b c d, p.pipe = [a, b, c, d] → q.cellFail = (if d.clr then 0 else p.cellFail ||| d.cells) ∧
      q.fail = (if d.clr then false else p.fail || d.fail)) ∧
    (p.pipe.length ≠ 4 → q.cellFail = p.cellFail ∧ q.fail = p.fail) ∧
    (∃ f, q.pipe.head? = some f ∧ f.clr = clr ∧ (judged = false → f.cells = 0)) ∧
    (epochOf t.clock = epochOf s.clock →
      t = { s with clock := t.clock, sites := t.sites, balls := t.balls } ∧ Claims.OtherSites s t i)

/-- A due vector executes and its opcode chooses what follows. ADV and TRIG take the sequential advance (TRIG pulses the line
that its ARG names at its time zero); JMP goes to a target in an ACTIVE or ARMED segment, and presents PSQ_SEG otherwise;
JMP_IF jumps when COND holds at the end of the vector (condition 5 consumes its latch) and advances when not; CALL pushes the
address of the sequential advance, RET goes to the newest one, and a fifth CALL and a RET without one present PSQ_STACK; HALT
stops. A vector that may not execute stops the PSQ with PSQ_ILL and counts nothing. Targets and successors are judged at the
decision point before the boundary. Where the boundary before a vector is still to come, as at the start of a run, it comes
first.
Where it rests on a choice or an inference of the model: log entries 12, 606. -/
def Obligations.VectorFlow : Prop :=
  ∀ (s : State) (i : Fin 64) (b n a : BitVec 8), let p := s.psq i; let v := Claims.dueVector s i; let m : Strobe := ⟨b, n, a⟩
    let u := Claims.ran s i m true false; let z := (u.psq i).zero; let ua := Claims.ran s i m true (bitOf (vArg v) 0)
    (Claims.Due s i 0x00 → Claims.Clean s i m true (bitOf (vArg v) 0) → (p.pc.toNat % 4096 = 4095 →
        ∀ g, s.segNext i (segOf p.pc) = some g → ua.segServes i g (ua.psq i).zero = true) →
      ∃ t, exec (.adv i b n a) s = .next t ∧ Claims.Advanced s i ua t) ∧
    (Claims.Due s i 0x01 → Claims.Clean s i m true false → ∃ t, exec (.jmp i b n a) s = .next t ∧
      (u.segServes i (segOf (vTarget v)) z = true → Claims.GoesOn s i t (vTarget v)) ∧
      (u.segServes i (segOf (vTarget v)) z = false → Claims.Faulted s i t 0x33)) ∧
    (Claims.Due s i 0x02 → Claims.Clean s i m true false → ∃ t, exec (.jmpIf i b n a) s = .next t ∧
      (u.psqCond i (vCond v) = true → u.segServes i (segOf (vTarget v)) z = true → Claims.GoesOn s i t (vTarget v) ∧
        (vCond v = 5 → (u.site i).stream.rtrigAt.map u.cycleAt ≠ some u.cycle → (t.site i).stream.rtrig = false)) ∧
      (u.psqCond i (vCond v) = true → u.segServes i (segOf (vTarget v)) z = false → Claims.Faulted s i t 0x33) ∧
      (u.psqCond i (vCond v) = false → p.pc.toNat % 4096 ≠ 4095 → Claims.GoesOn s i t (p.pc + 1))) ∧
    (Claims.Due s i 0x03 → Claims.Clean s i m true false → ∃ t, exec (.psqCall i b n a) s = .next t ∧
      (∀ r, p.stack.length < 4 → u.psqLink i z = some r → u.segServes i (segOf (vTarget v)) z = true →
        Claims.GoesOn s i t (vTarget v) ∧ (t.psq i).stack = r :: p.stack) ∧
      (4 ≤ p.stack.length → Claims.Faulted s i t 0x32) ∧
      (p.stack.length < 4 → u.psqLink i z = none ∨ u.segServes i (segOf (vTarget v)) z = false → Claims.Faulted s i t 0x33)) ∧
    (Claims.Due s i 0x04 → Claims.Clean s i m true false → ∃ t, exec (.psqRet i b n a) s = .next t ∧
      (∀ r rest, p.stack = r :: rest → Claims.GoesOn s i t r ∧ (t.psq i).stack = rest) ∧
      (p.stack = [] → Claims.Faulted s i t 0x32)) ∧
    (Claims.Due s i 0x0A → Claims.Clean s i m true false → p.pc.toNat % 4096 ≠ 4095 →
      ∃ t, exec (.psqTrig i b n a) s = .next t ∧ Claims.GoesOn s i t (p.pc + 1) ∧
        (t.psq i).trigPulses.head? = some (field (vArg v) 1 0, p.zero)) ∧
    (Claims.Due s i 0x0C → Claims.Clean s i m true false →
      ∃ t, exec (.psqHalt i b n a) s = .next t ∧ Claims.Stopped s i t .halt) ∧
    (∀ c ∈ Claims.vectorCommands i b n a, ((s.psqReach i).psq i).resume = none → exec c s = exec c (s.psqReach i)) ∧
    (∀ c ∈ Claims.vectorCommands i b n a,
      p.state = .run → p.resume = none → vLegal v = false → ∃ w : State, exec c s = .next (w.present (.ofSite i) 0x30 p.pc.toNat 0) ∧
        (w.psq i).state = .idle ∧ (w.psq i).stopCause = .fault ∧ (w.psq i).vectors = p.vectors)

/-- LOOP_BEGIN arms its counter with the count of the LOOP_END that its ARG names and goes on with the body; without such a
LOOP_END it presents PSQ_LOOP. LOOP_END counts its armed counter down: the first vector of the body follows while the count is
not 0, and at 0 the counter is disarmed and execution goes on; at another loop's end it presents PSQ_LOOP. MATCH repeats its
vector until a pass is known, four repetitions after it was made; M repetitions without one set MATCH_TO and FAIL.
Where it rests on a choice or an inference of the model: log entries 12, 606. -/
def Obligations.LoopsAndMatch : Prop :=
  ∀ (s : State) (i : Fin 64) (b n a : BitVec 8), let p := s.psq i; let v := Claims.dueVector s i; let m : Strobe := ⟨b, n, a⟩
    (Claims.Due s i 0x05 → Claims.Clean s i m true false → ∃ t, exec (.loopBegin i b n a) s = .next t ∧
      (p.loopEnd v = none → Claims.Faulted s i t 0x31) ∧
      (∀ w, p.loopEnd v = some w → Claims.GoesOn s i t (p.pc + 1) ∧
        let count := field (vArg w) 11 0
        (t.psq i).ctrs[(vCtr v).val] =
          { value := BitVec.ofNat 24 (if bitOf (vArg w) 12 then s.siteCfg i 0x60 (3 + (vCtr v).val)
                                      else if count = 0 then 4096 else count),
            armed := some (segOf p.pc, p.pc.toNat % 4096 + 1, field (vArg v) 11 0) } ∧
        ∀ k : Fin 4, k ≠ vCtr v → (t.psq i).ctrs[k.val] = p.ctrs[k.val])) ∧
    (Claims.Due s i 0x06 → Claims.Clean s i m true false → ∃ t, exec (.loopEnd i b n a) s = .next t ∧
      let l := p.ctrs[(vCtr v).val]
      (∀ first, l.armed = some (segOf p.pc, first, p.pc.toNat % 4096) → l.value ≠ 1 →
        Claims.GoesOn s i t (vecAddr (segOf p.pc) first) ∧ (t.psq i).ctrs[(vCtr v).val] = { l with value := l.value - 1 }) ∧
      (∀ first, l.armed = some (segOf p.pc, first, p.pc.toNat % 4096) → l.value = 1 → p.pc.toNat % 4096 ≠ 4095 →
        Claims.GoesOn s i t (p.pc + 1) ∧ (t.psq i).ctrs[(vCtr v).val] = { value := 0, armed := none }) ∧
      (l.armed = none → Claims.Faulted s i t 0x31) ∧
      (∀ g first e, l.armed = some (g, first, e) → ¬ (g = segOf p.pc ∧ e = p.pc.toNat % 4096) →
        Claims.Faulted s i t 0x31)) ∧
    (Claims.Due s i 0x08 → Claims.Clean s i m false false → ∃ t, exec (.matchVec i b n a) s = .next t ∧
      (p.passes.getD 3 false = true → p.pc.toNat % 4096 ≠ 4095 → Claims.GoesOn s i t (p.pc + 1) ∧ (t.psq i).reps = 0) ∧
      (p.passes.getD 3 false = false → vArg v ≠ 0 → p.reps + 1 = vArg v → p.pc.toNat % 4096 ≠ 4095 →
        Claims.GoesOn s i t (p.pc + 1) ∧ (t.psq i).matchTo = true ∧ (t.psq i).fail = true ∧ (t.psq i).reps = 0) ∧
      (p.passes.getD 3 false = false → ¬ (vArg v ≠ 0 ∧ p.reps + 1 = vArg v) →
        Claims.GoesOn s i t p.pc ∧ (t.psq i).reps = p.reps + 1 ∧
        (t.psq i).passes = (s.matchPass i v m :: p.passes).take 4))

/-- WAIT_EVENT goes on at once when COND holds and waits otherwise, SYNC_WAIT always waits; a wait that COND ends resumes with the
next vector on the run's grid at least 8 CK_PAT cycles on, and its boundary takes the PSQ to RUN there; a wait that lasts its
ARG microseconds stops the PSQ with TIMEOUT and WAIT_TO. A sequential advance into a segment that is not ready is an underrun:
policy 3 stops the PSQ, the others leave it in UNDERRUN with its flag and present PSQ_UNDERRUN. The underrun ends when the
successor is ready, on the grid, or stops the PSQ after UNDERRUN_TMO microseconds. Where it rests on a choice or an inference
of the model: log entries 9, 12, 603, 606. -/
def Obligations.PsqWaits : Prop :=
  ∀ (s : State) (i : Fin 64) (b n a : BitVec 8), let p := s.psq i; let v := Claims.dueVector s i; let m : Strobe := ⟨b, n, a⟩
    let u := Claims.ran s i m true false
    let grid := gridAfter p.zero s.clock 10240
    (Claims.Due s i 0x07 → Claims.Clean s i m true false → ∃ t, exec (.waitEvent i b n a) s = .next t ∧
      (u.psqCond i (vCond v) = true → p.pc.toNat % 4096 ≠ 4095 → Claims.GoesOn s i t (p.pc + 1)) ∧
      (u.psqCond i (vCond v) = false → (t.psq i).state = .wait ∧ (t.psq i).wait = some (.event (vCond v)) ∧
        (t.psq i).pc = p.pc ∧ (t.psq i).waitFrom = (t.psq i).zero ∧ (t.psq i).lines = 0 ∧ (t.psq i).vectors = p.vectors + 1)) ∧
    (Claims.Due s i 0x09 → Claims.Clean s i m true false → ∃ t, exec (.syncWait i b n a) s = .next t ∧
      (t.psq i).state = .wait ∧ (t.psq i).wait = some .sync ∧ (t.psq i).pc = p.pc ∧ (t.psq i).vectors = p.vectors + 1) ∧
    (∀ cond, p.state = .wait → p.resume = none → p.wait = some (.event cond) → s.condAt i cond s.clock = true →
      ∃ t, exec (.waitResume i) s = .next t ∧ (t.psq i).state = .wait ∧ (t.psq i).resume = some none ∧ (t.psq i).zero = grid ∧
        (t.psq i).pc = p.pc ∧ t.clock = s.clock ∧
        (cond = 5 → (s.site i).stream.rtrigAt.map s.cycleAt ≠ some s.cycle → (t.site i).stream.rtrig = false)) ∧
    (∀ cond, p.state = .wait → p.wait = some (.event cond) → s.condAt i cond s.clock = false ∨ p.resume ≠ none →
      exec (.waitResume i) s = .next s) ∧
    (∀ r, p.resume = some r → p.state = .wait ∨ p.state = .run → p.goto = none → p.stopAt = none →
      (s.site i).ctl.trans ≠ some .park → let t := s.psqReach i; let q := t.psq i
      t.clock = laterOf s.clock p.zero ∧ q.resume = none ∧ q.wait = none ∧
      (∀ x, r = some x → q.state = .run ∧ q.pc = x ∧ q.stack = [] ∧ q.zero = p.zero) ∧
      (r = none → p.pc.toNat % 4096 ≠ 4095 → q.state = .run ∧ q.pc = p.pc + 1 ∧ q.stack = p.stack ∧ q.zero = p.zero)) ∧
    (p.state = .wait → p.resume = none → p.waitLimit ≠ 0 → ∃ t, exec (.waitTimeout i) s = .next t ∧ (t.psq i).state = .idle ∧
      (t.psq i).stopCause = .timeout ∧ (t.psq i).waitTo = true ∧
      t.clock = laterOf s.clock (addGrains p.waitFrom (p.waitLimit : Nat))) ∧
    (∀ g, Claims.Due s i 0x00 → Claims.Clean s i m true (bitOf (vArg v) 0) → p.pc.toNat % 4096 = 4095 →
      s.segNext i (segOf p.pc) = some g → (let u := Claims.ran s i m true (bitOf (vArg v) 0); u.segServes i g (u.psq i).zero = false) →
      let pol := field (s.segChain i (segOf p.pc)) 6 5
      ∃ t, exec (.adv i b n a) s = .next t ∧ (pol = 3 → Claims.Stopped s i t .underrun) ∧
        (pol ≠ 3 → ∃ w : State, t = w.presentObj (.ofSite i) 0x34 (0x4061 + 0x100 * i.val) 4 ∧ (w.psq i).state = .underrun ∧
          (w.psq i).underrun = true ∧ (∀ c : Fin 8, (w.psq i).lastCode[c.val] = none) ∧ (w.psq i).pc = p.pc)) ∧
    (∀ g, p.state = .underrun → p.resume = none → s.segNext i (segOf p.pc) = some g → s.segInUse i g = true →
      exec (.underrunResume i) s = .next (s.modPsq i fun q => { q with zero := grid, resume := some none })) ∧
    (∀ g, p.state = .underrun → s.segNext i (segOf p.pc) = some g → s.segInUse i g = false →
      exec (.underrunResume i) s = .next s) ∧
    (p.state = .underrun → p.resume = none → s.siteCfg i 0x60 8 ≠ 0 → ∃ w : State, exec (.underrunTimeout i) s = .next (w.underrunGone i) ∧
      (w.psq i).state = .idle ∧ (w.psq i).stopCause = .underrun ∧
      w.clock = laterOf s.clock (addGrains p.waitFrom (s.siteCfg i 0x60 8 * usGrains : Nat)))

/-- A committed START takes the PSQ to RUN at its start address with counts, flags and stack cleared and its first time zero
81,920 grains after T (or after the applying cycle), and a READY site to RUNNING; CMD then reads 0. A STOP of a waiting PSQ
stops it at once, and waits for a boundary in RUN. A GOTO of a stopped PSQ is discarded with result 3, or 4 where a STOP of
the same cycle stopped it; it ends a wait where its target serves, is discarded with result 2 where not, and waits for a
boundary in RUN. FLAG_CLR clears exactly the flags named, also those that the last vectors of a PSQ without a vector show. A
committed fill takes FILLED away until the fill is done; SEG_FILL_DONE, at the end of the fill's last grant, puts the region's
vectors into every segment with an equal fill of the region's sites that are not OFF. Where it rests on a choice or an
inference of the model: log entries 103, 602, 606. -/
def Obligations.PsqCommands : Prop :=
  ∀ (s : State) (i : Fin 64), let p := s.psq i
    (∀ ctx : Ctx, p.resume = none → let t := s.psqEffect i 0x60 1 0 1 ctx; let q := t.psq i
      q.state = .run ∧ q.resume = some (some q.pc) ∧ q.pc = BitVec.ofNat 15 (s.siteCfg i 0x60 2) ∧ q.vectors = 0 ∧ q.cellFail = 0 ∧ q.fail = false ∧
      q.matchTo = false ∧ q.waitTo = false ∧ q.stack = [] ∧ (∀ c : Fin 8, q.lastCode[c.val] = none) ∧
      (∀ T, ctx.timed = some T → q.zero = addGrains T 81920) ∧
      (ctx.timed = none → q.zero = addGrains s.cycle 81920) ∧
      (s.siteState i = .ready → t.siteState i = .running) ∧ (s.siteState i ≠ .ready → t.siteState i = s.siteState i) ∧
      (sparseWf initial s.dict = true → t.siteCfg i 0x60 1 = 0)) ∧
    (p.state = .wait → p.resume = none → ((s.psqStopCmd i).psq i).state = .idle ∧ ((s.psqStopCmd i).psq i).stopCause = .stop) ∧
    (p.state = .run → s.psqStopCmd i = s.modPsq i fun q => { q with stopAt := some (p.stopAt.getD s.cycle) }) ∧
    (p.state = .idle → s.psqStopCmd i = s ∧
      ∀ v, s.psqGotoCmd i v = s.modPsq i fun q => { q with gotoResult := if p.stopped = some s.cycle then 4 else 3 }) ∧
    (∀ v, p.state = .wait ∨ p.state = .underrun → let a : BitVec 15 := BitVec.ofNat 15 v
      (s.segInUse i (segOf a) = true → s.psqGotoCmd i v = s.modPsq i fun q =>
        { q with zero := gridAfter p.zero s.cycle 10240, resume := some (some a), goto := none, gotoResult := 1 }) ∧
      (s.segInUse i (segOf a) = false → s.psqGotoCmd i v = s.modPsq i fun q => { q with gotoResult := 2 })) ∧
    (∀ v, p.state = .run → s.psqGotoCmd i v = s.modPsq i fun q => { q with goto := some (BitVec.ofNat 15 v, s.cycle) }) ∧
    (∀ v, let q := (s.psqFlagClear i v).psq i
      (∀ k, k < 8 → q.cellFail.getLsbD k = (p.cellFail.getLsbD k && !v.testBit k)) ∧
      q.fail = (p.fail && !v.testBit 8) ∧ q.matchTo = (p.matchTo && !v.testBit 9) ∧
      q.underrun = (p.underrun && !v.testBit 10) ∧ q.waitTo = (p.waitTo && !v.testBit 11) ∧
      (p.state = .run → q.pipe = p.pipe) ∧
      (p.state ≠ .run → ∀ k, k < 8 → q.drained.cellFail.getLsbD k = (p.drained.cellFail.getLsbD k && !v.testBit k)) ∧
      s.psqFlagClear i v = s.modPsq i fun _ => { p with
        cellFail := q.cellFail, fail := q.fail, matchTo := q.matchTo, underrun := q.underrun, waitTo := q.waitTo,
        pipe := q.pipe }) ∧
    (∀ v, fillXip v = false → let m := ((s.psqFill i v).psq i).seg (fillSeg v)
      m.filled = false ∧ m.filling = true ∧ m.src = 1 ∧
      m.fill = some { xip := false, addr := fillAddr v, count := fillCount v, t0 := s.cycle, left := fillCount v, ends := none }) ∧
    (∀ (g : Fin 8) (f : Fill), (p.seg g.val).fill = some f → f.ends ≠ none → s.memFinish i g = s) ∧
    (∀ (g : Fin 8) (f : Fill) (e : Time), let w := s.memFinish i g
      ((w.psq i).seg g.val).fill = some f → f.ends = some e → ∃ t, exec (.segFillDone i g) s = .next t ∧
        t.clock = laterOf w.clock e ∧
        (∀ (j : Fin 64) (k : Fin 8), regionOf j = regionOf i → w.siteState j ≠ .off → ((w.psq j).seg k.val).fill = some f →
          let m := (t.psq j).seg k.val
          m.filled = true ∧ m.filling = false ∧ m.fill = none ∧ m.fillErr = 0 ∧
          (sparseWf (fun _ => (0 : BitVec 64)) ((w.psq j).seg k.val).mem = true → ∀ o, o < f.count →
            sparseGet m.mem o 0 = sparseGet (w.region (regionOf i)).patMem (f.addr + o) 0)) ∧
        ∀ j, regionOf j ≠ regionOf i → t.site j = (w.advance e).site j) ∧
    (∀ g : Fin 8, (((s.memFinish i g).psq i).seg g.val).fill = none → exec (.segFillDone i g) s = .next s)

/-- A committed level code turns its level DAC to that code, and a level whose code is unchanged keeps its move; in a SAFE site
the level in use at the ball stays. PC_FLAG_CLR clears exactly the flags written 1 that were not caused in its cycle, and
TIMING_FLAG_CLR the collision and its count, but that a collision of its cycle stays with COUNT 1. A START measures with the
committed ROUTE and AVG, is ignored while a measurement runs, and ends with ABORTED when its site was forced SAFE in its
cycle. A changed timing set stays at hand with its previous value. Nothing but the site's own cells, its PSQ and the START bit
changes. Where it rests on a choice or an inference of the model: log entries 401, 402. -/
def Obligations.PinSettings : Prop :=
  ∀ (s : State) (i : Fin 64) (c : Fin 8), let q := s.cell i c
    (let l := s.pcLevels i c; let t := s.applyLevels i c; let r := t.cell i c;
      (s.siteState i ≠ .safe → r.vih.goal = field l 15 0 ∧ r.vil.goal = field l 31 16 ∧ r.vtt.goal = field l 47 32) ∧
      (s.siteState i = .safe → (q.last = .vih → r.vih = q.vih) ∧ (q.last = .vil → r.vil = q.vil) ∧ (q.last = .vtt → r.vtt = q.vtt)) ∧
      (q.vih.goal = field l 15 0 → r.vih = q.vih) ∧ (q.vil.goal = field l 31 16 → r.vil = q.vil) ∧
      (q.vtt.goal = field l 47 32 → r.vtt = q.vtt) ∧
      t = s.modCell i c fun _ => { q with vih := r.vih, vil := r.vil, vtt := r.vtt }) ∧
    (∀ v, let r := (s.pinFlagClear i c v).cell i c
      (∀ k, k < 10 → r.flags.getLsbD k = (q.flags.getLsbD k && !(v.testBit k && !(decide (q.caused.1 = s.cycle) && q.caused.2.getLsbD k)))) ∧
      s.pinFlagClear i c v = s.modCell i c fun _ => { q with flags := r.flags }) ∧
    (∀ v : Nat, (v.testBit 0 = true → let r := (s.timingClear i c v).cell i c
        (q.collision = true → q.collAt = some s.cycle → r.collision = true ∧ r.collCount = 1) ∧
        (q.collAt ≠ some s.cycle → r.collision = false ∧ r.collCount = 0) ∧
        s.timingClear i c v = s.modCell i c fun _ => { q with collision := r.collision, collCount := r.collCount, collClear := r.collClear }) ∧
      (v.testBit 0 = false → s.timingClear i c v = s)) ∧
    (bitOf (s.pcPpmu i c) 8 = true → sparseWf initial s.dict = true →
      let t := s.ppmuStart i c; let v := s.pcPpmu i c
      bitOf (t.pcPpmu i c) 8 = false ∧
      (q.meas = none → s.safeNow i = false → ∃ m, (t.cell i c).meas = some m ∧
        m.total = 2 ^ field v 11 9 ∧ m.done = 0 ∧ m.sum = 0 ∧ m.converting = false ∧ (m.route = true ↔ field v 7 6 = 1)) ∧
      (q.meas.isSome = true → t.cell i c = q) ∧
      (q.meas = none → s.safeNow i = true →
        (t.cell i c).meas = none ∧ (t.cell i c).err = 3 ∧ (t.cell i c).flags.getLsbD 8 = true ∧ (t.cell i c).result = q.result) ∧
      t = { s with dict := t.dict, sites := t.sites } ∧ Claims.OtherSites s t i) ∧
    (∀ off sub old, let t := s.tsetEffect i off sub old
      t = s.modPsq i fun p => { p with tsetOld := (t.psq i).tsetOld })

/-- A slewed level stands at its target from the end of its move. A comparator edge toggles its output and sets its sticky flag,
and CMP_HI is never 1 without CMP_LO. An overload of a driving cell sets DRV_OVERLOAD and presents PIN_OVERLOAD; a clamp of a
connected PPMU sets PPMU_CLAMP. A range switch ends with the force voltage moving to its setpoint. At the end of settling a
measurement on ROUTE 1 without a released pair ends with NO_CONVERTER and another converts; each granted conversion is added,
and the last one writes the mean (a whole neighbour of it where it is not whole), or, with a saturation that its value allows,
SATURATED, which leaves RESULT. Where it rests on a choice or an inference of the model: log entries 403, 404. -/
def Obligations.PinEvents : Prop :=
  ∀ (s : State) (i : Fin 64) (c : Fin 8), let q := s.cell i c
    (∀ which, (q.levelAt which).isMoving = true → ∃ t, exec (.levelMoveDone i c which) s = .next t ∧
      let u := s.advance ((q.levelAt which).restTime s.clock)
      (t.cell i c).levelAt which = .still (q.levelAt which).goal ∧
      (∀ k, k ≠ which → (t.cell i c).levelAt k = q.levelAt k) ∧ t = { u with sites := t.sites } ∧
      Claims.OtherSites u t i ∧ ∀ d, d ≠ c → t.cell i d = s.cell i d) ∧
    (∀ hi coarse fine, s.siteState i ≠ .off → field (s.pcMode i c) 7 6 = 0 → s.cmpInternal i = false →
      let fall := if hi then q.cmpHi else q.cmpLo
      ∃ t, exec (.cmpEdge i c hi coarse fine) s = .next t ∧
        (t.cell i c).flags.getLsbD ((if hi then 0 else 2) + (if fall then 1 else 0)) = true ∧
        (if hi then (t.cell i c).cmpHi else (t.cell i c).cmpLo) = !fall ∧
        ((q.cmpHi = true → q.cmpLo = true) → (t.cell i c).cmpHi = true → (t.cell i c).cmpLo = true) ∧
        ∀ d, d ≠ c → t.cell i d = s.cell i d) ∧
    (q.drvAt s.clock ≠ .z → q.drvAt s.clock ≠ .ppmu → let w := s.modCell i c fun q => q.setFlag s.cycle 5
      exec (.drvOverload i c) s =
        .next (if w.mayRise (.ofCell i c.val) 0x20 then w.presentObj (.ofCell i c.val) 0x20 (0x4024 + 0x100 * i.val) (c.val + 1) else w)) ∧
    (q.connected = true → exec (.ppmuClamp i c) s = .next (s.modCell i c fun q => q.setFlag s.cycle 6)) ∧
    (q.held.isSome = true → ∃ t, exec (.ppmuRangeDone i c) s = .next t ∧ (t.cell i c).held = none ∧
      (field (s.pcPpmu i c) 1 0 = 0 → (t.cell i c).force.goal = field (s.pcPpmu i c) 31 16) ∧
      (field (s.pcPpmu i c) 1 0 ≠ 0 → (t.cell i c).force = q.force) ∧ Claims.OtherSites s t i ∧ t = { s with sites := t.sites }) ∧
    (∀ m, q.meas = some m → m.converting = false → q.connected = true → ∃ t, exec (.ppmuSettleDone i c) s = .next t ∧
      t = { s with sites := t.sites } ∧ Claims.OtherSites s t i ∧
      (m.route = true → s.pairFree i = false → (t.cell i c).meas = none ∧ (t.cell i c).err = 1 ∧
        (t.cell i c).flags.getLsbD 8 = true ∧ (t.cell i c).result = q.result) ∧
      (m.route = false ∨ s.pairFree i = true → ∃ n, (t.cell i c).meas = some n ∧ n.converting = true ∧ n.done = m.done ∧
        n.sum = m.sum ∧ n.total = m.total ∧ n.route = m.route)) ∧
    (∀ m value sat, q.meas = some m → m.converting = true → s.convGranted i c m = true → ∃ t, exec (.ppmuConversionDone i c value sat) s = .next t ∧
      Claims.OtherSites s t i ∧ t.dict = s.dict ∧
      (m.done + 1 < m.total → m.route = false ∨ s.pairFree i = true → ∃ n, (t.cell i c).meas = some n ∧ n.done = m.done + 1 ∧
        n.sum = m.sum + value.toInt ∧ n.total = m.total ∧ n.saturated = (m.saturated || (sat && s.beyondSpan i c value.toInt))) ∧
      (m.done + 1 < m.total → m.route = true → s.pairFree i = false → (t.cell i c).meas = none ∧ (t.cell i c).err = 3 ∧
        (t.cell i c).result = q.result ∧ (t.cell i c).flags.getLsbD 8 = true) ∧
      (m.total ≤ m.done + 1 → (m.saturated || (sat && s.beyondSpan i c value.toInt)) = true → (t.cell i c).meas = none ∧ (t.cell i c).err = 2 ∧
        (t.cell i c).result = q.result ∧ (t.cell i c).flags.getLsbD 8 = true) ∧
      (m.total ≤ m.done + 1 → (m.saturated || (sat && s.beyondSpan i c value.toInt)) = false → (t.cell i c).meas = none ∧ (t.cell i c).err = 0 ∧
        (t.cell i c).samples = m.total ∧ (t.cell i c).flags.getLsbD 8 = true ∧ ∃ r : Int, (t.cell i c).result = BitVec.ofInt 32 r ∧
          ((m.sum + value.toInt) % m.total = 0 → r = (m.sum + value.toInt) / m.total) ∧
          (r = (m.sum + value.toInt) / m.total ∨ r = (m.sum + value.toInt) / m.total + 1)))

/-- When its switches have closed a unit is connected and, but in CAL, moves to SETPOINT and AMPL. A slewed quantity that ends
its move stands at its target, and a unit that waited for that to open opens. A range switch leaves the new stage with the
held value and no change in progress. The supervision of a unit that opens ends. A qualified condition of Table 7.3 sets its
flag and is presented when the flag is new or when its record is gone; an open load in CURRENT mode stands in place of
COMPLIANCE. Local sense ends. A limit sets LIMITED and holds the working code at the sensed output, in CURRENT mode at I_eff; a
flag clear leaves LIMITED while it acts, and a flag caused in its cycle; it releases. Outside READY, RUNNING and UNPARK a
committed OUTPUT switches nothing.
Where it rests on a choice or an inference of the model: log entries 9, 703, 705, 802. -/
def Obligations.BridgeOutputs : Prop :=
  ∀ (s : State) (i : Fin 64) (u : Fin 2), let b := s.bridge i u
    (b.closing = true → ∃ t, exec (.switchesClosed i u) s = .next t ∧ (t.bridge i u).connected = true ∧
      (t.bridge i u).closing = false ∧ (s.siteState i ≠ .cal → (t.bridge i u).offset.goal = s.buSetpoint i u ∧
        (t.bridge i u).ampl.goal = s.buAmpl i u) ∧
      t = { s with sites := t.sites } ∧ Claims.OtherSites s t i ∧ ∀ v, v ≠ u → t.bridge i v = s.bridge i v) ∧
    (∀ amp, (b.quantity amp).isMoving = true → ∃ t, exec (.slewMoveDone i u amp) s = .next t.superviseEnd ∧
      let w := s.advance ((b.quantity amp).restTime s.clock)
      (b.opening = none → (t.bridge i u).quantity amp = .still (b.quantity amp).goal ∧
        (t.bridge i u).quantity (!amp) = b.quantity (!amp) ∧ (t.bridge i u).connected = b.connected) ∧
      (b.opening.isSome = true → b.range = none → (b.quantity (!amp)).isMoving = false → (t.bridge i u).connected = false ∧
        (t.bridge i u).offset = .still (s.buPreset i u)) ∧
      t = { w with sites := t.sites } ∧ Claims.OtherSites w t i) ∧
    (∀ r, b.range = some r → r.switching = true → ∃ t, exec (.rangeSwitchDone i u) s = .next t.superviseEnd ∧
      (t.bridge i u).range = none ∧ (t.bridge i u).gain = bitOf (s.buRange i u) 1 ∧
      (s.siteState i ≠ .safe → b.opening = none → b.limit = false → s.buCurrent i u = false → (t.bridge i u).offset.goal = s.buSetpoint i u) ∧
      t = { s with sites := t.sites } ∧ Claims.OtherSites s t i) ∧
    (∀ x : BitVec 16, b.connected = true →
      let w (k : Nat) := s.modBridge i u fun b => { b.setFlag s.cycle k with localSense := b.localSense || decide (k = 2) }
      let r (k : Nat) : State :=
        if (b.flags.getLsbD k || (decide (b.cleared.1 = s.cycle) && b.cleared.2.getLsbD k)) && !s.standsGone (.ofCell i u.val) (0x40 + k)
        then w k else (w k).presentObj (.ofCell i u.val) (0x40 + k) (0x4087 + 0x100 * i.val) (u.val + 1)
      let en (k : Nat) := bitOf (s.buCtrl i u) (6 + k)
      (en 2 = true → exec (.supervisionQualify i u .senseOpen) s = .next (r 2)) ∧
      (en 0 = true → s.buCurrent i u = false → exec (.supervisionQualify i u (.compliance x)) s = .next (r 0)) ∧
      (en 1 = true → s.buCurrent i u = false → x.toInt.natAbs < 20 → b.slewBusy = false → b.setHigh s.clock = true →
        exec (.supervisionQualify i u (.openLoad x)) s = .next (r 1)) ∧
      (en 1 = true → s.buCurrent i u = true → b.openCurrent s.clock x.toInt = true →
        exec (.supervisionQualify i u (.compliance x)) s = .next (r 1) ∧ exec (.supervisionQualify i u (.openLoad x)) s = .next (r 1))) ∧
    exec (.localSenseEnd i u) s = .next (s.modBridge i u fun b => { b with localSense := false }) ∧
    (∀ x : BitVec 16, b.connected = true →
      (s.buCurrent i u = true → s.buLimitCode i u < b.peak s.cycle) →
      (s.buCurrent i u = false → b.wave ≠ 0 ∨ (0 ≤ x.toInt * b.offset.code s.cycle ∧ x.toInt.natAbs ≤ (b.offset.code s.cycle).natAbs)) →
      ∃ t, exec (.limitOnset i u x) s = .next t ∧ (t.bridge i u).limit = true ∧ (t.bridge i u).flags.getLsbD 3 = true ∧
      (b.wave = 0 → b.range = none → s.buCurrent i u = false → (t.bridge i u).offset = .still x.toInt) ∧
      (b.wave = 0 → b.range = none → s.buCurrent i u = true → ∃ y : Int, (t.bridge i u).offset = .still y ∧
        (y.natAbs : Int) = s.buLimitCode i u) ∧
      (b.wave ≠ 0 → (t.bridge i u).offset = b.offset) ∧ t = { s with sites := t.sites } ∧ Claims.OtherSites s t i) ∧
    (b.limit = true → s.buCurrent i u = false ∨ ((s.buGoal i u).natAbs : Int) ≤ s.buLimitCode i u →
      ∃ t, exec (.limitRelease i u) s = .next t.superviseEnd ∧ (t.bridge i u).limit = false ∧
      (b.range = none → s.siteState i ≠ .safe → b.opening = none → (t.bridge i u).offset.goal = s.buSetpoint i u) ∧
      t = { s with sites := t.sites } ∧ Claims.OtherSites s t i) ∧
    (∀ v k, k < 4 → ((s.buFlagClear i u v).bridge i u).flags.getLsbD k =
      (b.flags.getLsbD k && !(v.testBit k && !((decide (b.caused.1 = s.cycle) && b.caused.2.getLsbD k) || (b.limit && decide (k = 3)))))) ∧
    (s.buLive i = false → (s.site i).ctl.trans ≠ some .unpark → s.buOutputEffect i u = s)

/-- Acquisition starts at the next CK_MOD edge, with T_START 130 CK_MOD cycles later. The first three outputs are discarded; the
fourth is sample 0 at T_START, and output j enters the site DSP's input FIFO with its value pair when its window has ended; a
FIFO that holds 128 entries loses it and counts it. In ECONOMY, or with acquisition stopped, nothing is put out. A committed
ACQ starts acquisition in the states in which a unit acquires, and OFF stops it.
Where it rests on a choice or an inference of the model: log entries 801, 802. -/
def Obligations.Acquisition : Prop :=
  ∀ (s : State) (i : Fin 64) (u : Fin 2) (sig ref : BitVec 32) (ovr : BitVec 3), let b := s.bridge i u
    (b.acq ≠ .stopped → s.fastClocks = true → b.outputs < 3 → exec (.sinc4Output i u sig ref ovr) s =
      .next (s.modBridge i u fun b => { b with outputs := b.outputs + 1 })) ∧
    (b.acq ≠ .stopped → s.fastClocks = true → 3 ≤ b.outputs → (s.dsp i).inq.length < 128 →
      let instant := addGrains b.tStart ((b.outputs - 3) * sincGrains : Nat)
      (((s.advance (addGrains instant 5040000)).dspWake i).bridge i u).acq ≠ .stopped → ∃ t e, exec (.sinc4Output i u sig ref ovr) s = .next t ∧ (t.dsp i).inq = (s.dsp i).inq ++ [e] ∧ e.w0 = sig ∧ e.w1 = ref ∧
        t.clock = laterOf s.clock (addGrains instant 5040000) ∧ e.w2 = b.phaseAt instant ∧ (t.bridge i u).outputs = b.outputs + 1 ∧
        (b.acq = .starting → s.siteState i ≠ .cal → (t.bridge i u).acq = .running ∧ (t.bridge i u).t0 = b.tStart) ∧
        (b.acq ≠ .starting → (t.bridge i u).acq = b.acq)) ∧
    (b.acq = .stopped ∨ s.fastClocks = false → exec (.sinc4Output i u sig ref ovr) s = .next s) ∧
    (let t := s.acqStart i u;
      (t.bridge i u).acq = .starting ∧ (t.bridge i u).outputs = 0 ∧
      (t.bridge i u).tStart = addGrains s.nextMod (130 * modGrains : Nat) ∧ Claims.OtherSites s t i) ∧
    (∀ old, field old 1 0 ≠ 1 → field (s.adcCfg i u) 1 0 = 1 →
      s.siteState i = .ready ∨ s.siteState i = .running ∨ s.siteState i = .safe ∨ s.siteState i = .cal →
      s.buAdcEffect i u old = s.acqStart i u) ∧
    (∀ old, field old 1 0 ≠ 0 → field (s.adcCfg i u) 1 0 = 0 → ((s.buAdcEffect i u old).bridge i u).acq = .stopped)


/-- A due NOP, LDI, LDH, ADDI, ALU, CMPI, CMP, LD, ST, WIN or MFLAG takes one cycle and leaves exactly the register, the flags and
the scratch word that its row of Table 9.3 names: C is the carry of an addition and the borrow of a subtraction, V the signed
overflow; the other ALU functions clear both; NOP, LDI, LDH, LD and ST change no flag. Where it rests on a choice or an
inference of the model: log entries 12, 901. -/
def Obligations.MseArithmetic : Prop :=
  ∀ (s : State) (i : Fin 64) (w : BitVec 24), let m := s.mse i; let d := uRd w; let a := m.gr (uRa w); let b := m.gr (uRb w)
    let imm : BitVec 32 := (uImm w).signExtend 32
    (Claims.MseDue s i w 0x00 → exec (.mseNop i) s = .next (Claims.mseNexts s i m)) ∧
    (Claims.MseDue s i w 0x01 → exec (.mseLdi i) s = .next (Claims.mseNexts s i (m.put d (BitVec.ofNat 32 (uImm w).toNat)))) ∧
    (Claims.MseDue s i w 0x02 → exec (.ldh i) s = .next (Claims.mseNexts s i
      (m.put d (BitVec.ofNat 32 ((uImm w).toNat * 65536 + (m.gr d).toNat % 65536))))) ∧
    (Claims.MseDue s i w 0x03 → exec (.mseAddi i) s = .next (Claims.mseNexts s i { m.put d (m.gr d + imm) with
      z := decide (m.gr d + imm = 0), n := (m.gr d + imm).msb, c := decide (2 ^ 32 ≤ (m.gr d).toNat + imm.toNat),
      v := decide ((m.gr d + imm).toInt ≠ (m.gr d).toInt + imm.toInt) })) ∧
    (Claims.MseDue s i w 0x04 → uFn w = 0 → exec (.mseAlu i) s = .next (Claims.mseNexts s i { m.put d (a + b) with
      z := decide (a + b = 0), n := (a + b).msb, c := decide (2 ^ 32 ≤ a.toNat + b.toNat),
      v := decide ((a + b).toInt ≠ a.toInt + b.toInt) })) ∧
    (Claims.MseDue s i w 0x04 → uFn w = 1 → exec (.mseAlu i) s = .next (Claims.mseNexts s i { m.put d (a - b) with
      z := decide (a = b), n := (a - b).msb, c := decide (a.toNat < b.toNat),
      v := decide ((a - b).toInt ≠ a.toInt - b.toInt) })) ∧
    (Claims.MseDue s i w 0x04 → ∀ r : BitVec 32, (uFn w, r) ∈
        [(2, a &&& b), (3, a ||| b), (4, a ^^^ b), (5, a <<< (b.toNat % 32)), (6, a >>> (b.toNat % 32)),
         (7, a.sshiftRight (b.toNat % 32)), (8, BitVec.ofInt 32 ((a.setWidth 16).toInt * (b.setWidth 16).toInt)),
         (9, if a.toInt < b.toInt then a else b), (10, if a.toInt < b.toInt then b else a), (11, a)] →
      exec (.mseAlu i) s = .next (Claims.mseNexts s i { m.put d r with z := decide (r = 0), n := r.msb, c := false, v := false })) ∧
    (Claims.MseDue s i w 0x05 → exec (.cmpi i) s = .next (Claims.mseNexts s i { m with
      z := decide (m.gr d = imm), n := (m.gr d - imm).msb, c := decide ((m.gr d).toNat < imm.toNat),
      v := decide ((m.gr d - imm).toInt ≠ (m.gr d).toInt - imm.toInt) })) ∧
    (Claims.MseDue s i w 0x06 → exec (.mseCmp i) s = .next (Claims.mseNexts s i { m with
      z := decide (a = b), n := (a - b).msb, c := decide (a.toNat < b.toNat),
      v := decide ((a - b).toInt ≠ a.toInt - b.toInt) })) ∧
    (Claims.MseDue s i w 0x1C → exec (.mseLd i) s = .next (Claims.mseNexts s i
      (m.put d (sparseGet m.scratch ((a.toNat + field w.toNat 9 0) % 256) 0)))) ∧
    (Claims.MseDue s i w 0x1D → exec (.mseSt i) s = .next (Claims.mseNexts s i
      { m with scratch := sparseSet m.scratch ((a.toNat + field w.toNat 9 0) % 256) (m.gr d) 0 })) ∧
    (Claims.MseDue s i w 0x1E → exec (.win i) s = .next (Claims.mseNexts s i
      { m with inw := decide (a.toInt ≤ (m.gr d).toInt) && decide ((m.gr d).toInt ≤ b.toInt) })) ∧
    (Claims.MseDue s i w 0x15 → ∃ t, exec (.mflag i) s = .next t ∧ (t.mse i).flag = (m.gr d).getLsbD 0 ∧
      t.modMse i (fun n => { n with flag := m.flag }) = (((Claims.mseNexts s i m).modPsq i fun _ => t.psq i)))

/-- BR goes to its target exactly when its condition of Table 9.5 holds; CALL then pushes the next address, RET pops, and a fifth
CALL and a RET on the empty stack stop the routine with MSE_STACK; DJNZ counts down. WAITC and WAITR wait their cycles; WAITE
ends at once when its event holds and waits otherwise; a wait's end goes on, with TO clear when the event came and set when
the timeout passed. END completes the routine and leaves G0 as RET; FAULT presents MSE_USER and goes on. A microword at a
reserved address, or with a reserved field, stops the routine with MSE_ILLEGAL. Where it rests on a choice or an inference of
the model: log entries 12, 902, 904, 907, 908. -/
def Obligations.MseFlow : Prop :=
  ∀ (s : State) (i : Fin 64) (w : BitVec 24), let m := s.mse i; let u := Claims.mseAt s i
    let on (m' : Mse) := Claims.mseNexts s i m'
    let go (m' : Mse) := Claims.mseGoes s i m' (uTarget w) 1
    (∀ h, (uCond w, h) ∈ [(0, true), (1, m.z), (2, !m.z), (3, m.n != m.v), (4, m.n == m.v), (5, !m.z && m.n == m.v),
        (6, m.z || m.n != m.v), (7, m.c), (8, !m.c), (9, m.rj), (10, !m.rj), (11, m.tmo), (12, m.inw), (13, !m.inw),
        (14, (u.dsp i).flagAt u.clock)] →
      (Claims.MseDue s i w 0x07 → exec (.mseBr i) s = .next (if h then go m else on m)) ∧
      (Claims.MseDue s i w 0x08 → h = false → exec (.mseCall i) s = .next (on m)) ∧
      (Claims.MseDue s i w 0x08 → h = true → m.stack.length < 4 →
        exec (.mseCall i) s = .next (go { m with stack := (m.upc + 1) :: m.stack })) ∧
      (Claims.MseDue s i w 0x08 → h = true → 4 ≤ m.stack.length →
        ∃ t, exec (.mseCall i) s = .next t ∧ Claims.MseFaulted s i t 0x52)) ∧
    (∀ a rest, Claims.MseDue s i w 0x09 → m.stack = a :: rest →
      exec (.mseRet i) s = .next (Claims.mseGoes s i { m with stack := rest } a 1)) ∧
    (Claims.MseDue s i w 0x09 → m.stack = [] → ∃ t, exec (.mseRet i) s = .next t ∧ Claims.MseFaulted s i t 0x52) ∧
    (Claims.MseDue s i w 0x0A → exec (.djnz i) s = .next
      (let m' := m.put (uRd w) (m.gr (uRd w) - 1); if m.gr (uRd w) = 1 then on m' else go m')) ∧
    (Claims.MseDue s i w 0x0B → exec (.waitc i) s = .next (if (uImm w).toNat = 0 then on m else
      u.modMse i fun _ => { m with state := .wait, waiting := some (.cycles (uImm w).toNat), dueAt := u.cycle })) ∧
    (Claims.MseDue s i w 0x1F → let n := (m.gr (uRd w)).toNat % 2 ^ 24
      exec (.waitr i) s = .next (if n = 0 then on m else
        u.modMse i fun _ => { m with state := .wait, waiting := some (.cycles n), dueAt := u.cycle })) ∧
    (Claims.MseDue s i w 0x0C → uNoSource (uCond w) (uEvIndex w) = false →
      let pubs := (u.bridge i (Fin.ofNat 2 (uEvIndex w))).pubs
      exec (.waite i) s = .next (if u.uEvent i (uCond w) (uEvIndex w) pubs then on { m with tmo := false } else
        u.modMse i fun _ => { m with
          state := .wait, waiting := some (.event (uCond w) (uEvIndex w) ((m.gr (uRt w)).toNat % 2 ^ 24) pubs),
          dueAt := u.cycle })) ∧
    (∀ n, m.state = .wait → m.waiting = some (.cycles n) → ∃ t, exec (.mseWaitEnd i) s = .next t ∧ (t.mse i).state = .run ∧
      (t.mse i).upc = m.upc + 1 ∧ let v := s.advance (addGrains m.dueAt (n * s.seqLen : Nat))
      t = { v with sites := t.sites } ∧ Claims.OtherSites v t i) ∧
    (∀ ev ix lim pubs, m.state = .wait → m.waiting = some (.event ev ix lim pubs) → uNoSource ev ix = false →
      let v := s.dspWake i; let holds := v.uEvent i ev ix pubs && !v.uExpired i lim
      ∃ t, exec (.mseWaitEnd i) s = .next t ∧ Claims.OtherEngines s t i ∧
        (holds = true → (t.mse i).state = .run ∧ (t.mse i).tmo = false ∧ (t.mse i).upc = m.upc + 1) ∧
        (holds = false → lim = 0 → t = v) ∧
        (holds = false → lim ≠ 0 → (t.mse i).state = .run ∧ (t.mse i).tmo = true ∧ (t.mse i).upc = m.upc + 1 ∧
          t.clock = laterOf s.clock (addGrains m.dueAt (lim * s.seqLen : Nat)))) ∧
    (Claims.MseDue s i w 0x18 → ∃ t, exec (.mseEnd i) s = .next t ∧ (t.mse i).state = .idle ∧
      (t.mse i).result = .completed ∧ (t.mse i).ret = m.gr 0 ∧ (t.mse i).window = false ∧
      (t.mse i).abortLate = (m.abortLate || u.endLate i) ∧ (m.deferred.isSome = true → (t.mse i).abortLate = true) ∧
      (t.mse i).deferred = none ∧ Claims.OtherEngines s t i) ∧
    (Claims.MseDue s i w 0x19 → exec (.mseFault i) s =
      .next ((u.uNext i 1).present (.ofSite i) 0x53 (uImm w).toNat 0)) ∧
    (∀ c ∈ [Instr.mseNop i, .mseLdi i, .ldh i, .mseAddi i, .mseAlu i, .cmpi i, .mseCmp i, .mseBr i, .mseCall i, .mseRet i,
        .djnz i, .waitc i, .waite i, .setdac i, .setrng i, .rdres i, .pmeas i, .rdpm i, .rdst i, .post i, .mflag i, .stg i,
        .commit i, .mseEnd i, .mseFault i, .rdmb i, .rdt i, .mseLd i, .mseSt i, .win i, .waitr i],
      m.state = .run → m.waiting = none → m.fetch m.upc = none → ∃ t, exec c s = .next t ∧ Claims.MseFaulted s i t 0x50) ∧
    (∀ e ∈ [(0x04, Instr.mseAlu i), (0x07, .mseBr i), (0x08, .mseCall i), (0x0C, .waite i), (0x0D, .setdac i),
        (0x0E, .setrng i), (0x10, .rdres i), (0x13, .rdst i)],
      m.state = .run → m.waiting = none → m.fetch m.upc = some w → uOp w = e.1 → uLegal w = false →
        ∃ t, exec e.2 s = .next t ∧ Claims.MseFaulted s i t 0x50)

/-- SETDAC and SETRNG apply their field as a commit of the MSE would and clear RJ; a value that the encoding or the owning chapter
refuses sets RJ and changes nothing else, and one that a commit of the same cycle supersedes only clears RJ. ACQ starts or
stops its unit's acquisition (start only with ACQ = MSE), PMEAS starts a measurement only where a START could; both else set
RJ. RDRES with sel 7 latches the last result and the others read the latch; RDPM reads PC_MEAS with RJ showing an error; RDST
a status word; RDT latches the upper grain bits. POST queues its entry, or waits while 16 stand there; its stall ends with
room. RDMB takes the oldest word, or 0 with Z set. Where it rests on a choice or an inference of the model: log entries 903,
904, 905. -/
def Obligations.MseExchange : Prop :=
  ∀ (s : State) (i : Fin 64) (w : BitVec 24), let m := s.mse i; let u := Claims.mseAt s i
    let on (m' : Mse) := Claims.mseNexts s i m'
    let d := uRd w
    (∀ e ∈ [(Instr.setdac i, 0x0D, dacTarget (uSel w) (uIndex w), (m.gr d).toNat % 65536),
            (.setrng i, 0x0E, rngTarget (uSel w) (uIndex w), (m.gr d).toNat % 256)], Claims.MseDue s i w e.2.1 →
      (e.2.2.1 = none → exec e.1 s = .next (on { m with rj := true })) ∧
      (∀ f r n, e.2.2.1 = some f → rowAt (siteAddr i f.off f.sub) = some (r, n) →
        let addr := siteAddr i f.off f.sub
        let new := f.fill (u.val addr) e.2.2.2
        (2 ^ f.wid ≤ e.2.2.2 → exec e.1 s = .next (on { m with rj := true })) ∧
        (e.2.2.2 < 2 ^ f.wid → u.superseded addr = true → exec e.1 s = .next (on { m with rj := false })) ∧
        (e.2.2.2 < 2 ^ f.wid → u.superseded addr = false →
          (∀ k, u.acceptValue r addr new = .refused k → exec e.1 s = .next (on { m with rj := true })) ∧
          (u.uMeasBusy i f (u.val addr) new = true → exec e.1 s = .next (on { m with rj := true })) ∧
          ∀ v, u.uMeasBusy i f (u.val addr) new = false → u.acceptValue r addr new = .ok v →
            u.checkFail .single [(addr, v)] [] = none → xipFail u.spm.queue.length [(addr, v)] = none →
            exec e.1 s = .next (((u.applyTxns [Claims.mseTxn [(addr, v)]]).uReject i false).uNext i 1)))) ∧
    (Claims.MseDue s i w 0x0F → uSel w = 0 → ∃ t, exec (.mseAcqStart i) s = .next t ∧ Claims.MseOn s i t ∧
      (∀ k : Fin 2, uIndex w = k.val → field (s.adcCfg i k) 1 0 = 2 → (t.mse i).rj = false ∧
        (t.bridge i k).acq = .starting ∧ (t.mse i).acqUnits = m.acqUnits ||| (1#2 <<< k.val)) ∧
      (2 ≤ uIndex w ∨ (∃ k : Fin 2, uIndex w = k.val ∧ field (s.adcCfg i k) 1 0 ≠ 2) → t = on { m with rj := true })) ∧
    (Claims.MseDue s i w 0x0F → uSel w = 1 → ∃ t, exec (.mseAcqStop i) s = .next t ∧ Claims.MseOn s i t ∧
      (∀ k : Fin 2, uIndex w = k.val → (t.mse i).rj = false ∧ ((t.bridge i k).stopAfter = true ∨ (u.bridge i k).acq = .stopped) ∧
        (t.mse i).acqUnits.getLsbD k.val = false) ∧
      (2 ≤ uIndex w → t = on { m with rj := true })) ∧
    (∀ k : Fin 2, Claims.MseDue s i w 0x10 → uIndex w = k.val → let b := u.bridge i k
      let ext (x : BitVec 64) : BitVec 32 := (BitVec.ofNat 16 (x.toNat / 2 ^ 32)).signExtend 32
      (uSel w = 7 → exec (.rdres i) s = .next (on { m.put d (b.meta_.setWidth 32) with latch := some b.published })) ∧
      (∀ r v, m.latch = some r → (uSel w, v) ∈ [(0, r.ratio.setWidth 32), (1, ext r.ratio), (2, r.sig.setWidth 32),
          (3, ext r.sig), (4, r.ref.setWidth 32), (5, ext r.ref), (6, BitVec.ofNat 32 (field r.meta_.toNat 47 32))] →
        exec (.rdres i) s = .next (on (m.put d v)))) ∧
    (∀ c : Fin 8, Claims.MseDue s i w 0x11 → uIndex w = c.val → ∃ t, exec (.pmeas i) s = .next t ∧ Claims.MseOn s i t ∧
      ((s.cell i c).meas = none → s.ppmuOwns i c = true → s.siteState i = .ready ∨ s.siteState i = .running →
        (t.mse i).rj = false ∧ (t.cell i c).meas.isSome = true) ∧
      ((s.cell i c).meas ≠ none ∨ s.ppmuOwns i c = false ∨ (s.siteState i ≠ .ready ∧ s.siteState i ≠ .running) →
        t = on { m with rj := true })) ∧
    (∀ c : Fin 8, Claims.MseDue s i w 0x12 → uIndex w = c.val → exec (.rdpm i) s = .next
      (on { m.put d (s.cell i c).result with rj := decide ((s.cell i c).err ≠ 0) })) ∧
    (Claims.MseDue s i w 0x13 → uAbsent (uSel w) (uIndex w) = false →
      exec (.rdst i) s = .next (on (m.put d (u.uStatus i (uSel w) (uIndex w))))) ∧
    (Claims.MseDue s i w 0x14 → ∃ e : BitVec 64, e.setWidth 32 = m.gr d ∧ e.extractLsb' 32 8 = BitVec.ofNat 8 (field w.toNat 15 8) ∧
      e.extractLsb' 40 16 = m.runId ∧
      (m.toDsp.length < 16 → exec (.post i) s = .next (on { m with toDsp := m.toDsp ++ [e] })) ∧
      (16 ≤ m.toDsp.length → exec (.post i) s = .next
        (u.modMse i fun _ => { m with state := .wait, waiting := some (.post e), dueAt := u.cycle }))) ∧
    (∀ e, m.waiting = some (.post e) → (m.toDsp.length < 16 → ∃ t, exec (.postStallEnd i) s = .next t ∧
        (t.mse i).toDsp = m.toDsp ++ [e] ∧ (t.mse i).state = .run ∧ (t.mse i).upc = m.upc + 1 ∧ t = { s with sites := t.sites } ∧
        Claims.OtherSites s t i) ∧
      (16 ≤ m.toDsp.length → exec (.postStallEnd i) s = .next s)) ∧
    (Claims.MseDue s i w 0x1A → exec (.rdmb i) s = .next (on (match m.fromDsp with
      | [] => { m.put d 0 with z := true }
      | x :: xs => { m.put d x with z := false, fromDsp := xs }))) ∧
    (Claims.MseDue s i w 0x1B → let g := grains (u.cycle)
      ((uImm w).toNat = 0 → exec (.rdt i) s =
        .next (on { m.put d (BitVec.ofNat 32 (g % 2 ^ 32)) with tLatch := BitVec.ofNat 20 (g / 2 ^ 32) })) ∧
      ((uImm w).toNat = 1 → exec (.rdt i) s = .next (on (m.put d (BitVec.ofNat 32 m.tLatch.toNat)))))

/-- STG appends its write, or stops the routine with MSE_STAGE where the address may not be named or 16 writes stand. COMMIT of a
sound set applies all of it in the third cycle, opens the committed window and clears RJ; a refused one empties the staging
buffer, sets RJ and opens no window; one inside an open window is MSE_STAGE. A committed START captures its parameters, counts
RUN_ID and loads the routine. A STOP outside the window leaves IDLE and STOPPED, inside it is deferred. A restart repeats the
captured parameters with RUN_ID kept, until the limit. A timeout presents MSE_TIMEOUT, and inside the window is deferred; in
the cycle of END a STOP or a timeout is deferred too. A deferral that expires abandons the routine. A PENDING trim record is
DONE or FAILED as its pattern ended. A load's end applies the store's CRC. Where it rests on a choice or an inference of the
model: log entries 902, 906, 907. -/
def Obligations.MseRoutine : Prop :=
  ∀ (s : State) (i : Fin 64) (w : BitVec 24), let m := s.mse i; let u := Claims.mseAt s i
    (Claims.MseDue s i w 0x16 → let a := (m.gr (uRb w)).toNat % 65536
      (stageable i a = true → m.staging.length < 16 → exec (.stg i) s = .next (Claims.mseNexts s i { m with
        staging := m.staging ++ [(a, (if (uFn w).testBit 0 then m.gr (uRa w) else 0) ++ m.gr (uRd w))] })) ∧
      (stageable i a = false ∨ 16 ≤ m.staging.length → ∃ t, exec (.stg i) s = .next t ∧ Claims.MseFaulted s i t 0x51)) ∧
    (Claims.MseDue s i w 0x17 → m.staging ≠ [] → m.deferred = none →
      let x := u.advance (addGrains (u.cycleAt m.dueAt) (2 * u.seqLen : Nat))
      (∀ es trims, x.commitSet i = some (es, trims) → m.window = false → exec (.commit i) s = .next
        ((((x.modMse i fun m => { m with staging := [], window := true }).applyTxns
          [Claims.mseTxn es]).forEach trims fun e s => s.trimPending i e).uReject i false |>.uNext i 1)) ∧
      (x.commitSet i = none → ∃ t, exec (.commit i) s = .next t ∧ (t.mse i).rj = true ∧ (t.mse i).staging = [] ∧
        (t.mse i).window = m.window ∧ (t.mse i).upc = m.upc + 1 ∧ t = { x with sites := t.sites } ∧
        Claims.OtherSites x t i) ∧
      ((x.commitSet i).isSome = true → m.window = true → ∃ r : State, exec (.commit i) s = .next
        ((r.present (.ofSite i) 0x51 m.upc.toNat 0).engineIdle i) ∧ (r.mse i).state = .idle ∧ (r.mse i).result = .fault ∧
        r.dict = s.dict)) ∧
    (let t := s.mseStart i; let n := t.mse i
      n.state = .run ∧ n.upc = s.mseEntry i (s.siteCfg i 0xA0 2) ∧ n.runId = m.runId + 1 ∧ n.restarts = 0 ∧ n.window = false ∧
      n.stack = [] ∧ n.staging = [] ∧ n.z = false ∧ n.n = false ∧ n.c = false ∧ n.v = false ∧ n.rj = false ∧
      (∀ k : Fin 4, n.g[k.val] = BitVec.ofNat 32 (s.siteCfg i 0xA0 (3 + k.val)) ∧ n.g[k.val + 4] = 0) ∧
      (s.siteState i = .ready → t.siteState i = .running) ∧ t = { s with sites := t.sites } ∧ Claims.OtherSites s t i) ∧
    (m.state.busy = true → s.mseDefers i 1 = false → let n := (s.mseCause i 1).mse i
      n.state = .idle ∧ n.result = .stopped ∧ n.cause = 1 ∧ n.staging = []) ∧
    (∀ k, m.state.busy = true → m.window = true → m.deferred = none → let n := (s.mseCause i k).mse i
      n.state = m.state ∧ n.window = true ∧ n.deferred = some k ∧ n.deferFrom = s.clock) ∧
    (s.restartDue i = true → m.restarts < field (s.siteCfg i 0xA0 7) 3 0 → ∃ t, exec (.mseRestart i) s = .next t ∧
      (t.mse i).state = .run ∧ (t.mse i).upc = s.mseEntry i m.slot ∧ (t.mse i).restarts = m.restarts + 1 ∧
      (t.mse i).runId = m.runId ∧ (∀ k : Fin 4, (t.mse i).g[k.val] = m.params[k.val]) ∧ t = { s with sites := t.sites } ∧
      Claims.OtherSites s t i) ∧
    (s.restartDue i = true → field (s.siteCfg i 0xA0 7) 3 0 ≤ m.restarts → ∃ r : State, exec (.mseRestart i) s = .next
      ((r.present (.ofSite i) 0x55 m.upc.toNat 0).engineIdle i) ∧ (r.mse i).state = .idle ∧ (r.mse i).result = .restartLimit) ∧
    (s.restartDue i = false → exec (.mseRestart i) s = .next s) ∧
    (m.state.busy = true → field (s.siteCfg i 0xA0 7) 31 16 ≠ 0 →
      let v := s.advance (addGrains m.began (field (s.siteCfg i 0xA0 7) 31 16 * usGrains : Nat))
      (v.mseDefers i 6 = false → ∃ r : State, exec (.mseTimeout i) s = .next
        ((r.present (.ofSite i) 0x54 m.upc.toNat 0).engineIdle i) ∧ (r.mse i).state = .idle ∧ (r.mse i).result = .timeout ∧
        r = { v with sites := r.sites } ∧ Claims.OtherSites v r i) ∧
      (m.window = true → ∃ t, exec (.mseTimeout i) s = .next t ∧
        (t.mse i).state = m.state ∧ (t.mse i).window = true ∧ (t.mse i).deferred = some (m.deferred.getD 6) ∧
        t = { v with sites := t.sites } ∧ Claims.OtherSites v t i)) ∧
    (∀ k, m.state.busy = true → m.window = true → m.deferred = some k → ∃ t, exec (.deferExpiry i) s = .next t ∧
      (t.mse i).state = .idle ∧ (t.mse i).result = .abandoned ∧ (t.mse i).cause = k ∧ (t.mse i).window = false) ∧
    ((s.psq i).state = .idle → ∃ t, exec (.trimCompletion i) s = .next t ∧ ∀ k : Fin 2, let r := m.trims[k.val]
      (r.status = 1 → (t.mse i).trims[k.val] = { r with status :=
        if (s.psq i).stopCause = .halt ∧ (s.psq i).fail = false ∧ (s.psq i).cellFail &&& r.cells = 0 then 2 else 3 }) ∧
      (r.status ≠ 1 → (t.mse i).trims[k.val] = r)) ∧
    (∀ x, m.landed = some x → ∃ t, exec (.mseLoadDone i) s = .next t ∧ (t.mse i).landed = none ∧
      (t.mse i).crc = crc32 m.storeBytes ∧ (t.mse i).store = m.store) ∧
    (m.landed = none → exec (.mseLoadDone i) s = .next s)


/-- A due arithmetic operation leaves exactly its row of Table 10.4, in either arithmetic slot: a register result is on its way
with its latency; an accumulator takes the exact result where it fits 80 bits, and the nearer limit with its OVF bit where not
(ARITH is presented when FLAGS.OVF rises); EXT saturates to 32 bits with EXT_SAT. An illegal bundle is not executed: its first
slot stops the DSP with FAULT and presents DSP_ILLEGAL.
Where it rests on a choice or an inference of the model: log entries 12. -/
def Obligations.DspArithmetic : Prop :=
  ∀ (s : State) (i : Fin 64) (k : Fin 2) (w : Nat), let u := s.dspIssue i; let d := u.dsp i; let slot := arithSlot k
    let x := d.x (kRd w); let y := d.x (kRa w); let a := d.x (kMa w); let b := d.x (kMb w)
    let lo (v : BitVec 32) : Int := (v.setWidth 16).toInt; let hi (v : BitVec 32) : Int := (v.extractLsb' 16 16).toInt
    let acc : Int := (d.acc[(kAcc w).val]).toInt; let n := y.toNat % 64; let imm := kImm9 w
    let src := d.accSrc (kEacc w)
    (∀ c : Instr, ∀ op lat : Nat, ∀ r : BitVec 32, (c, op, lat, r) ∈
        [(Instr.dspAdd i k, 0x0D, 1, BitVec.ofInt 32 (x.toInt + y.toInt)), (.dspSub i k, 0x0E, 1, BitVec.ofInt 32 (x.toInt - y.toInt)),
         (.dspAdds i k, 0x0F, 1, BitVec.ofInt 32 (Claims.held 32 (x.toInt + y.toInt))),
         (.dspSubs i k, 0x10, 1, BitVec.ofInt 32 (Claims.held 32 (x.toInt - y.toInt))),
         (.dspAnd i k, 0x11, 1, x &&& y), (.dspOr i k, 0x12, 1, x ||| y), (.dspXor i k, 0x13, 1, x ^^^ y), (.dspMov i k, 0x14, 1, y),
         (.dspNeg i k, 0x15, 1, BitVec.ofInt 32 (Claims.held 32 (-y.toInt))),
         (.dspAbs i k, 0x16, 1, BitVec.ofInt 32 (Claims.held 32 y.toInt.natAbs)),
         (.dspMin i k, 0x17, 1, if x.toInt < y.toInt then x else y), (.dspMax i k, 0x18, 1, if x.toInt < y.toInt then y else x),
         (.dspShl i k, 0x19, 1, BitVec.ofNat 32 (x.toNat * 2 ^ n)), (.dspShra i k, 0x1A, 1, BitVec.ofInt 32 (x.toInt / 2 ^ n)),
         (.dspShrl i k, 0x1B, 1, BitVec.ofNat 32 (x.toNat / 2 ^ n)), (.dspMul i k, 0x1C, 3, BitVec.ofInt 32 (x.toInt * y.toInt)),
         (.dspMulh i k, 0x1D, 3, BitVec.ofInt 32 (x.toInt * y.toInt / 2 ^ 32)),
         (.dspAddi i k, 0x1E, 1, BitVec.ofInt 32 (x.toInt + imm)),
         (.dspShi i k, 0x1F, 1, if 0 ≤ imm then BitVec.ofNat 32 (x.toNat * 2 ^ imm.toNat) else BitVec.ofInt 32 (x.toInt / 2 ^ (-imm).toNat)),
         (.dspAget i k, 0x0B, 2, match kSh w with
           | 0 => src.setWidth 32
           | 1 => src.extractLsb' 32 32
           | _ => BitVec.ofInt 32 (src.extractLsb' 64 16).toInt)] →
      Claims.DspDue s i slot w op → exec c s = .next (Claims.dspGoes s i slot fun d => d.write (kRd w) lat r)) ∧
    (∀ c : Instr, ∀ op : Nat, ∀ v : Int, (c, op, v) ∈
        [(Instr.dspMac i k, 0x01, acc + a.toInt * b.toInt), (.dspMsu i k, 0x02, acc - a.toInt * b.toInt), (.dspMpy i k, 0x03, a.toInt * b.toInt),
         (.dspMac2 i k, 0x04, acc + (lo a * lo b + hi a * hi b)), (.dspMsu2 i k, 0x05, acc - (lo a * lo b + hi a * hi b)),
         (.dspMacx i k, 0x06, acc + (lo a * hi b + hi a * lo b)), (.dspAadd i k, 0x09, acc + (d.accSrc (kAccB w)).toInt)] →
      Claims.DspDue s i slot w op →
      let full (d : Dsp) : Dsp := { d.accSet (kAcc w) (BitVec.ofInt 80 (Claims.held 80 v)) with
        aflags := d.aflags ||| (1#5 <<< (kAcc w).val), sticky := d.sticky ||| 1 }
      (Claims.held 80 v = v → exec c s = .next (Claims.dspGoes s i slot fun d => d.accSet (kAcc w) (BitVec.ofInt 80 v))) ∧
      (Claims.held 80 v ≠ v → d.sticky.getLsbD 0 = true → exec c s = .next (Claims.dspGoes s i slot full)) ∧
      (Claims.held 80 v ≠ v → d.sticky.getLsbD 0 = false →
        exec c s = .next (((u.modDsp i full).present (.ofSite i) 0x64 d.pc.toNat 0).modDsp i fun d => d.slotDone slot))) ∧
    (Claims.DspDue s i slot w 0x07 → exec (.dspAclr i k) s = .next (Claims.dspGoes s i slot fun d => d.accSet (kAcc w) 0)) ∧
    (Claims.DspDue s i slot w 0x08 →
      exec (.dspAmov i k) s = .next (Claims.dspGoes s i slot fun d => d.accSet (kAcc w) (d.accSrc (kAccB w)))) ∧
    (Claims.DspDue s i slot w 0x0C → ∀ r : BitVec 80, (kSh w, r.toNat) ∈
        [(0, (d.acc[(kEacc w).val]).toNat / 2 ^ 32 * 2 ^ 32 + x.toNat),
         (1, (d.acc[(kEacc w).val]).toNat / 2 ^ 64 * 2 ^ 64 + x.toNat * 2 ^ 32 + (d.acc[(kEacc w).val]).toNat % 2 ^ 32),
         (2, x.toNat % 2 ^ 16 * 2 ^ 64 + (d.acc[(kEacc w).val]).toNat % 2 ^ 64)] →
      exec (.dspAput i k) s = .next (Claims.dspGoes s i slot fun d => d.accSet (kEacc w) r)) ∧
    (Claims.DspDue s i slot w 0x0A → let v := Claims.shifted src.toInt (kSh w) (kRnd w)
      let put (d : Dsp) : Dsp := d.write (kRd w) 2 (BitVec.ofInt 32 (Claims.held 32 v))
      exec (.dspExt i k) s = .next (Claims.dspGoes s i slot fun d => if Claims.held 32 v = v then put d else
        { put d with aflags := d.aflags ||| 16, sticky := d.sticky ||| 2 })) ∧
    (∀ j : Fin 3, Claims.DspDue s i j w 0x00 → exec (.dspNop i j) s = .next (Claims.dspGoes s i j id)) ∧
    (∀ c ∈ [Instr.dspNop i 0, .dspMac i 0, .dspMsu i 0, .dspMpy i 0, .dspMac2 i 0, .dspMsu2 i 0, .dspMacx i 0, .dspAclr i 0,
        .dspAmov i 0, .dspAadd i 0, .dspExt i 0, .dspAget i 0, .dspAput i 0, .dspAdd i 0, .dspSub i 0, .dspAdds i 0, .dspSubs i 0,
        .dspAnd i 0, .dspOr i 0, .dspXor i 0, .dspMov i 0, .dspNeg i 0, .dspAbs i 0, .dspMin i 0, .dspMax i 0, .dspShl i 0,
        .dspShra i 0, .dspShrl i 0, .dspMul i 0, .dspMulh i 0, .dspAddi i 0, .dspShi i 0],
      Claims.DspRuns u i → d.slotDue = 0 → d.legal = false →
        ∃ t, exec c s = .next t ∧ Claims.DspFaulted i t 0x60 d.pc)

/-- A due slot-2 operation leaves exactly its row of Table 10.5. LD, LD2, ST and ST2 use the pointers of their AGs, which update
under R228 when PM is set; a reserved address is not written and stops the DSP with DSP_ADDR, as does a store into the table
region. AGSET, AGGET and LDI, the input FIFO, the mailboxes, the output queue, the staging set, the DSP flag and the special
registers are read and written as their ports say. RPUB takes a snapshot, published from the first CK_SEQ cycle that begins 4
CK_DSP cycles on; DFLAG sets the flag from the one 2 CK_DSP cycles on. SINCOS lies within 643 units of 2⁻³¹ of the exact values,
held to 32 bits. RCLR clears the ring slots; TRAP presents DSP_USER and goes on.
Where it rests on a choice or an inference of the model: log entries 1002, 1003, 1004. -/
def Obligations.DspMemoryAndPorts : Prop :=
  ∀ (s : State) (i : Fin 64) (w : Nat), let d := s.dsp i; let g := kAg w; let h := kAgB w; let r := kRd w
    let x := d.x r; let at2 (op : Nat) := Claims.DspDue s i 2 w op; let m := s.mse i
    let pm (on : Bool) (d : Dsp) : Dsp := if on then d.modAg g Ag.modified else d
    let twice (d : Dsp) : Dsp :=
      if (12288 ≤ (d.ag g).p.toNat ↔ 12288 ≤ (d.ag h).p.toNat) then { d with due := addGrains d.due dspGrains } else d
    let pm2 (on : Bool) (d : Dsp) : Dsp :=
      bif on then (if g = h then d.modAg g Ag.modified else (d.modAg g Ag.modified).modAg h Ag.modified) else d
    let free (g : Fin 4) := inTable (s.tableWords i) (d.ag g).p.toNat = false
    (at2 0x01 → Claims.addressed d g → exec (.dspLd i) s = .next (Claims.dspGoes s i 2 fun d => pm (kPm w) (Claims.loaded d r g))) ∧
    (at2 0x02 → Claims.addressed d g → free g →
      exec (.dspSt i) s = .next (Claims.dspGoes s i 2 fun d => pm (kPm w) (Claims.stored d r g))) ∧
    (at2 0x03 → Claims.addressed d g → Claims.addressed d h → exec (.dspLd2 i) s =
      .next (Claims.dspGoes s i 2 fun d => pm2 (kPm2 w) (Claims.loaded (Claims.loaded (twice d) r g) (r + 1) h))) ∧
    (at2 0x04 → Claims.addressed d g → Claims.addressed d h → free g → free h → exec (.dspSt2 i) s =
      .next (Claims.dspGoes s i 2 fun d => pm2 (kPm2 w) (Claims.stored (Claims.stored (twice d) r g) (r + 1) h))) ∧
    (at2 0x01 → ¬ Claims.addressed d g → ∃ t, exec (.dspLd i) s = .next t ∧ Claims.DspFaulted i t 0x61 d.pc) ∧
    (at2 0x02 → ¬ (Claims.addressed d g ∧ free g) → ∃ t, exec (.dspSt i) s = .next t ∧ Claims.DspFaulted i t 0x61 d.pc) ∧
    (∀ a : Ag, a.pend = none →
      (a.l ≠ 0 → a.b.toNat ≤ a.p.toNat → a.p.toNat < a.b.toNat + a.l.toNat → a.modified =
        { a with p := BitVec.ofInt 15 (a.b.toNat + ((a.p.toNat : Int) - a.b.toNat + a.m.toInt) % a.l.toNat) }) ∧
      (a.l = 0 ∨ a.p.toNat < a.b.toNat ∨ a.b.toNat + a.l.toNat ≤ a.p.toNat → a.modified =
        { a with p := BitVec.ofInt 15 (a.p.toNat + a.m.toInt) })) ∧
    (at2 0x05 → exec (.dspAgset i) s = .next (Claims.dspGoes s i 2 fun d => d.modAg g fun a => a.assign (kField w) x)) ∧
    (∀ a : Ag, ∀ v : BitVec 32, (a.assign 1 v) = { a with m := v.setWidth 16 } ∧
      (a.inside = true → a.assign 3 v = { a with pend := some (v.setWidth 15) }) ∧
      (a.inside = false → a.assign 3 v = { a with l := v.setWidth 15, pend := none }) ∧
      (a.pend = none → a.assign 0 v = { a with p := v.setWidth 15 } ∧ a.assign 2 v = { a with b := v.setWidth 15 })) ∧
    (at2 0x06 → ∀ v : BitVec 32, (kField w, v) ∈ [(0, BitVec.ofNat 32 (d.ag g).p.toNat), (1, BitVec.ofInt 32 (d.ag g).m.toInt),
        (2, BitVec.ofNat 32 (d.ag g).b.toNat), (3, BitVec.ofNat 32 (d.ag g).l.toNat)] →
      exec (.dspAgget i) s = .next (Claims.dspGoes s i 2 fun d => d.write r 1 v)) ∧
    (at2 0x07 → exec (.dspLdi i) s = .next (Claims.dspGoes s i 2 fun d => d.write r 1 (BitVec.ofInt 32
      (if bLimm d.bundle then toInt (kAux w * 2 ^ 20 + bSlot d.bundle 1) 29 else toInt (kAux w) 9)))) ∧
    (at2 0x11 → ∀ e rest, d.inq = e :: rest → exec (.dspIn i) s = .next (Claims.dspGoes s i 2 fun d =>
      { (((d.write r 3 e.w0).write (r + 1) 3 e.w1).write (r + 2) 3 e.w2).write (r + 3) 3 e.w3 with inq := rest })) ∧
    (at2 0x12 → ∃ t, exec (.dspMbr i) s = .next t ∧ (t.mse i).toDsp = m.toDsp.tail ∧ ∀ v : BitVec 64, v = m.toDsp.headD 0 →
      t.dsp i = (Claims.dspGoes s i 2 fun d => (d.write r 3 (v.setWidth 32)).write (r + 1) 3 (v.extractLsb' 32 32)).dsp i) ∧
    (at2 0x13 → (m.fromDsp.length < 16 → ∃ t, exec (.dspMbw i) s = .next t ∧ (t.mse i).fromDsp = m.fromDsp ++ [x] ∧
        t.dsp i = (Claims.dspGoes s i 2 id).dsp i) ∧
      (16 ≤ m.fromDsp.length →
        exec (.dspMbw i) s = .next (Claims.dspGoes s i 2 fun d => { d with sticky := d.sticky ||| 8 }))) ∧
    (at2 0x14 → let v : OutWord := { stream := if bitOf (kAux w) 0 then .results else .samples, sub := 0, word := d.x (r + 1) ++ x }
      (d.outq.length < 32 → exec (.dspSout i) s = .next (Claims.dspGoes s i 2 fun d => { d with outq := d.outq ++ [v] })) ∧
      (32 ≤ d.outq.length → bitOf (s.siteCfg i 0xC0 3) 0 = false →
        exec (.dspSout i) s = .next (Claims.dspGoes s i 2 fun d => { d with outHeld := [v] })) ∧
      (32 ≤ d.outq.length → bitOf (s.siteCfg i 0xC0 3) 0 = true → ∃ t, exec (.dspSout i) s = .next t ∧
        (t.dsp i).outq = d.outq ∧ (t.dsp i).outDrops = satInc 0xFFFF d.outDrops ∧ (t.dsp i).sticky.getLsbD 4 = true)) ∧
    (let v := s.dspWake i
      ∀ e rest, (v.dsp i).outHeld = e :: rest → (v.dsp i).outq.length < 32 → exec (.soutHoldEnd i) s =
        .next (v.modDsp i fun d => { d with outq := d.outq ++ [e], outHeld := rest, due := laterOf v.clock d.due })) ∧
    (∀ (u : Fin 2) (k : Fin 10), at2 0x15 → kAux w / 16 % 16 = k.val → kAux w / 256 = u.val → ∃ t,
      exec (.dspRput i) s = .next t ∧ ((t.dsp i).staging[u.val])[k.val] = x ∧
      ∀ (u' : Fin 2) (k' : Fin 10), (u', k') ≠ (u, k) → ((t.dsp i).staging[u'.val])[k'.val] = (d.staging[u'.val])[k'.val]) ∧
    (∀ u : Fin 2, at2 0x16 → kAux w / 256 = u.val → exec (.dspRpub i) s = .next (Claims.dspGoes s i 2 fun d => { d with
      pubs := vmod d.pubs u fun _ => some (s.seqFrom (addGrains s.clock (4 * dspGrains : Nat)), d.staging[u.val]) })) ∧
    (∀ t z, d.pubs[0] = some (t, z) → before s.clock t = false → d.pubs[1] = none → s.dspWake i =
      (s.modDsp i fun d => { d with pubs := vmod d.pubs 0 fun _ => none }).publish i 0 z) ∧
    (∀ (u : Fin 2) (z : Vector (BitVec 32) 10),
      let val (k : Fin 8) := BitVec.ofNat 64 (z[k.val].toNat + z[k.val + 1].toNat % 2 ^ 16 * 2 ^ 32 + z[8].toNat % 2 ^ 16 * 2 ^ 48)
      let b := (s.publish i u z).bridge i u
      b.ratio = val 0 ∧ b.sig = val 2 ∧ b.ref = val 4 ∧ b.quad = val 6 ∧ b.seq = z[8] ∧ b.pubs = (s.bridge i u).pubs + 1) ∧
    (at2 0x17 → exec (.dspDflag i) s = .next (Claims.dspGoes s i 2 fun d =>
      d.flagFrom (s.seqFrom (addGrains s.clock (2 * dspGrains : Nat))) (x.getLsbD 0))) ∧
    (∀ t v, (d.flagFrom t v).flagAt t = v) ∧
    (at2 0x18 → ∀ v : BitVec 32, (kAux w % 64, v) ∈ [(1, d.timeHi), (2, BitVec.ofNat 32 d.inq.length),
        (3, BitVec.ofNat 32 m.toDsp.length),
        (4, BitVec.ofNat 32 (16 - m.fromDsp.length + 256 * (32 - d.outq.length))), (5, d.ien.setWidth 32), (6, (s.dspPending i).setWidth 32), (7, d.tper.setWidth 32),
        (8, d.thresh.setWidth 32), (9, BitVec.ofNat 32 d.bank.ring), (10, d.bank.lc[0].count.setWidth 32),
        (11, d.bank.lc[1].count.setWidth 32), (12, d.epc.setWidth 32), (15, d.aflags.setWidth 32)] →
      exec (.dspSrd i) s = .next (Claims.dspGoes s i 2 fun d => d.write r 3 v)) ∧
    (at2 0x18 → kAux w % 64 = 0 → exec (.dspSrd i) s = .next (Claims.dspGoes s i 2 fun d =>
      { d.write r 3 (BitVec.ofNat 32 (grains s.clock)) with
        timeHi := BitVec.ofNat 32 (grains s.clock / 2 ^ 32 + epochOf s.clock % 4096 * 2 ^ 20) })) ∧
    (at2 0x18 → kAux w % 64 = 13 → ∃ t v, exec (.dspSrd i) s = .next t ∧
      t.dsp i = (Claims.dspGoes s i 2 fun d => d.write r 3 v).dsp i) ∧
    (at2 0x19 → ∃ t, exec (.dspSwr i) s = .next t ∧ (t.dsp i).bundles = d.bundles + 1) ∧
    (at2 0x18 → kAux w % 64 = 14 → exec (.dspSrd i) s = .next (Claims.dspGoes s i 2 fun d =>
      { d.write r 3 (BitVec.ofNat 32 (s.siteCfg i 0xC1 1)) with h2dUnread := false })) ∧
    (at2 0x19 → ∀ f : Dsp → Dsp, (kAux w % 64 = 5 ∧ f = fun d => { d with ien := x.setWidth 4 }) ∨
        (kAux w % 64 = 7 ∧ f = fun d => { d with tper := x.setWidth 24 }) ∨
        (kAux w % 64 = 8 ∧ 1 ≤ x.toNat ∧ x.toNat ≤ 128 ∧ f = fun d => { d with thresh := x.setWidth 8 }) ∨
        (kAux w % 64 = 9 ∧ x.toNat ≤ 47 ∧ f = fun d => { d with bank := { d.bank with ring := x.toNat } }) ∨
        (kAux w % 64 = 10 ∧ f = fun d => d.modLoop 0 fun l => { l with count := x.setWidth 24 }) ∨
        (kAux w % 64 = 11 ∧ f = fun d => d.modLoop 1 fun l => { l with count := x.setWidth 24 }) ∨
        (kAux w % 64 = 13 ∧ f = fun d => { d with d2h := x }) ∨
        (kAux w % 64 = 15 ∧ f = fun d => { d with aflags := d.aflags &&& ~~~ x.setWidth 5 }) →
      exec (.dspSwr i) s = .next (Claims.dspGoes s i 2 f)) ∧
    (at2 0x1A → ∃ p q : BitVec 32, exec (.dspSincos i) s =
        .next (Claims.dspGoes s i 2 fun d => (d.write r 3 p).write (r + 1) 3 q) ∧
      (∃ e : Int, -643 ≤ e ∧ e ≤ 643 ∧ p = BitVec.ofInt 32 (Claims.held 32 (sineQ31 (d.x (kRa w)) + e))) ∧
      ∃ e : Int, -643 ≤ e ∧ e ≤ 643 ∧ q = BitVec.ofInt 32 (Claims.held 32 (sineQ31 (d.x (kRa w) + 0x40000000) + e))) ∧
    (at2 0x1C → d.flight = [] → d.stopAsked = false → ∃ t, exec (.dspRclr i) s = .next t ∧ ∀ k : Fin 48, (t.dsp i).ring[k.val] = 0) ∧
    (at2 0x1D → exec (.dspTrap i) s = .next (((s.present (.ofSite i) 0x63 (kAux w) 0)).modDsp i fun d => d.slotDone 2))

/-- With its last slot a bundle has issued: it is counted, the results due at the next bundle stand, and the next bundle follows
PC, a loop's body start, or a branch's target after its two delay bundles. BR, CALL, RET and a conditional branch whose test
holds ask for their target; LOOP arms its counter, or skips past its body. WAIT freezes until a source of its mask is pending,
HALT stops; an enabled pending source is entered at its vector with EPC and the other bank, its edge cleared; RTI goes back to
EPC, and one bundle must issue before the next entry. A load's end leaves the CRC of its memory.
Where it rests on a choice or an inference of the model: log entries 1001, 1002. -/
def Obligations.DspFlow : Prop :=
  (∀ d : Dsp, let e := d.endBundle
    e.count = d.count + 1 ∧ e.due = addGrains d.due dspGrains ∧ e.bundles = d.bundles + 1 ∧ e.slots = 0 ∧ e.acc = d.acc ∧
    (d.stopAsked = true → e.state = .stopped ∧ e.stopCause = .stop ∧ e.flight = [] ∧ e.stores = []) ∧
    (d.stopAsked = false → e.state = d.state) ∧
    (d.branch = none → d.loopEnding = none → e.pc = d.pc + 1) ∧
    (∀ k t, d.branch = some (k, t) → k ≤ 1 → e.pc = t ∧ e.branch = none) ∧
    (∀ k t, d.branch = some (k, t) → 1 < k → d.loopEnding = none → e.pc = d.pc + 1 ∧
      (d.stopAsked = false → e.branch = some (k - 1, t))) ∧
    (∀ k : Fin 2, d.branch = none → d.loopEnding = some k → 1 < d.bank.lc[k.val].count.toNat →
      e.pc = d.bank.lc[k.val].first ∧ e.bank.lc[k.val].count = d.bank.lc[k.val].count - 1 ∧
      e.bank.ring = (d.bank.ring + d.bank.lc[k.val].rot) % 48) ∧
    (∀ f, d.flight = [f] → f.reg < 64 → d.stopAsked = false →
      (f.due ≤ d.count + 1 → e.physGet f.reg = f.val ∧ e.flight = []) ∧
      (d.count + 1 < f.due → e.physGet f.reg = d.physGet f.reg ∧ e.flight = [f]))) ∧
  (∀ (s : State) (i : Fin 64) (w : Nat), let d := s.dsp i; let at2 (op : Nat) := Claims.DspDue s i 2 w op
    let off := d.pc + BitVec.ofInt 12 (kImm9 w); let v := (d.x (kRd w)).toInt
    let due := s.dspPending i &&& d.waitMask.getD 0
    (at2 0x08 → exec (.dspBr i) s = .next (Claims.dspGoes s i 2 fun d => { d with branch := some (3, BitVec.ofNat 12 w) })) ∧
    (at2 0x09 → exec (.dspCall i) s = .next (Claims.dspGoes s i 2 fun d =>
      { d.write 15 1 (BitVec.ofNat 32 (d.pc + 3).toNat) with branch := some (3, BitVec.ofNat 12 w) })) ∧
    (at2 0x0A → exec (.dspRet i) s = .next (Claims.dspGoes s i 2 fun d => { d with branch := some (3, (d.x 15).setWidth 12) })) ∧
    (∀ c : Instr, ∀ op : Nat, ∀ b : Bool, (c, op, b) ∈ [(Instr.dspBrz i, 0x0C, decide (v = 0)), (.dspBrnz i, 0x0D, decide (v ≠ 0)),
        (.dspBrlt i, 0x0E, decide (v < 0)), (.dspBrge i, 0x0F, decide (0 ≤ v))] → at2 op →
      exec c s = .next (Claims.dspGoes s i 2 fun d => if b then { d with branch := some (3, off) } else d)) ∧
    (at2 0x10 → let n := (d.x (kLoopRs w)).toNat % 2 ^ 24
      exec (.dspLoop i) s = .next (Claims.dspGoes s i 2 fun d =>
        if n = 0 then { d with branch := some (1, d.pc + BitVec.ofNat 12 (kEnd w) + 1) }
        else d.modLoop (kLoop w) fun _ => { count := BitVec.ofNat 24 n, first := d.pc + 1, last := d.pc + BitVec.ofNat 12 (kEnd w),
                                            rot := kStep w, on := true })) ∧
    (at2 0x0B → d.inHandler = true → ∃ t, exec (.dspRti i) s = .next t ∧ (t.dsp i).pc = d.epc ∧ (t.dsp i).inHandler = false ∧
      (t.dsp i).oneFirst = true ∧ (t.dsp i).flight = []) ∧
    (at2 0x1B → d.stopAsked = false → ∃ t, exec (.dspWait i) s = .next t ∧ (t.dsp i).state = .wait ∧
      (t.dsp i).waitMask = some (BitVec.ofNat 4 (kAux w)) ∧ (t.dsp i).bundles = d.bundles + 1) ∧
    (at2 0x1E → ∃ t, exec (.dspHalt i) s = .next t ∧ (t.dsp i).state = .halted ∧ (t.dsp i).stopCause = .halt ∧
      (t.dsp i).flight = [] ∧ (t.dsp i).stores = []) ∧
    (d.state = .wait → due ≠ 0 → due &&& d.ien = 0 → exec (.dspWaitEnd i) s =
      .next (s.modDsp i fun d => { d with state := .run, due := laterOf s.clock d.due, waitMask := none })) ∧
    (∀ k : Fin 4, d.state = .wait → (due &&& d.ien).getLsbD k.val = true → (∀ j : Fin 4, j < k → (due &&& d.ien).getLsbD j.val = false) →
      d.inHandler = false → d.branch = none → ∃ t, exec (.dspWaitEnd i) s = .next t ∧ (t.dsp i).state = .run ∧
        (t.dsp i).pc = BitVec.ofNat 12 (8 * (k.val + 1)) ∧ (t.dsp i).epc = d.pc ∧ (t.dsp i).inHandler = true) ∧
    (d.state = .wait → due = 0 → exec (.dspWaitEnd i) s = .next s) ∧
    (∀ k : Fin 4, let u := s.dspIssue i; let d := u.dsp i
      d.state = .run → d.slots = 0 → d.branch = none → d.inHandler = false → d.oneFirst = false → d.outHeld = [] →
      (u.dspPending i &&& d.ien).getLsbD k.val = true → (∀ j : Fin 4, j < k → (u.dspPending i &&& d.ien).getLsbD j.val = false) →
      ∃ t, exec (.dspInterruptEntry i) s = .next t ∧ (t.dsp i).pc = BitVec.ofNat 12 (8 * (k.val + 1)) ∧ (t.dsp i).epc = d.pc ∧
        (t.dsp i).inHandler = true ∧ (t.dsp i).flight = [] ∧ (t.dsp i).due = addGrains u.clock (6 * dspGrains : Nat) ∧ (2 ≤ k.val → (t.dsp i).latched.getLsbD k.val = false)) ∧
    (d.inHandler = true ∨ d.oneFirst = true ∨ s.dspPending i &&& d.ien = 0 → exec (.dspInterruptEntry i) s = .next s) ∧
    (d.tper ≠ 0 → exec (.dspTimer i) s = .next (s.modDsp i fun d => { d with latched := d.latched ||| 4 })) ∧
    (d.tper = 0 → exec (.dspTimer i) s = .next s) ∧
    (∀ x table, s.dspCrcEnd i = some (x, table) → ∃ t, exec (.dspLoadDone i) s = .next t ∧
      (table = false → (t.dsp i).crcFrom = none ∧ (t.dsp i).crc = crc32 d.pmemBytes ∧ (t.dsp i).tableCrc = d.tableCrc) ∧
      (table = true → (t.dsp i).tableFrom = none ∧ (t.dsp i).tableCrc = crc32 (d.tableBytes (s.tableWords i)) ∧ (t.dsp i).crc = d.crc)) ∧
    ((s.dspCrcEnd i).isSome = (d.crcFrom.isSome || d.tableFrom.isSome)) ∧
    (d.crcFrom = none → d.tableFrom = none → exec (.dspLoadDone i) s = .next s) ∧
    (let e := (s.dspStart i).dsp i;
      e.state = .run ∧ e.pc = BitVec.ofNat 12 (s.siteCfg i 0xC0 2) ∧ e.flagAt s.clock = false ∧ e.outHeld = [] ∧ e.ien = 0 ∧ e.latched = 0 ∧ e.bank.ring = 0 ∧
      e.inHandler = false ∧ e.flight = [] ∧ ((s.dspStart i).mse i).toDsp = []))


/-- A TRIG_IN edge toggles its level; a rising one that some capturing site uses is held in its free capture register, but for a
SPECIAL run that holds the converters. A resolved edge of a cell frees its register (of two, the older goes first) in the cycle
in which its turn comes and, when EDGES and GATE select it, its stamp word, with the pad time in grains and OVF when it is owed,
is the newest word of the cell's queue; a queue without room drops and counts it and sets STAMP_OVF. A LOSS word with the count
is stored as soon as two places are free.
Where it rests on a choice or an inference of the model: log entries 1101. -/
def Obligations.Stamps : Prop :=
  ∀ (s : State) (i : Fin 64),
    (∀ (l : Fin 4) coarse fine, ∃ t, exec (.trigInEdge l coarse fine) s = .next t ∧
      (∀ k, k < 4 → t.special.levels.getLsbD k = (s.special.levels.getLsbD k ^^ decide (k = l.val))) ∧ Claims.OtherEngines s t i ∧
      (s.special.levels.getLsbD l.val = true → t.special.caps = s.special.caps) ∧
      (t.special.runsAt t.clock = true → t.special.caps = s.special.caps) ∧
      (s.special.levels.getLsbD l.val = false → s.special.start = none → s.special.caps[l.val] = none →
        s.capturing i = true → bitOf (s.tdcCfg i 9) l.val = true →
        ∃ e, t.special.caps[l.val] = some e ∧ e.fine = fine ∧ e.fall = false ∧ e.coarse = s.patEdge coarse)) ∧
    (∀ (c : Fin 8) (hi : Bool) (e : Capture), let q := (s.site i).tdc.cells[c.val]
      Claims.NoChannels s i → q.reg hi = some e → q.reg (!hi) = none → let pad := Claims.padGrain s i c e
      let now := roundFine (s.padNow i c e)
      ∃ t, exec (.stampResolve i (Fin.ofNat 13 c.val)) s = .next t ∧ let r := (t.site i).tdc.cells[c.val]
        r.reg hi = none ∧ t.clock = laterOf s.clock (s.resolveCycle q (s.offerCycle now)) ∧ Claims.OtherEngines s t i ∧
        (s.queueSelects i c hi e.fall now = true → q.queue.length < 64 → r.queue.length = q.queue.length + 1 ∧ r.ovfNext = false ∧
          ∃ w, r.queue.getLast? = some w ∧ w.epoch = BitVec.ofNat 16 (epochOf pad) ∧ w.word = BitVec.ofNat 64
            (c.val * 2 ^ 56 + (if (s.cellConv i c).table.isNone then 2 ^ 55 else 0) + (if q.ovfNext then 2 ^ 54 else 0) +
             (if hi then 2 ^ 53 else 0) + (if e.fall then 2 ^ 52 else 0) + grains pad)) ∧
        (s.queueSelects i c hi e.fall now = true → 64 ≤ q.queue.length → r.queue = q.queue ∧
          r.drops = min 0xFFFFFF (q.drops + 1) ∧ r.ovfNext = true ∧ (t.cell i c).flags.getLsbD 4 = true) ∧
        (s.queueSelects i c hi e.fall now = false → r.queue = q.queue ∧ r.drops = q.drops)) ∧
    (∀ (c : Fin 8) (h l : Capture), let q := (s.site i).tdc.cells[c.val]
      q.capHi = some h → q.capLo = some l → let first := decide (fineSpan (s.padNow i c l) (s.padNow i c h) ≤ 0)
      Claims.NoChannels s i → ∃ t, exec (.stampResolve i (Fin.ofNat 13 c.val)) s = .next t ∧
        ((t.site i).tdc.cells[c.val]).reg first = none ∧
        ((t.site i).tdc.cells[c.val]).reg (!first) = some (if first then l else h)) ∧
    (∀ c : Fin 8, let q := (s.site i).tdc.cells[c.val]
      (q.loss ≠ 0 → q.queue.length ≤ 62 → ∃ t w, exec (.lossWordStore i c) s = .next t ∧
        ((t.site i).tdc.cells[c.val]).queue = q.queue ++ [w] ∧ ((t.site i).tdc.cells[c.val]).loss = 0 ∧
        w.word = BitVec.ofNat 64 ((0x80 + c.val) * 2 ^ 56 + 2 ^ 54 + q.loss) ∧ Claims.OtherSites s t i) ∧
      (q.loss = 0 ∨ 62 < q.queue.length → exec (.lossWordStore i c) s = .next s)) ∧
    (∀ k : Fin 5, s.special.caps[k.val] = none → exec (.stampResolve i (Fin.ofNat 13 (8 + k.val))) s = .next s)

/-- A stop stamp after the start of an open record closes it with the elapsed time, less the steps, rounded to a grain; an
interval timeout closes it with TIMEOUT. Either record goes to RECORD, and the channel arms again in continuous mode and is
IDLE with ENABLE cleared otherwise. An armed frequency channel whose gate sees no edge closes it with NOSIG and the next SEQ. A
code-density run gives every converter of its mask that passed its table, leaves the others alone, and has ended.
Where it rests on a choice or an inference of the model: log entries 1102, 1103. -/
def Obligations.TdcRecords : Prop :=
  ∀ (s : State) (i : Fin 64),
    (∀ (k : Fin 4) (a b : Seen), ((s.site i).tdc.ints[k.val]).state = .started a → b.sel = field (s.intCfg i k) 11 6 →
      0 < fineSpan a.now b.now → let d := fineSpan a.now b.now
      let r := ((s.intSee i b k).site i).tdc.ints[k.val]
      (256 ≤ d → r.record.toNat % 2 ^ 48 = ((d + 128) / 256).toNat % 2 ^ 48) ∧ r.record.toNat / 2 ^ 56 = 0x20 + k.val ∧
      (r.record.getLsbD 55 = (a.est || b.est)) ∧ r.record.getLsbD 54 = false ∧
      r.record.getLsbD 49 = ((s.site i).tdc.ints[k.val]).lossAt b.now ∧ r.record.getLsbD 48 = decide (a.stepN ≠ b.stepN) ∧
      (bitOf (s.intCfg i k) 13 = false → r.state = .idle)) ∧
    (∀ (k : Fin 4) (a : Seen), ((s.site i).tdc.ints[k.val]).state = .started a → s.special.start = none ∨ s.special.closed = true →
      let v := s.advance (addGrains (roundFine a.t) (field (s.intCfg i k) 39 16 * usGrains : Nat))
      ∃ t, exec (.intervalTimeout i k) s = .next t ∧ let r := (t.site i).tdc.ints[k.val]; let ch := (s.site i).tdc.ints[k.val]
        t.clock = v.clock ∧
        r.record = BitVec.ofNat 64 ((0x20 + k.val) * 2 ^ 56 + (if a.est then 2 ^ 55 else 0) + 2 ^ 54 +
          (if ch.lossAt (fineOf v.clock) then 2 ^ 49 else 0) + (if a.stepN ≠ 0 then 2 ^ 48 else 0)) ∧
        (bitOf (s.intCfg i k) 13 = true → r.state = .armed ∧ t.dict = s.dict) ∧
        (bitOf (s.intCfg i k) 13 = false → r.state = .idle ∧
          (bitOf (s.intCfg i k) 14 = true → sparseWf initial s.dict = true → bitOf (t.intCfg i k) 14 = false)) ∧
        Claims.OtherSites v t i) ∧
    (∀ k : Fin 4, (∀ a, ((s.site i).tdc.ints[k.val]).state ≠ .started a) → exec (.intervalTimeout i k) s = .next s) ∧
    (∀ f : Fin 2, s.tdcOn i = true → ((s.site i).tdc.freqs[f.val]).armed = true → s.special.start = none ∨ s.special.closed = true → ∃ t, exec (.freqGateTimeout i f) s = .next t ∧
      let r := (t.site i).tdc.freqs[f.val]
      r.seq = ((s.site i).tdc.freqs[f.val]).seq + 1 ∧ r.tWord.getLsbD 50 = true ∧ r.tWord.toNat / 2 ^ 56 = 0x30 + f.val ∧
      r.gate = none ∧ (bitOf (s.freqCfg i f) 7 = false → r.armed = false) ∧ Claims.OtherEngines s t i) ∧
    (∀ f : Fin 2, s.tdcOn i = false ∨ ((s.site i).tdc.freqs[f.val]).armed = false → exec (.freqGateTimeout i f) s = .next s) ∧
    (∀ (hits : List (List Nat × List Nat)), (s.site i).tdc.run = .running → (s.siteCal i).swept = false → ∃ w : State,
      exec (.tdcRunDone i hits) s = .next (w.calExit i) ∧ (w.site i).tdc.run = .idle ∧ ∀ c : Fin 8,
        let h := hits.getD c.val ([], []); let bad := Hits.failure h s.calRepeat (s.cfg 0x2603 1)
        (bitOf (s.tdcMask i) c.val = true → bad = 0 → (w.cellConv i c).table = some (densityTable (Hits.all h)) ∧
          (w.site i).tdc.applied.getLsbD c.val = true) ∧
        (bitOf (s.tdcMask i) c.val = true → bad ≠ 0 → (w.cellConv i c).table = (s.cellConv i c).table ∧
          (w.site i).tdc.failed.getLsbD c.val = true) ∧
        (bitOf (s.tdcMask i) c.val = false → (w.cellConv i c).table = (s.cellConv i c).table)) ∧
    (∀ (hits : List (List Nat × List Nat)), (s.site i).tdc.run ≠ .running → exec (.tdcRunDone i hits) s = .next s) ∧
    (∀ (hits : List (List Nat × List Nat)), s.special.start.isSome = true → ∃ t, exec (.tdcSpecialDone hits) s = .next t ∧
      t.special.start = none ∧ ∀ k : Fin 5,
        let h := hits.getD k.val ([], []); let on := bitOf (s.tdcMask (Fin.ofNat 64 s.special.site)) (8 + k.val)
        (on = true → Hits.failure h s.calRepeat (s.cfg 0x2603 1) = 0 →
          (t.special.convs[k.val]).table = some (densityTable (Hits.all h))) ∧
        (on = false ∨ Hits.failure h s.calRepeat (s.cfg 0x2603 1) ≠ 0 →
          (t.special.convs[k.val]).table = (s.special.convs[k.val]).table)) ∧
    (∀ (hits : List (List Nat × List Nat)), s.special.start = none → exec (.tdcSpecialDone hits) s = .next s)

/-- A unit matches where its cared, live slots, of which there is one, meet their conditions. At a plane sample at which the match
of an enabled unit rises outside holdoff, and no L3 force holds the region, the unit fires: FIRES and T_LAST show it, its
holdoff runs, and the RTRIG latch of its sites is set when it has that action. A rise during holdoff is counted and fires
nothing. A unit that is not enabled or whose match does not rise fires nothing; without CK_PAT no sample is judged. The end of
the holdoff clears it. A chain trigger of a channel to be acted on is scheduled T_D plus the latency budget later, or is late;
at its time it leaves the schedule and is counted, and the balls routed to its channel pulse, each placed to within 2 grains.
Where it rests on a choice or an inference of the model: log entries 1201, 1204. -/
def Obligations.Triggers : Prop :=
  ∀ (s : State) (q u : Fin 4) (n : BitVec 41) (x : Bool) (l : List (Fin 5)), let m := (s.region q).units[u.val]
    let e := s.patEdge (BitVec.ofNat 42 (2 * n.toNat + if x then 1 else 0)); let td := addGrains e (-6400); let rises := (s.advance (addGrains e 1280)).matchRises q e u
    (s.fastClocks = true → bitOf (s.unitCfg q u) 35 = true → rises = true → m.holdoff = none → s.regionHeld q = false →
      ∃ t, exec (.triggerFire q u n x l) s = .next t ∧ let r := (t.region q).units[u.val]
        r.fires = m.fires + 1 ∧ r.tLast = time64 td ∧ r.holdoff = some td ∧ r.rises = 0 ∧
        (bitOf (s.unitCfg q u) 32 = true → ∀ i ∈ s.unitSites q u, (t.site i).stream.rtrig = true)) ∧
    (∀ h, s.fastClocks = true → bitOf (s.unitCfg q u) 35 = true → rises = true → m.holdoff = some h →
      elapsed (s.holdoffEnd q u h) e 0 = false → ∃ t, exec (.triggerFire q u n x l) s = .next t ∧
        let r := (t.region q).units[u.val]
        r.fires = m.fires ∧ r.suppressed = satInc 0xFFFF m.suppressed ∧ r.rises = satInc 0xFFFFFFFF m.rises ∧ r.holdoff = some h) ∧
    (s.fastClocks = true → bitOf (s.unitCfg q u) 35 = false ∨ rises = false ∨ (m.holdoff = none ∧ s.regionHeld q = true) →
      ∃ t, exec (.triggerFire q u n x l) s = .next t ∧ ((t.region q).units[u.val]).fires = m.fires ∧ t.dict = s.dict) ∧
    (∀ cared : Nat → Bool, (∀ k, k < 128 → cared k = ((s.unitMask q 0x12 u).getLsbD k && !s.slotDead q k e)) →
      (s.unitMatch q u e = true ↔ (∃ k, k < 128 ∧ cared k = true) ∧ ∀ k, k < 128 → cared k = true →
        s.slotMet q k ((s.unitMask q 0x14 u).getLsbD k) ((s.unitMask q 0x13 u).getLsbD k) e = true)) ∧
    (s.fastClocks = false → exec (.triggerFire q u n x l) s = .next s) ∧
    (∀ h, m.holdoff = some h → ∃ t, exec (.holdoffEnd q u) s = .next t ∧ ((t.region q).units[u.val]).holdoff = none ∧
      ((t.region q).units[u.val]).fires = m.fires ∧ t.clock = laterOf s.clock (s.holdoffEnd q u h)) ∧
    (m.holdoff = none → exec (.holdoffEnd q u) s = .next s) ∧
    (∀ (p : InPacket) (x : State), s.takeInbox (fun p => p.packet.type == 5) = some (p, x) →
      let chan : Fin 8 := Fin.ofNat 8 (p.word 1)
      let at_ := addGrains (timeOf64 x.clock (BitVec.ofNat 64 (p.word 0))) (x.cfg 0x2203 1 * 512 : Nat)
      (bitOf (x.cfg 0x2A00 5) chan.val = false → exec .trigPacketRx s = .next x) ∧
      (bitOf (x.cfg 0x2A00 5) chan.val = true → 5120 ≤ span x.clock at_ → exec .trigPacketRx s =
        .next { x with chipTrig := { x.chipTrig with chain := x.chipTrig.chain ++ [(chan, at_)] } }) ∧
      (bitOf (x.cfg 0x2A00 5) chan.val = true → span x.clock at_ < 5120 → exec .trigPacketRx s = .next
        (({ x with chipTrig := { x.chipTrig with late := satInc 0xFFFF x.chipTrig.late } }).presentObj .ofChip 0x70 0x2A00 6))) ∧
    (∀ p ∈ s.chipTrig.chain, (∀ x ∈ s.chipTrig.chain, x ≠ p → before p.2 x.2 = true) → ∃ t, exec .chainTrigAction s = .next t ∧
      t.chipTrig.chain = s.chipTrig.chain.erase p ∧ t.chipTrig.acted = satInc 0xFFFF s.chipTrig.acted ∧
      t.clock = laterOf s.clock p.2 ∧ t.chipTrig.slots.head? = some (p.1.val, p.2) ∧
      ∀ k : Fin 4, ∃ d : Int, d.natAbs ≤ 2 ∧ let start := addGrains (addGrains p.2 20480) d; t.chipTrig.outs[k.val] =
        if s.gtForced .chip = false ∧ field (s.cfg 0x2A00 (k.val + 1)) 4 0 = 8 + p.1.val then
          (start, addGrains start (field (s.cfg 0x2A00 (k.val + 1)) 15 8 * 1280 : Nat)) ::
            (s.chipTrig.outs[k.val]).filter fun x => before t.clock x.2
        else s.chipTrig.outs[k.val]) ∧
    (s.chipTrig.chain = [] → exec .chainTrigAction s = .next s)

/-- A trigger takes an ARMED, recording Bushel to CAPTURING with its time and source, and is counted as missed in any other armed
state. When POST entries stand the capture is HELD, or DUMPING with SNAP enabled and OUT 0; the last granted word of a dump
arms it again when ARM is 1. The stream writer moves the words of the position that the starvation rule chooses into the FIFO,
and discards them when their stream is disabled; without room or CK_PAT, or with nothing waiting, it does nothing. A flush
closes the open packet; a LOST mark reports the losses once two places are free. Where it rests on a choice or an inference of
the model: log entries 1202, 1203. -/
def Obligations.BushelAndStreams : Prop :=
  ∀ (s : State) (i : Fin 64), let m := (s.site i).stream; let b := m.bushel
    (∀ src t, b.state = .armed → b.hist ≠ [] → b.triggered src t = { b with
      state := .capturing, tTrig := t, stepBy := 0, src := src, step := false, missedH0 := b.missed, missed := 0,
      preValid := min b.pre ((span b.armedAt t).toNat / 1280), captures := b.captures + 1 }) ∧
    (∀ src t, b.state = .held ∨ b.state = .dumping ∨ (b.state = .capturing ∧ b.tTrig ≠ t) →
      b.triggered src t = { b with missed := satInc 0xFFFF b.missed }) ∧
    (∀ src t, b.state = .capturing → b.tTrig = t → b.triggered src t = { b with src := min b.src src }) ∧
    (b.state = .capturing → let snap := bitOf (s.streamCfg i) 4 && !b.out
      ∃ t, exec (.bushelCaptureDone i) s = .next t ∧ let r := (t.site i).stream.bushel
        r.state = (if snap then .dumping else .held) ∧ r.image = b.capture ∧ r.captures = b.captures ∧
        let v := s.advance (addGrains b.tTrig ((8192 - b.pre) * 1280 + 6400 : Nat))
        t = { v with sites := t.sites } ∧ Claims.OtherSites v t i) ∧
    (b.state ≠ .capturing → exec (.bushelCaptureDone i) s = .next s) ∧
    (b.state = .dumping → b.image = [] → ∃ t, exec (.bushelDumpDone i) s = .next t ∧
      (t.site i).stream.bushel.state = (if bitOf (s.bushelCfg i) 21 then .armed else .disarmed) ∧ Claims.OtherSites s t i) ∧
    (b.state ≠ .dumping ∨ b.image ≠ [] → exec (.bushelDumpDone i) s = .next s) ∧
    let s' := s.dspWake i; let m := (s'.site i).stream; let b := m.bushel
    (∀ p, m.fifo.length < 2048 → s'.fastClocks = true → starveWinner m.starve.counts.toList (s'.streamReqs i) = some p →
      ∃ t, exec (.streamWordGrant i) s = .next t ∧ (t.site i).stream.starve.counts = starveGrant m.starve.counts (s'.streamReqs i) p ∧
        let put (on : Nat) (ws : List StreamWord) : List StreamWord := m.fifo ++ if bitOf (s'.streamCfg i) on then ws else []
        (∀ k rest, p = 0 → m.marks = k :: rest → (t.site i).stream.marks = rest ∧ (t.site i).stream.fifo =
          put 2 (k.words.map fun w => { stream := .marks, sub := 0, epoch := BitVec.ofNat 16 (field k.time.toNat 63 52), word := w })) ∧
        (∀ k rest, p = 1 → (s'.dsp i).outq = k :: rest → (t.dsp i).outq = rest ∧ (t.site i).stream.fifo =
          put k.stream.bit [{ stream := k.stream, sub := k.sub, epoch := BitVec.ofNat 16 (epochOf s.clock), word := k.word }]) ∧
        (∀ (c : Fin 8) k rest, p = 2 + c.val → ((s.site i).tdc.cells[c.val]).queue = k :: rest →
          ((t.site i).tdc.cells[c.val]).queue = rest ∧ (t.site i).stream.fifo =
          put 1 [{ stream := .stamps, sub := 0, epoch := k.epoch, word := k.word }]) ∧
        (∀ k rest, p = 10 → b.image = k :: rest → (t.site i).stream.bushel.image = rest ∧ (t.site i).stream.fifo =
          put 4 [{ stream := .snap, sub := 0, epoch := BitVec.ofNat 16 (epochOf s.clock), word := k }])) ∧
    (2048 ≤ m.fifo.length ∨ s'.fastClocks = false ∨ starveWinner m.starve.counts.toList (s'.streamReqs i) = none →
      exec (.streamWordGrant i) s = .next s') ∧
    let m := (s.site i).stream
    exec (.packetFlush i) s = .next (s.modStream i fun m => { m with flushed := max m.flushed (s.packetWords i).length }) ∧
    (m.lossPending ≠ 0 → m.marks.length ≤ 30 → bitOf (s.siteCfg i 0xE4 1) 2 = true → ∃ t k, exec (.lostMarkQueue i) s = .next t ∧
      (t.site i).stream.marks = m.marks ++ [k] ∧ k.kind = 0x0E ∧ k.arg = BitVec.ofNat 64 m.lossPending ∧
      (t.site i).stream.lossPending = 0 ∧ Claims.OtherSites s t i) ∧
    (m.lossPending = 0 ∨ 30 < m.marks.length → exec (.lostMarkQueue i) s = .next s)


/-- At an idle moment, or at the end of a CAL_PERMIT vector outside the MSE's committed window, where no commit of the cycle
starts an engine, the first pending procedure that R407 admits takes the site into CAL: its cells are Z and its PPMUs
disconnected for a pin procedure, and the PSQ stands in CAL_HOLD after a CAL_PERMIT. Without one, nothing happens, and
CAL_PERMIT acts as ADV. A procedure that has waited CAL_MAX_DEFER makes the site stale. Class 0x13, which the entries reserved
may concern, stands at a level that it accepts. The sweep goes turn by turn and phase by phase, and closes after its fourth
phase with no site in it. Where it rests on a choice or an inference of the model: log entries 1902, 1905. -/
def Obligations.CalibrationEntry : Prop :=
  ∀ (s : State) (i : Fin 64) (b n a : BitVec 8), let p := s.psq i; let u := Claims.ran s i ⟨b, n, a⟩ true false
    let entered (t : State) (from_ : SiteState) (q : Nat) : Prop :=
      t.siteState i = .cal ∧ (t.site i).ctl.calFrom = from_ ∧ (t.site i).ctl.cause = .calBegin ∧
      (1 ≤ q → q ≤ 4 → (t.siteCal i).running = q ∧ (t.siteCal i).proc = q ∧ (t.siteCal i).step = 0) ∧
      (q = 3 ∨ q = 4 → ∀ c, (t.cell i c).connected = false) ∧ (q = 5 → (t.site i).tdc.run = .running) ∧
      (s.siteCal i).pending = (t.siteCal i).pending
    (Claims.Due s i 0x0B → Claims.Clean s i ⟨b, n, a⟩ true false → p.pc.toNat % 4096 ≠ 4095 →
      u.calReady i = none ∨ u.mseShut i = true ∨ u.startDue i = true →
      ∃ t, exec (.calPermit i b n a) s = .next t ∧ Claims.GoesOn s i t (p.pc + 1)) ∧
    (∀ q, field (s.gtCfg 0x13) 2 0 ≤ 1 → Claims.Due s i 0x0B → Claims.Clean s i ⟨b, n, a⟩ true false → u.calReady i = some q → u.mseShut i = false → u.startDue i = false →
      ∃ t, exec (.calPermit i b n a) s = .next t ∧ entered t (s.siteState i) q ∧ (t.psq i).state = .calHold ∧
        (t.psq i).pc = p.pc ∧ (t.psq i).lines = 0 ∧ (t.psq i).vectors = p.vectors + 1) ∧
    (∀ q, field (s.gtCfg 0x13) 2 0 ≤ 1 → s.idleMoment i = true → s.startDue i = false → s.calReady i = some q → s.calRoom i q = true →
      ∃ t, exec (.calEntry i) s = .next t ∧ entered t .ready q ∧ (q ≠ 5 → t.assize = s.assize → t.dict = s.dict)) ∧
    (s.idleMoment i = false ∨ s.startDue i = true ∨ s.calReady i = none → exec (.calEntry i) s = .next s) ∧
    (∀ q, s.calReady i = some q → s.calNext i = some q ∧ s.calAdmits i q = true) ∧
    (∀ t0, s.calOldest i = some t0 → (s.siteCal i).stale = false → ∃ w : State,
      exec (.calMaxDeferExpiry i) s = .next (w.present (.ofSite i) 0xB0 (addrOf 0x2605 (i.val + 1)) 0) ∧
      (w.siteCal i).stale = true ∧ let v := s.advance (addGrains t0 (s.cfg 0x2604 1 * 512000000 : Nat))
      w = { v with cal := w.cal } ∧ ∀ j, j ≠ i → w.siteCal j = s.siteCal j) ∧
    (s.calOldest i = none ∨ (s.siteCal i).stale = true → exec (.calMaxDeferExpiry i) s = .next s) ∧
    (let w := s.cal.sweep; let mine := (s.siteCal i).swept = true
      (w.phase = 0 ∨ s.sweepBusy = true → exec .sweepPhaseDone s = .next s) ∧
      (w.phase < 4 → sweepTurns w.phase ≤ w.units → s.sweepRoom (w.phase + 1) = false → exec .sweepPhaseDone s = .next s) ∧
      (1 ≤ w.phase → w.phase < 4 → s.sweepBusy = false → sweepTurns w.phase ≤ w.units → s.sweepRoom (w.phase + 1) = true → ∃ t, exec .sweepPhaseDone s = .next t ∧
        t.cal.sweep.phase = w.phase + 1 ∧ (mine → w.phase = 1 → (t.siteCal i).proc = 1) ∧
        (mine → w.phase = 2 → i.val % 16 = 0 → (t.siteCal i).proc = 3) ∧
        (mine → w.phase = 3 → i.val % 16 < 2 → (t.siteCal i).proc = 4)) ∧
      (s.sweepBusy = false → w.units < sweepTurns w.phase → 2 ≤ w.phase → ∃ t, exec .sweepPhaseDone s = .next t ∧
        t.cal.sweep.phase = w.phase ∧ (mine → w.phase = 2 → w.units = 0 → (t.siteCal i).proc = 2) ∧
        (mine → w.phase = 3 → i.val % 16 = w.units + 1 → (t.siteCal i).proc = 3) ∧
        (mine → w.phase = 4 → i.val % 16 / 2 = w.units + 1 → (t.siteCal i).proc = 4)) ∧
      (4 ≤ w.phase → s.sweepBusy = false → sweepTurns w.phase ≤ w.units → ∃ t, exec .sweepPhaseDone s = .next t ∧
        t.cal.sweep = { phase := 0, units := 0, counter := 0, reserved := 0 } ∧ (∀ j, (t.siteCal j).swept = false) ∧
        (∀ c, OpenMark.sweep c ∉ t.assize.marks)))

/-- The codes of a step are kept until the last step of the procedure has passed; then every trim field of the procedure takes its
code in one commit, and FAILED clears. A code beyond the span of its field, two runs that differ by more than CAL_TOLERANCE,
or a timeout end the procedure: FAILED and CAUSE are set, CAL_FAIL is presented, no trim changes. Either way the procedure is
no longer pending, the site leaves CAL for the state it held, a PSQ in CAL_HOLD goes on from a point of its grid, and with
nothing pending T_REF is the governing temperature and staleness ends. Where it rests on a choice or an inference of the
model: log entries 1902, 1903. -/
def Obligations.CalibrationSteps : Prop :=
  ∀ (s : State) (i : Fin 64) (codes : List Int), let c := s.siteCal i; let fields := (calSteps c.proc).getD c.step []
    let got := s.calCodes i codes; let on := s.siteState i = .cal ∧ c.proc ≠ 0; let last := c.step + 1 = (calSteps c.proc).length
    let bit := 1#4 <<< (c.proc - 1)
    let apart := ∃ k, k < c.firstRun.length ∧ k < got.length ∧
      s.cfg 0x2603 1 < (c.firstRun.getD k 0 - (got.getD k (0, 0, 0)).2.2).natAbs
    let late := before (s.calTimeout i) s.clock = true
    let failed (v : State) (cause : Nat) (r : Host.Outcome State Fault Refusal) : Prop :=
      ∃ w : State, r = .next ((w.calEnd i).present (.ofSite i) 0xB1 c.proc 0) ∧ w.dict = v.dict ∧ w.sites = v.sites ∧ w.clock = v.clock ∧
        (w.siteCal i).failed = c.failed ||| bit ∧ (w.siteCal i).cause = cause ∧ (w.siteCal i).pending = c.pending ∧
        (w.siteCal i).proc = c.proc
    (¬on → exec (.calStepDone i codes) s = .next s ∧ exec (.calStepTimeout i) s = .next s) ∧
    (on → failed (s.advance (addGrains c.stepFrom (4 * (if c.proc = 4 then 3200 else 400) * 512000 : Nat))) 1 (exec (.calStepTimeout i) s)) ∧
    (on → late → failed s 1 (exec (.calStepDone i codes) s)) ∧
    (on → ¬late → (∃ g ∈ got, calBeyond fields g = true) → failed s 3 (exec (.calStepDone i codes) s)) ∧
    (on → ¬late → (∀ g ∈ got, calBeyond fields g = false) →
      (c.repeat_ = true → c.second = false → exec (.calStepDone i codes) s =
        .next (s.modCal i fun c => { c with second := true, stepFrom := s.clock, firstRun := got.map fun e => e.2.2 })) ∧
      (c.repeat_ = true → c.second = true → apart → failed s 2 (exec (.calStepDone i codes) s)) ∧
      (c.repeat_ = false ∨ (c.second = true ∧ ¬apart) →
        (c.step + 1 < (calSteps c.proc).length → exec (.calStepDone i codes) s = .next (s.modCal i fun c =>
          { c with step := c.step + 1, stepFrom := s.clock, second := false, firstRun := [], found := c.found ++ got })) ∧
        (last → sparseWf initial s.dict = true → ∃ w : State, exec (.calStepDone i codes) s = .next (w.calEnd i) ∧
          (w.siteCal i).failed = c.failed &&& ~~~bit ∧
          (∀ k a, (k, a) ∈ ((calAddrs i c.proc).zipIdx.map fun p => (p.2, p.1)) → ∀ f ∈ (calSteps c.proc).flatten, ∀ v,
            ((c.found ++ got).find? fun e => e.1 == k && e.2.1 == f.1) = some (k, f.1, v) →
              field (w.val a) (f.1 + f.2 - 1) f.1 = ofInt v f.2) ∧
          (∀ a, a ∉ calAddrs i c.proc → w.val a = s.val a)))) ∧
    (let t := s.calEnd i;
      c.proc ≠ 0 → c.swept = false →
        ((s.psq i).state ≠ .calHold → (s.site i).ctl.calFrom = .ready → t.siteState i = .ready ∧ (t.site i).ctl.cause = .calEnd ∧
          (t.siteCal i).proc = 0 ∧ (t.siteCal i).running = 0 ∧ (c.again = false → (t.siteCal i).pending = c.pending &&& ~~~bit) ∧
          (c.again = true → (t.siteCal i).pending = c.pending) ∧ (Claims.NoAcks s → t.dict = s.dict) ∧
          (c.again = false → c.pending &&& ~~~bit = 0 → (t.siteCal i).stale = false ∧
            ∀ g, s.siteState i ≠ .off → s.governing i = some g → (t.siteCal i).tRef = BitVec.ofNat 12 g)) ∧
        ((s.psq i).state = .calHold → (s.site i).ctl.calFrom = .running → (s.psq i).resume = none →
          t.siteState i = .running ∧ (t.psq i).resume = some none ∧ (t.psq i).pc = (s.psq i).pc ∧
          (t.psq i).zero = gridAfter (s.psq i).zero s.clock 81920))

/-- A plausible reading of a cell sensor that is not suspect is used as it is, a dead one makes the sensor suspect and its
neighbours stand in. A used reading at SHUT_SET shuts the site down into SAFE; an acknowledged shutdown that has cooled is left.
At THR_SET the site steps down, and steps follow at 1.024 ms and 16.384 ms. An RQ reading is used, and shuts its region down, or
resets the chip, at its threshold. P_EST above LEVEL puts a site into the hot class. P_EST is the output current times 15 V less
the force voltage (which of two steps an inexact one takes is the model's free value, log entry 1709). P_CHIP is P_BASE and the
loads, and above BUDGET each site above its share steps down.
Where it rests on a choice or an inference of the model: log entries 1702, 1703, 1704, 1705, 1708, 1709, 1710. -/
def Obligations.ThermalAndPower : Prop :=
  ∀ (s : State) (i : Fin 64), let th := s.siteThermal i; let q := regionOf i
    (∀ (n : Fin 6) k, n.val < 5 → s.coreUp = false ∨ s.siteState i = .off → exec (.sensorReading i n k) s = .next s) ∧
    (∀ (n : Fin 4) k, s.coreUp = true → s.siteState i ≠ .off → ∃ t, exec (.sensorReading i (Fin.ofNat 6 n.val) k) s = .next t ∧
      let x := (t.siteThermal i).sensors[n.val]; let u := s.readCell i (Fin.ofNat 5 n.val) k
      x.code = k ∧
      (Claims.Plausible s i (Fin.ofNat 5 n.val) k → (th.sensors[n.val]).suspect = false →
        x.used = some k ∧ x.suspect = false ∧ x.strikes = 0 ∧
        (s.thSet 3 ≤ k.toNat → th.latched = false → s.siteState i = .ready ∨ s.siteState i = .running →
          (s.site i).ctl.trans = none → (t.siteThermal i).latched = true ∧ (t.siteThermal i).acked = false ∧
          t.siteState i = .safe ∧ (t.site i).ctl.cause = .thermal) ∧
        (k.toNat < s.thSet 3 → th.latched = false → (t.siteThermal i).latched = false) ∧
        (k.toNat < s.thSet 3 → th.latched = true → th.acked = true → u.shutCool i = true → (t.siteThermal i).latched = false) ∧
        (k.toNat < s.thSet 3 → th.latched = true → th.acked = false ∨ u.shutCool i = false → (t.siteThermal i).latched = true)) ∧
      (k = 0 ∨ k = 4095 → x.suspect = true ∧ x.used = (s.modSensor i (Fin.ofNat 5 n.val) fun x => { x with suspect := true }).standIn i
        (Fin.ofNat 5 n.val)) ∧
      (∀ g, u.governing i = some g →
        (s.thSet 1 ≤ g → (t.siteThermal i).warn = true) ∧ (s.thSet 2 ≤ g → (t.siteThermal i).thr = true ∧
          (t.siteThermal i).downFrom.isSome = true ∧ (th.downFrom = none → (t.siteThermal i).step = min 8 (th.step + 1))) ∧
        ((th.sensors[n.val]).used ≠ none → g ≤ s.thRel 1 → g < s.thSet 1 → (t.siteThermal i).warn = false) ∧
        ((th.sensors[n.val]).used ≠ none → g ≤ s.thRel 2 → g < s.thSet 2 → th.ssFail = 0 → (t.siteThermal i).thr = false ∧
          (t.siteThermal i).upFrom.isSome = true ∧ (t.siteThermal i).step = th.step))) ∧
    (∀ k, s.coreUp = true → k ≠ 0 → k ≠ 4095 → k.toNat < s.thRel 4 → s.thermal.chipShut = false → s.regionSS q = [] →
      ∃ t, exec (.sensorReading i 5 k) s = .next t ∧ let r := t.thermal.regions[q.val]
        r.rq.used = some k ∧ r.rq.suspect = false ∧ r.rounds = (s.thermal.regions[q.val]).rounds + 1 ∧
        r.shut = ((s.thermal.regions[q.val]).shut || decide (s.thSet 4 ≤ k.toNat))) ∧
    (∀ k, s.coreUp = true → k ≠ 0 → k ≠ 4095 → s.thRel 4 ≤ k.toNat → s.regionSS q = [] →
      ∃ t, exec (.sensorReading i 5 k) s = .next t ∧ t.rst.phase = .inReset ∧ t.rst.cause = 6 ∧ t.rst.thermalHold = true ∧
        ∀ j, t.siteState j = .off) ∧
    (∀ k, s.coreUp = false → s.rst.phase = .inReset → k ≠ 0 → k ≠ 4095 → ∃ t, exec (.sensorReading i 5 k) s = .next t ∧
      (t.thermal.regions[q.val]).rq.used = some k ∧ t.sites = s.sites ∧ t.gauntlet = s.gauntlet) ∧
    (∀ (u : Fin 2) out force, s.siteState i ≠ .off → ∃ t, exec (.hotClassEntry i u out force) s = .next t ∧
      Claims.Power (s.bridge i u) (t.bridge i u) out force ∧ (t.siteThermal i).hot = (th.hot ||
        decide (field (s.cfg 0x2504 1) 6 0 * 10 * field (s.buRange i u) 23 16 < 100 * (t.bridge i u).pEst)) ∧
      t.bridge i (1 - u) = s.bridge i (1 - u) ∧ t.dict = s.dict ∧ t.psq i = s.psq i ∧ t.mse i = s.mse i) ∧
    (∀ out0 force0 out1 force1, s.siteState i ≠ .off → ∃ t, exec (.hotClassExit i out0 force0 out1 force1) s = .next t ∧
      let lim (u : Fin 2) := decide (field (s.cfg 0x2504 1) 14 8 * 10 * field (s.buRange i u) 23 16 < 100 * (t.bridge i u).pEst)
      Claims.Power (s.bridge i 0) (t.bridge i 0) out0 force0 ∧ Claims.Power (s.bridge i 1) (t.bridge i 1) out1 force1 ∧
      (t.siteThermal i).hot = (th.hot && (lim 0 || lim 1)) ∧ t.dict = s.dict ∧
      (lim 0 = false → lim 1 = false → t.clock = laterOf s.clock (addGrains (th.calm.getD s.clock) 8388608000))) ∧
    (s.siteState i = .off → ∀ u out force out1 force1, exec (.hotClassEntry i u out force) s = .next s ∧
      exec (.hotClassExit i out force out1 force1) s = .next s) ∧
    (∀ t0, th.downFrom = some t0 → s.thermalHigh i = true → ∃ t, exec (.thermalStepDown i) s = .next t ∧
      (t.siteThermal i).step = min 8 (th.step + 1) ∧ (t.siteThermal i).downFrom = some (addGrains t0 524288000) ∧
      t.clock = laterOf s.clock (addGrains t0 524288000)) ∧
    (th.downFrom = none ∨ s.thermalHigh i = false → exec (.thermalStepDown i) s = .next s) ∧
    (∀ t0, th.upFrom = some t0 → ∃ t, exec (.thermalStepUp i) s = .next t ∧ (t.siteThermal i).step = th.step - 1 ∧
      (t.siteThermal i).upFrom = some (addGrains t0 8388608000) ∧ t.clock = laterOf s.clock (addGrains t0 8388608000)) ∧
    (th.upFrom = none → exec (.thermalStepUp i) s = .next s) ∧
    (∀ iOut force ppmu, ∃ t, exec (.budgetUpdate iOut force ppmu) s = .next t ∧
      let load := Claims.load s t ppmu; let all := ((Claims.upSites s).map load).sum; let b := s.cfg 0x2503 1 * 1000
      let left := b - s.powerBase
      t.thermal.pBase = s.powerBase ∧ t.clock = laterOf s.clock (addGrains s.thermal.pAt 524288000) ∧ (field (s.gtCfg 0x0E) 2 0 ≤ 1 → Claims.NoAcks s →
      (∀ j u, s.siteState j ≠ .off → let k := 2 * j.val + u.val
        Claims.Power (s.bridge j u) (t.bridge j u) (iOut.getD k 0) (force.getD k 0)) ∧
      t.thermal.pChip = s.powerBase + all ∧
      t.thermal.overBudget = decide (b < s.powerBase + all) ∧
      (b < s.powerBase + all → s.siteState i ≠ .off → (t.siteThermal i).budgetStep =
        if throttleMul th.step * left < 100 * (Claims.upSites s).length * load i then min 8 (th.budgetStep + 1)
        else th.budgetStep) ∧
      (s.powerBase + all ≤ b → (t.siteThermal i).budgetStep = th.budgetStep))) ∧
    (∀ t0, s.thermal.lowSince = some t0 → ∃ t, exec .budgetStepUp s = .next t ∧
      (t.siteThermal i).budgetStep = th.budgetStep - 1 ∧ t.thermal.lowSince = some (addGrains t0 8388608000) ∧
      t.clock = laterOf s.clock (addGrains t0 8388608000)) ∧
    (s.thermal.lowSince = none → exec .budgetStepUp s = .next s)

/-- A kind presented without escalation by a source that is powered makes a record in the lowest free slot, or counts in the one
with its identity: with its level, its detail, and gone at once when it is an event. A source of a site that is OFF presents
nothing. A bridge unit's condition goes when its supervision ends: the unit opens, or its SUP_EN bit is cleared. When its
condition goes, an acknowledged record clears and another is marked gone; acknowledging marks a record, or clears one that is
gone, and resets the recovery counts of the scopes it has forced. A quiet period releases a scope whose records all recover by
themselves, and counts it; other scopes stay forced. Where it rests on a choice or an inference of the model: log entries
1507, 1801, 1802, 1804, 1805. -/
def Obligations.FaultRecords : Prop :=
  ∀ (s : State) (o : Origin) (kind detail flevel : Nat), let level := s.gtBase kind flevel
    let now := time64 s.clock; let t := s.raise o kind detail flevel
    let dark := (o.level = .cell ∨ o.level = .site) ∧ s.siteState o.siteOf = .off
    let plain := ¬dark ∧ ¬((o.level = .cell ∨ o.level = .site) ∧ s.siteState o.siteOf = .fenced) ∧
      bitOf (s.gtCfg (gtClass kind)) 3 = false
    s.present o kind detail flevel = t.superviseEnd ∧
    (∀ x : State, ((∀ r ∈ x.gtRecords, r.gone = false → x.supervised r = true) → x.superviseEnd = x) ∧
      (Claims.Unacked x → ∃ g, x.superviseEnd = { x with gauntlet := g }) ∧
      (∀ r, x.gtRecords.filter (fun r => !r.gone && !x.supervised r) = [r] → x.superviseEnd = x.gone r.origin r.kind)) ∧
    (∀ (x : State) (i : Fin 64) (u : Fin 2) (k : Fin 3) (r : GtRecord), r.origin = .ofCell i u.val → r.kind = 0x40 + k.val →
      x.supervised r = ((x.bridge i u).connected && bitOf (x.buCtrl i u) (6 + k.val))) ∧
    (dark → t = s) ∧
    (∀ n, plain → s.gtFind o kind = none → s.gtFree = some n → t.gtSlot n = some
      { origin := o, kind := kind, detail := BitVec.ofNat 32 detail, tFirst := now, tLast := now, since := s.clock,
        heard := s.clock, called := s.clock, count := 1, applied := level, gone := gtEvent kind, acked := false, escalated := false,
        scopes := o.scopes level, reached := o.scopes level, rseq := s.gauntlet.rseq } ∧
      t.gauntlet.rseq = s.gauntlet.rseq + 1) ∧
    (∀ n r, plain → Claims.Standing s o kind n r → ∃ x, t.gtSlot n = some x ∧ x.origin = o ∧ x.kind = kind ∧
      x.detail = BitVec.ofNat 32 detail ∧ x.tFirst = r.tFirst ∧ x.tLast = now ∧ x.count = satInc 0xFFFFFFFF r.count ∧
      x.applied = max r.applied level ∧ x.gone = gtEvent kind ∧ x.acked = false ∧ x.rseq = r.rseq) ∧
    (plain → s.gtFind o kind = none → s.gtFree = none → s.gauntlet.overflow = none → ∃ x, t.gauntlet.overflow = some x ∧
      x.kind = 0xE0 ∧ x.detail = BitVec.ofNat 32 kind ∧ x.count = 1 ∧ x.applied = max 1 level ∧ x.scopes = o.scopes level ∧
      t.gauntlet.slots = s.gauntlet.slots) ∧
    (∀ (i : Fin 64) (c : Fin 8), let g (k : BitVec 12) := exec (.conditionGone k i c) s
      let ends (k : BitVec 12) (o : Origin) (x : State) : Prop :=
        (s.gtFind o k.toNat = none → g k = .next x) ∧
        (∀ n r, Claims.Standing s o k.toNat n r → r.acked = false → g k = .next (x.gtSet n (some { r with gone := true }))) ∧
        (∀ n r, Claims.Standing s o k.toNat n r → r.acked = true → ∃ t, g k = .next t ∧ t.gtSlot n = none ∧ t.clock = s.clock ∧
          t.pll = s.pll)
      ends 0x20 (.ofCell i c.val) s ∧ ends 0x40 (.ofCell i (c.val % 2)) s ∧ ends 0x41 (.ofCell i (c.val % 2)) s ∧
      ends 0x42 (.ofCell i (c.val % 2)) s ∧
      ((s.psq i).state ≠ .underrun → ends 0x34 (.ofSite i) s) ∧ ((s.psq i).state = .underrun → g 0x34 = .next s) ∧
      (s.can.bus = .errorPassive →
        ends 0x83 .ofChip { s with can := { s.can with bus := .errorActive, tec := min 127 s.can.tec, recv := min 127 s.can.recv } }) ∧
      (s.can.bus = .silent → 128 ≤ max s.can.tec s.can.recv →
        ends 0x83 .ofChip { s with can := { s.can with tec := min 127 s.can.tec, recv := min 127 s.can.recv } }) ∧
      (s.can.bus ≠ .errorPassive → s.can.bus ≠ .silent ∨ max s.can.tec s.can.recv < 128 → g 0x83 = .next s) ∧
      (s.rst.supplyFault.isSome = true → ends 0xC0 .ofChip { s with rst := { s.rst with supplyFault := none } }) ∧
      (s.rst.supplyFault = none → g 0xC0 = .next s) ∧
      (∀ k, k ∉ [0x20#12, 0x34#12, 0x40#12, 0x41#12, 0x42#12, 0x83#12, 0xC0#12] → g k = .next s)) ∧
    (∀ n r, s.gtSlot n = some r →
      (s.cyclesPast r.heard 3 = false → s.gtAck n = s) ∧
      (s.cyclesPast r.heard 3 = true → r.gone = true → (s.gtAck n).gtSlot n = none) ∧
      (s.cyclesPast r.heard 3 = true → r.gone = false → (s.gtAck n).gtSlot n = some { r with acked := true } ∧ (s.gtAck n).sites = s.sites) ∧
      (s.cyclesPast r.heard 3 = true → ∀ sc ∈ r.reached, (vgetN (s.gtAck n).gauntlet.recovery sc.place { count := 1, latched := true }) =
        { count := 0, latched := false })) ∧
    (∀ k : Fin 69, let sc : Scope := if h : k.val < 64 then .site ⟨k.val, h⟩ else if k.val < 68 then .region (Fin.ofNat 4 (k.val - 64)) else .chip
      let old := vgetN s.gauntlet.recovery k.val { count := 0, latched := false }
      (s.mayRecover sc = true → ∃ t, exec (.quietPeriodExpiry k) s = .next t ∧ t.gtForced sc = false ∧
        t.clock = laterOf s.clock (s.quietEnd sc) ∧ (∀ x, x ≠ sc → t.gtForced x = s.gtForced x) ∧
        vgetN t.gauntlet.recovery k.val old = { count := satInc 255 old.count, latched := old.latched || decide (s.cfg 0x2406 1 ≤ old.count + 1) }) ∧
      (s.mayRecover sc = false → exec (.quietPeriodExpiry k) s = .next s))

/-- Training: lock and alignment of the lanes give the width, PINGs are answered, 64 samples within 50 µs make the port ACTIVE
(STANDBY after a break, BYPASS in a bypassed chip); a port that fails to train is DOWN after them and trains again 1 ms later.
ACK releases the replay buffer, NAK repeats from it, the eighth repeat in a row takes the port DOWN, CREDIT adds words. A port
that goes DOWN counts it and retrains; in a ring it tells the other side with BREAK and the host port turns when it was lost;
in a chain the chip is CUT. IDLE does nothing, and unknown blocks are counted. Where it rests on a choice or an inference of
the model: log entries 1401, 1402, 1409, 1410. -/
def Obligations.LinkLayer : Prop :=
  ∀ (s : State) (p : Fin 2), let q := s.port p; let other := otherPort p
    (∃ t, exec .linkPllLocked s = .next t ∧ t.pll.linkLocked = true ∧ t.dict = s.dict ∧
      (s.rst.phase = .inReset → s.rst.cause ≤ 2 → t.furlong = s.furlong) ∧
      (s.rst.phase ≠ .inReset ∨ 2 < s.rst.cause →
        (q.state = .down → (t.port p).state = .training ∧ (t.port p).txSeq = 0 ∧ (t.port p).rxSeq = 0 ∧ (t.port p).samples = []) ∧
        (q.state ≠ .down → t.port p = q))) ∧
    exec (.idleBlock p) s = .next s ∧
    exec (.ctlBlockUnknown p) s = .next (s.modPort p fun q => { q with ctlErrs := satInc 0xFFFF q.ctlErrs }) ∧
    (∀ l : Fin 4,
      (q.state = .training → ∃ t, exec (.laneAlignBlock p l) s = .next t ∧ (t.port p).aligned[l.val] = true ∧
        (t.port p).locked[l.val] = true ∧ t.port other = s.port other ∧
        (q.widthOf = 0 → (t.port p).widthOf ≠ 0 → (t.port p).out = q.out ++ [Claims.block 0x88 (grains s.clock)])) ∧
      (q.state ≠ .training → exec (.laneAlignBlock p l) s = .next s) ∧
      (∃ t, exec (.blockLockLost p l) s = .next t ∧ (t.port p).aligned[l.val] = false ∧ (t.port p).locked[l.val] = false ∧
        t.port other = s.port other ∧ t.dict = s.dict ∧ t.sites = s.sites)) ∧
    (∀ time, (q.state = .down → exec (.pingBlock p time) s = .next s) ∧
      (q.state ≠ .down → ∃ t, ∃ residence : BitVec 52, exec (.pingBlock p time) s = .next t ∧
        (t.port p).out = q.out ++ [Claims.block 0x89 (time + residence).toNat] ∧ t.port other = s.port other) ∧
      (q.state = .training → q.samples.length < 64 → ∃ t, exec (.pongBlock p time) s = .next t ∧
        (t.port p).samples = q.samples ++ [(BitVec.ofNat 52 (grains s.clock) - time).toNat / 2] ∧
        (q.samples.length < 63 → (t.port p).out = q.out ++ [Claims.block 0x88 (grains s.clock)])) ∧
      (q.state ≠ .training ∨ 64 ≤ q.samples.length → exec (.pongBlock p time) s = .next s)) ∧
    (let fit := addGrains q.since 25600000; let again := addGrains q.since 512000000
    (∀ m, median2 q.samples = some m → q.state = .training → before fit s.clock = false → q.widthOf ≠ 0 → q.samples.length = 64 →
      ∃ t, exec (.portTrained p) s = .next t ∧ (t.port p).width = q.widthOf ∧ (t.port p).linkLat = BitVec.ofNat 20 (m / 2) ∧
        (t.port p).state = if q.broken then .standby else if s.furlong.bypassed then .bypass else .active) ∧
    (q.state ≠ .training ∨ q.widthOf = 0 ∨ q.samples.length ≠ 64 ∨ before fit s.clock = true → exec (.portTrained p) s = .next s) ∧
    (∃ t, exec (.trainingRetry p) s = .next t ∧ t.dict = s.dict ∧
      (q.state = .training → (t.port p).state = .down ∧ t.clock = laterOf s.clock fit ∧ (t.port p).since = t.clock ∧
        t.port other = (s.advance fit).port other) ∧
      (q.state = .down → (t.port p).state = (if s.pll.linkLocked then .training else .down) ∧
        t.clock = laterOf s.clock again ∧ (t.port p).since = t.clock ∧ t.port other = (s.advance again).port other) ∧
      (q.state ≠ .training → q.state ≠ .down → t = s))) ∧
    (∀ lseq : BitVec 16,
      (∃ t, exec (.ackBlock p lseq) s = .next t ∧ (∀ e, e ∈ (t.port p).replay ↔ e ∈ q.replay ∧ 0x8000 ≤ (lseq - e.1).toNat) ∧
        (t.port p).out = q.out ∧ t.port other = s.port other) ∧
      (let again := q.replay.filter fun e => decide ((e.1 - lseq).toNat < 0x8000);
       let row := if q.replayRow ≠ 0 ∧ q.replaySeq = lseq then q.replayRow + 1 else 1;
        (q.carries = true → again ≠ [] → row < 8 → ∃ t, exec (.nakBlock p lseq) s = .next t ∧
          (t.port p).out = q.out ++ again.map (fun e => .packet e.1 e.2) ∧ (t.port p).replays = satInc 0xFFFF q.replays ∧
          (t.port p).replay = q.replay ∧ (t.port p).replayRow = row) ∧
        (q.carries = true → again ≠ [] → 8 ≤ row → ∃ t, exec (.nakBlock p lseq) s = .next t ∧
          (t.port p).linkDowns = satInc 0xFFFF q.linkDowns) ∧
        (q.carries = false ∨ again = [] → exec (.nakBlock p lseq) s = .next s))) ∧
    (∀ (vc : Fin 3) (words : BitVec 14), ∃ t, exec (.creditBlock p vc words) s = .next t ∧
      (t.port p).credits[vc.val] = q.credits[vc.val] + words.toNat ∧
      (∀ v : Fin 3, v ≠ vc → (t.port p).credits[v.val] = q.credits[v.val]) ∧ t.port other = s.port other) ∧
    (q.ackOwed = true → ∃ t, exec (.ackTimer p) s = .next t ∧ (t.port p).ackOwed = false ∧ (t.port p).rxUnacked = 0 ∧
      (t.port p).out = q.out ++ [Claims.block 0x81 ((q.rxSeq - 1).toNat * 2 ^ 40)]) ∧
    (q.ackOwed = false → exec (.ackTimer p) s = .next s) ∧
    (q.state = .active ∨ q.state = .standby ∨ q.state = .bypass → ∃ t, exec (.portDown p) s = .next t ∧ let f := s.furlong
      (t.port p).linkDowns = satInc 0xFFFF q.linkDowns ∧ (t.port p).width = 0 ∧
      (t.port p).state = (if s.pll.linkLocked then .training else .down) ∧
      (f.addr ≠ 0 → s.ringMode = true → (t.port p).broken = true ∧ (p = f.enumPort →
        Claims.block 0x86 ((f.addr - 1).toNat * 2 ^ 40 + 2 ^ 39) ∈ (t.port other).out ∧ t.furlong.lostLo = true ∧
        (f.lostHi = false → t.furlong.topo = .reversed ∧ t.furlong.hostPort = other)) ∧
        (p ≠ f.enumPort → Claims.block 0x86 ((f.addr + 1).toNat * 2 ^ 40) ∈ (t.port other).out ∧ t.furlong.lostHi = true ∧
          (f.lostLo = false → t.furlong.topo = .normal ∧ t.furlong.hostPort = f.enumPort))) ∧
      (f.addr ≠ 0 → s.ringMode = false → p = f.enumPort → t.furlong.topo = .cut)) ∧
    (q.state = .down ∨ q.state = .training → exec (.portDown p) s = .next s)

/-- An ENUM block is accepted while ADDR is 0 or ENUM_EN is 1: it sets ADDR, PATH_LAT and the host port, clears ENUM_EN, and goes
on with NEXT + 1, or turns into ENUM_END at the end of the chain; another is passed on unchanged. ENUM_END sets CHAIN_LEN,
BREAK narrows REACH, both are passed on. A packet that fails its check or its order is discarded, and a NAK asks for the
expected one; a sound one is consumed, passed on or dropped by its DEST. A granted ring slot sends the next waiting packet
with its LSEQ, against its credits, and keeps it for replay. A SYNC packet's first copy is a SYNC edge. Where it rests on a
choice or an inference of the model: log entries 1402, 1403, 1404, 1408, 1412. -/
def Obligations.EnumerationAndPackets : Prop :=
  ∀ (s : State) (p : Fin 2), let q := s.port p; let far := otherPort p; let f := s.furlong
    (∀ next acc, f.addr = 0 ∨ bitOf (s.cfg 0x2200 1) 1 = true → let lat := acc + q.linkLat.setWidth 32
      ∃ t, exec (.enumBlock p next acc) s = .next t ∧ t.furlong.addr = next ∧ t.furlong.pathLat = lat ∧ t.furlong.hostPort = p ∧
        t.furlong.enumPort = p ∧ t.furlong.topo = .normal ∧
        (sparseWf initial s.dict = true → bitOf (t.cfg 0x2200 1) 1 = false) ∧
        ((s.port far).state = .down ∨ (s.port far).state = .training → t.furlong.chainLen = next ∧
          (t.port p).out = q.out ++ [Claims.block 0x85 (next.toNat * 2 ^ 40)] ∧ t.port far = s.port far) ∧
        ((s.port far).state ≠ .down → (s.port far).state ≠ .training → t.port p = q ∧
          (t.port far).out = (s.port far).out ++
            if next = 0xFFFE then [] else [Claims.block 0x84 ((next.toNat + 1) * 2 ^ 40 + (lat + 20480).toNat * 2 ^ 8)])) ∧
    (∀ next acc, f.addr ≠ 0 → bitOf (s.cfg 0x2200 1) 1 = false → exec (.enumBlock p next acc) s =
      .next (s.modPort far fun r => { r with out := r.out ++ [Claims.block 0x84 (next.toNat * 2 ^ 40 + acc.toNat * 2 ^ 8)] })) ∧
    (∀ last, ∃ t, exec (.enumEndBlock p last) s = .next t ∧ t.furlong.chainLen = last ∧ t.furlong.addr = f.addr ∧
      (t.port far).out = (s.port far).out ++ [Claims.block 0x85 (last.toNat * 2 ^ 40)] ∧ t.port p = q) ∧
    (∀ edge dir, ∃ t, exec (.breakBlock p edge dir) s = .next t ∧
      Claims.block 0x86 (edge.toNat * 2 ^ 40 + if dir then 2 ^ 39 else 0) ∈ (t.port far).out ∧
      t.furlong.lostLo = (f.lostLo || dir) ∧ t.furlong.lostHi = (f.lostHi || !dir) ∧
      t.furlong.reachLo = (if dir ∧ f.reachLo.toNat ≤ edge.toNat then edge + 1 else f.reachLo) ∧
      t.furlong.reachHi = (if dir = false ∧ edge.toNat ≤ f.reachHi.toNat then edge - 1 else f.reachHi) ∧
      (f.addr ≠ 0 → dir = true → f.lostHi = false → s.ringMode = true → t.furlong.topo = .reversed ∧
        t.furlong.hostPort = otherPort f.enumPort)) ∧
    (∀ lseq h0 payload trailer, let pk : Packet := { h0 := h0, payload := payload, stomp := false }
      let run := exec (.packetReceive p lseq h0 payload trailer) s
      let sound := packetCrc h0 payload = trailer.setWidth 32 ∧ (pk.length = 0 ∨ payload.length = pk.length)
      let errs := if sound then q.crcErrs else satInc 0xFFFF q.crcErrs
      let nak := Claims.block 0x82 (q.rxSeq.toNat * 2 ^ 40)
      (q.carries = false → run = .next s) ∧
      (q.carries = true → lseq = q.rxSeq → trailer.getLsbD 63 = true → ∃ t, run = .next t ∧ (t.port p).waitReplay = true ∧
        (t.port p).rxSeq = q.rxSeq ∧ (t.port p).crcErrs = errs ∧ t.furlong.inbox = f.inbox) ∧
      (q.carries = true → lseq = q.rxSeq → trailer.getLsbD 63 = false → ¬sound → ∃ t, run = .next t ∧ (t.port p).waitReplay = true ∧
        (t.port p).rxSeq = q.rxSeq ∧ (t.port p).crcErrs = satInc 0xFFFF q.crcErrs ∧ nak ∈ (t.port p).out ∧
        t.furlong.inbox = f.inbox) ∧
      (q.carries = true → lseq ≠ q.rxSeq → let seen := s.modPort p fun r => { r with crcErrs := errs }
        (q.waitReplay = true ∨ trailer.getLsbD 63 = true → run = .next seen) ∧
        (q.waitReplay = false → trailer.getLsbD 63 = false → run = .next
          (seen.modPort p fun r => { r with waitReplay := true, out := r.out ++ [nak] }))) ∧
      (Claims.Arrives s p lseq pk trailer →
        (pk.length = 0 → ∃ t, run = .next t ∧ (t.port p).ctlErrs = satInc 0xFFFF q.ctlErrs ∧ t.furlong.inbox = f.inbox) ∧
        (pk.length ≠ 0 → pk.dest = f.addr.toNat → f.addr ≠ 0 → pk.dest ≠ 0xFFFF →
          (s.dictUp = true → pk.type ∈ [2, 3, 4, 5] → pk.served = true → pk.rev = false → ∃ t, run = .next t ∧
            t.furlong.inbox = f.inbox ++ [{ port := p, packet := pk, time := s.clock, credit := true }] ∧ t.port far = s.port far) ∧
          (s.dictUp = true → pk.type ∈ [0, 1, 6, 7] → ∃ t, run = .next t ∧ t.furlong.inbox = f.inbox ∧
            (t.port p).dropped = q.dropped + 1)) ∧
        (pk.length ≠ 0 → (pk.dest ≠ f.addr.toNat ∨ pk.dest = 0) → pk.dest ≠ 0xFFFF → s.egressOf pk.dest = far →
          (s.port far).carries = true → ∃ t w, run = .next t ∧ (t.port far).txWait = (s.port far).txWait ++ [w] ∧
            w.packet = pk ∧ w.through = true ∧ w.held = some p ∧ t.furlong.inbox = f.inbox) ∧
        (pk.length ≠ 0 → (pk.dest ≠ f.addr.toNat ∨ pk.dest = 0) → pk.dest ≠ 0xFFFF → s.egressOf pk.dest = p → ∃ t, run = .next t ∧
          (t.port p).dropped = q.dropped + 1 ∧ (t.port p).txWait = q.txWait ∧ t.port far = s.port far))) ∧
    (q.carries = false ∨ s.ringPick p = none → exec (.ringSlotGrant p) s = .next s) ∧
    (∀ n w, q.carries = true → s.ringPick p = some (.waiting n) → q.txWait[n]? = some w → w.packet.type ≠ 4 →
      ∃ t, exec (.ringSlotGrant p) s = .next t ∧ let r := t.port p; let vc := vcOf w.packet.type
        q.out ++ [.packet q.txSeq w.packet] <+: r.out ∧ r.replay = q.replay ++ [(q.txSeq, w.packet)] ∧ r.txSeq = q.txSeq + 1 ∧
        r.txWait = q.txWait.eraseIdx n ∧ r.credits[vc.val] = q.credits[vc.val] - w.packet.words ∧
        w.packet.words ≤ q.credits[vc.val] ∧ q.replayWords + w.packet.words ≤ 2048) ∧
    (∀ i, q.carries = true → s.ringPick p = some (.site i) → ∃ t pk, exec (.ringSlotGrant p) s = .next t ∧
      (t.port p).out = q.out ++ [.packet q.txSeq pk] ∧ pk.site = i.val ∧ (pk.type = 0 ∨ pk.type = 1) ∧
      (t.site i).stream.fifo.length < (s.site i).stream.fifo.length) ∧
    (∀ (m : InPacket) (x : State), s.takeInbox (fun p => p.packet.type == 4) = some (m, x) →
      let n := BitVec.ofNat 16 (m.word 0 / 2 ^ 32)
      (m.packet.rev = true ∨ n ∈ x.furlong.sseqs → exec .syncPacketRx s = .next x) ∧
      (m.packet.rev = false → n ∉ x.furlong.sseqs →
        let y : State := { x with furlong := { x.furlong with sseqs := (n :: x.furlong.sseqs).take 16 } }
        (x.cfg 0x2120 1 ≠ 1 → exec .syncPacketRx s = .next y) ∧
        (x.cfg 0x2120 1 = 1 → exec .syncPacketRx s = .next (y.syncAccepted (addGrains (addGrains m.time
          (-((m.word 0 % 2 ^ 32 + (x.port m.port).linkLat.toNat : Nat) : Int))) (-y.skewOffset)))))) ∧
    (s.takeInbox (fun p => p.packet.type == 4) = none → exec .syncPacketRx s = .next s)

/-- A READ is answered with the values of its run and the first refusal, a WRITE with the result of its run, each with a REPLY
that the hop is remembered by; the same request again gets the stored REPLY and does nothing else. Fragments of a DOMAIN join
while each carries on where the last ended, and the last one writes the whole; a transfer given up leaves its object aborted.
A RESET for the chip resets it with source 3. Where it rests on a choice or an inference of the model: log entries 1405, 1406,
1407. -/
def Obligations.DictionaryPackets : Prop :=
  ∀ (s : State) (p : InPacket) (x : State), let hop := BitVec.ofNat 16 p.packet.src; let r := dictReq (p.word 0)
    let frag : Option (BitVec 32) := if r.count = 0 then some (BitVec.ofNat 32 (p.word 1)) else none
    let rd := s.takeInbox (isDict 1) = some (p, x); let wr := s.takeInbox (isDict 2) = some (p, x)
    (∀ c ∈ [Instr.dictPktRead, .dictPktWrite], (c = .dictPktRead → rd) → (c = .dictPktWrite → wr) →
      ∀ ws, x.storedReply hop r.tag frag = some ws → exec c s = .next (x.sendChip 2 p.packet.src ws)) ∧
    (rd → x.storedReply hop r.tag frag = none → 1 ≤ r.count →
      (256 < r.sub + r.count → exec .dictPktRead s = .next (Claims.answers x p none [r.reply 2])) ∧
      (r.sub + r.count ≤ 256 → let v := x.readRun r.index r.count r.sub
        (v.2.2.length ≤ 508 → exec .dictPktRead s = .next (Claims.answers v.1 p none (r.reply v.2.1 :: pairWords v.2.2))) ∧
        (508 < v.2.2.length → exec .dictPktRead s = .next (Claims.answers v.1 p none [r.reply 5])))) ∧
    (let y := if x.dictUp then x.served 1 else x
      ∀ a d, y.readWords (addrOf r.index r.sub) = (a, d) → x.readRun r.index 1 r.sub = (y, d, a)) ∧
    (rd → x.storedReply hop r.tag frag = none → r.count = 0 → let n := p.word 1 / 2 ^ 32 % 65536; let off := p.word 1 % 2 ^ 32
      (∀ d, x.domainLen (addrOf r.index r.sub) = .refused d → exec .dictPktRead s = .next (Claims.answers x p frag [r.reply d])) ∧
      (∀ len, x.domainLen (addrOf r.index r.sub) = .ok len → (n < 8 ∨ 2024 < n →
          exec .dictPktRead s = .next (Claims.answers x p frag [r.reply 5])) ∧
        (8 ≤ n → n ≤ 2024 → let bs := x.domainBytes (addrOf r.index r.sub) off n
          exec .dictPktRead s = .next (Claims.answers (x.served (domainAccesses bs)) p frag
            (r.reply 0 :: BitVec.ofNat 64 (off + if len ≤ off + bs.length then 2 ^ 32 else 0) :: packBytes bs))))) ∧
    (wr → x.storedReply hop r.tag frag = none → 1 ≤ r.count →
      (256 < r.sub + r.count → exec .dictPktWrite s = .next (Claims.answers x p none [r.reply 2])) ∧
      (∀ run, r.sub + r.count ≤ 256 → let need := ((List.range r.count).map fun k => wordsAt (addrOf r.index (r.sub + k))).sum
        let ws := splitWords (p.packet.payload.drop 1)
        (ws.length = need ∨ (ws.length = need + 1 ∧ ws.getLast? = some 0)) → cutRun r.index r.count r.sub (ws.take need) = some run → let w := x.writeWords (.furlong hop) run
          exec .dictPktWrite s = .next (Claims.answers w.1 p none [r.reply w.2]))) ∧
    (wr → x.storedReply hop r.tag frag = none → r.count = 0 → let bs := (p.packet.payload.drop 2).flatMap fun w => bytesLE w.toNat 8
      (∀ t, x.transferOf hop = some t → t.index = r.index → t.sub = r.sub → t.bytes.length = p.word 1 % 2 ^ 32 →
        (bitOf (p.word 1) 32 = true → let w := (x.transferClosed hop).domainEnd (addrOf r.index r.sub) (unpadded (addrOf r.index r.sub) (t.bytes ++ bs))
          t.hop = hop → exec .dictPktWrite s = .next (Claims.answers w.1 p frag [r.reply w.2])) ∧
        (bitOf (p.word 1) 32 = false → bs.length = 2024 → ∃ w : State,
          exec .dictPktWrite s = .next (Claims.answers w p frag [r.reply 0]) ∧
          w.furlong.transfers = insertTransfer { t with bytes := t.bytes ++ bs, last := x.clock } x.furlong.transfers ∧ w.dict = x.dict)) ∧
      (x.transferOf hop = none → p.word 1 % 2 ^ 32 ≠ 0 → exec .dictPktWrite s = .next (Claims.answers x p frag [r.reply 8]))) ∧
    (∀ c ∈ [Instr.dictPktRead, .dictPktWrite, .dictPktReset], (c = .dictPktRead → s.takeInbox (isDict 1) = none) →
      (c = .dictPktWrite → s.takeInbox (isDict 2) = none) → (c = .dictPktReset → s.takeInbox (isDict 4) = none) →
      exec c s = .next s) ∧
    (s.takeInbox (isDict 4) = some (p, x) →
      (p.word 1 = uniqueId.toNat ∨ (p.packet.dest ≠ 0xFFFF ∧ p.word 1 = 0) → exec .dictPktReset s = .next (x.chipReset 3)) ∧
      (p.word 1 ≠ uniqueId.toNat → p.packet.dest = 0xFFFF ∨ p.word 1 ≠ 0 → exec .dictPktReset s = .next x)) ∧
    (∀ h, (s.transferOf h = none → exec (.dictFragmentTimeout h) s = .next s) ∧
      (∀ t, s.transferOf h = some t → ∃ w : State, exec (.dictFragmentTimeout h) s = .next w ∧
        w.clock = laterOf s.clock (addGrains t.last 5120000000) ∧
        w.furlong.transfers = s.furlong.transfers.filter (fun t => t.hop != h) ∧ w.dict = s.dict))

/-- The heartbeat and the end of a silent USDO session come when their times are over. An NMT command for the node, or for all,
changes its NMT state, ends the session on STOP, resets the chip or the communication; another node's changes nothing. Reset
communication takes the straps, reloads 0x1000–0x1FFF and sends the boot-up message. The heartbeat carries the NMT state. A
USDO request is served where Table 15.3 allows it: an upload answers the bytes of its subindex, a download writes when its
bytes are complete, and a refusal answers its abort code; a foreign session or a client that is not admitted is aborted. Where
it rests on a choice or an inference of the model: log entries 1501, 1502, 1503, 1504, 1507. -/
def Obligations.CanServices : Prop :=
  ∀ (s : State), let mine (n : BitVec 7) := n = 0 ∨ n = s.can.nodeId; let c := s.can
    (∀ n st cmd, (cmd, st) ∈ [(Instr.nmtStart n, NmtState.operational), (.nmtEnterPreop n, .preOperational)] → s.canHears = true → mine n →
      exec cmd s = .next { s with can := { c with nmt := st } }) ∧
    (∀ n, s.canHears = true → mine n → ∃ t, exec (.nmtStop n) s = .next t ∧ t.can.nmt = .stopped ∧ t.can.session = none ∧
      t.dict = s.dict ∧ (c.session = none → t = { s with can := { c with nmt := .stopped } })) ∧
    (∀ n, s.canHears = true → mine n → ∃ t, exec (.nmtResetApp n) s = .next t ∧
      (s.rst.phase ≠ .inReset → t.rst.phase = .inReset ∧ t.rst.cause = 4 ∧ ∀ i, t.siteState i = .off)) ∧
    (∀ n straps, s.dictUp = true → mine n → sparseWf initial s.dict = true → ∃ t, exec (.nmtResetComm n straps) s = .next t ∧ t.can.straps = straps ∧
      t.can.nodeId = (if straps = 0 then BitVec.ofNat 7 (t.cfg 0x1FF0 1) else straps) ∧ t.can.session = none ∧
      t.can.nmt = (if bitOf (t.cfg 0x1FF0 3) 0 then .operational else .preOperational) ∧ t.can.bus = .errorActive ∧
      (Claims.NoAcks s → ∀ a, 0x2000 ≤ indexOf a → t.val a = s.val a) ∧ (t.can.nodeId ≠ 0 → t.can.frames.getLast? =
        some { cob := BitVec.ofNat 11 (0x700 + t.can.nodeId.toNat), data := [0] })) ∧
    (∀ n cmd, cmd ∈ [Instr.nmtStart n, .nmtEnterPreop n, .nmtStop n, .nmtResetApp n] → s.canHears = false ∨ ¬mine n →
      exec cmd s = .next s) ∧
    (∀ n straps, s.dictUp = false ∨ ¬mine n → exec (.nmtResetComm n straps) s = .next s) ∧
    (s.canServes = true → s.cfg 0x1017 0 ≠ 0 → 
      let beat : CanFrame := { cob := BitVec.ofNat 11 (0x700 + c.nodeId.toNat), data := [BitVec.ofNat 8 c.nmt.code] };
      let v := s.advance (addGrains c.beat (s.cfg 0x1017 0 * 512000000 : Nat));
      exec .heartbeatTimer s = .next { v with can := { c with frames := c.frames ++ [beat], beat := v.clock } }) ∧
    (s.canServes = false ∨ s.cfg 0x1017 0 = 0 → exec .heartbeatTimer s = .next s) ∧
    (∀ client first last index sub room bytes, let up := exec (.usdoUpload client first index sub room) s
      let down := exec (.usdoDownload client first last index sub bytes) s; let a := addrOf index.toNat sub.toNat
      let aborts (x : State) (d : Nat) (code : Nat) : State :=
        ({ x with can := { x.can with usdoAborts := satInc 0xFFFF x.can.usdoAborts } } : State).answered .can d [BitVec.ofNat 32 code]
      let session (down : Bool) (bs : List Byte) (at_ : Time) : Usdo :=
        { client := client.toNat, download := down, index := index.toNat, sub := sub.toNat, bytes := bs, last := at_ };
      (s.canTalks = false → up = .next s ∧ down = .next s) ∧
      (s.canTalks = true → s.usdoBarred client = true → up = .next (aborts s 9 0x08000020) ∧ down = .next (aborts s 9 0x08000020)) ∧
      (s.canTalks = true → s.usdoBarred client = false → first = true → c.session = none → let v := s.served 1
        (∀ d, v.uploadBytes a = .refused d → up = .next (aborts v d (abortCode d))) ∧
        (∀ bs, v.uploadBytes a = .ok bs → ∃ t, up = .next t ∧
          t.answer = some { iface := .can, dstat := 0, words := (bs.take room.toNat).map fun b => b.setWidth 32 } ∧
          (bs.length ≤ room.toNat → t.can.session = none) ∧ (room.toNat < bs.length → t.can.session =
            some (session false (bs.drop room.toNat) v.clock)) ∧
          t.dict = v.dict ∧ t.sites = v.sites) ∧
        (∀ r k, rowAt a = some (r, k) → r.ty.isDomain = true → let b := s.domainBegin a
          (b.2 ≠ 0 → down = .next (aborts b.1 b.2 (abortCode b.2))) ∧
          (b.2 = 0 → last = false → ∃ t, down = .next t ∧ t.can.session = some (session true bytes b.1.clock) ∧ t.dict = b.1.dict ∧
            t.sites = b.1.sites) ∧
          (b.2 = 0 → last = true → let w := ({ b.1 with can := { b.1.can with session := none } } : State).domainEnd a bytes
            (w.2 = 0 → down = .next { w.1 with answer := some { iface := .can, dstat := 0, words := [] } }) ∧
            (w.2 ≠ 0 → down = .next (aborts w.1 w.2 (abortCode w.2))))) ∧
        (∀ r k, rowAt a = some (r, k) → r.ty.isDomain = false → r.acc = .rw ∨ r.acc = .wo →
          (last = true → bytes.length = r.ty.byteLen → let w := s.writeValue .can a (natLE bytes)
            (w.2 = 0 → down = .next { w.1 with answer := some { iface := .can, dstat := 0, words := [] } }) ∧
            (w.2 ≠ 0 → ∃ code, down = .next (aborts w.1 w.2 code))) ∧
          (last = true → bytes.length ≠ r.ty.byteLen → down = .next (aborts s 5 0x06070010)) ∧
          (last = false → ∃ t, down = .next t ∧ t.can.session = some (session true bytes s.clock) ∧ t.dict = s.dict ∧ t.sites = s.sites)) ∧
        (∀ r k, rowAt a = some (r, k) → r.ty.isDomain = false → r.acc = .ro ∨ r.acc = .const → last = true →
          down = .next (aborts s 3 0x06010002)) ∧
        (rowAt a = none → last = true → down = .next (aborts s (missing a) (abortCode (missing a))))) ∧
      (∀ u, s.canTalks = true → s.usdoBarred client = false → first = false → c.session = some u →
        (u.download = false → ∃ t, up = .next t ∧
          t.answer = some { iface := .can, dstat := 0, words := (u.bytes.take room.toNat).map fun b => b.setWidth 32 }) ∧
        (u.download = true → last = false → ∃ t, down = .next t ∧ t.can.session = some { u with bytes := u.bytes ++ bytes, last := s.clock } ∧
          t.dict = s.dict) ∧
        (u.download = true → last = true → ∃ t, down = .next t ∧ t.can.session = none)) ∧
      (s.canTalks = true → s.usdoBarred client = false → first = false → c.session = none →
        up = .next (aborts s 15 0x08000000) ∧ down = .next (aborts s 15 0x08000000))) ∧
    (∀ u, c.session = some u → ∃ t, exec .usdoTimeout s = .next t ∧ t.can.session = none ∧ t.dict = s.dict ∧
      t.clock = laterOf s.clock (addGrains u.last 51200000000) ∧
      (s.canTalks = false → t.answer = s.answer) ∧ (s.canTalks = true → t.answer = some { iface := .can, dstat := 14, words := [0x05040000] })) ∧
    (c.session = none → exec .usdoTimeout s = .next s)

/-- In OPERATIONAL, a frame with the COB-ID of one valid RPDO writes its mapped subindices as one run; a refusal is counted and
presented, a frame too short for the mapping writes nothing and queues EMCY 0x8210; a frame with no RPDO's COB-ID does
nothing. A TPDO is sent when a mapped value has changed outside its inhibit time, or when its event timer runs out. An EMCY
leaves oldest first when the inhibit time has passed. Error passive, bus-off, its recovery and a duplicate node change the bus
state and present their kinds; a duplicate silences the node. Where it rests on a choice or an inference of the model: log
entries 1505, 1506, 1508. -/
def Obligations.CanData : Prop :=
  ∀ (s : State), let c := s.can
    (∀ cob data, (s.canPdos = false ∨ (∀ k : Fin 4, cobIs (s.cfg (0x1400 + k.val) 1) cob = false) →
        exec (.rpdoRx cob data) s = .next s) ∧
      (∀ k : Fin 4, s.canPdos = true → cobIs (s.cfg (0x1400 + k.val) 1) cob = true →
        (∀ j : Fin 4, j ≠ k → cobIs (s.cfg (0x1400 + j.val) 1) cob = false) → let es := s.mapping (0x1600 + k.val)
        (mappedBits es ≤ 8 * data.length → let w := s.writeWords .can (pdoValues es data)
          (w.2 = 0 → exec (.rpdoRx cob data) s = .next w.1) ∧
          (w.2 ≠ 0 → ∃ t : State, exec (.rpdoRx cob data) s = .next (t.present .ofChip 0x82 (addrOf 0x1FF1 1) 0) ∧
            t.can.rpdoRefused = satInc 0xFFFF w.1.can.rpdoRefused ∧ t.can.lastDstat = w.2 ∧ t.dict = w.1.dict)) ∧
        (8 * data.length < mappedBits es → c.emcyQueue.length < 8 → ∃ t e, exec (.rpdoRx cob data) s = .next t ∧
          t.can.emcyQueue = c.emcyQueue ++ [e] ∧ e.code = 0x8210 ∧ t.dict = s.dict ∧ t.sites = s.sites))) ∧
    (∀ k : Fin 4, let p := c.tpdos[k.val]; let ready := s.canPdos = true ∧ bitOf (s.cfg (0x1800 + k.val) 1) 31 = false
      let sent (s t : State) : Prop := (∃ fill, t.can.frames = c.frames ++
          [{ cob := BitVec.ofNat 11 (field (s.cfg (0x1800 + k.val) 1) 10 0), data := s.tpdoBytes k ++ fill }] ∧
          (s.tpdoBytes k ++ fill).length = max (s.tpdoBytes k).length (fdLength (s.tpdoBytes k).length)) ∧
        t.can.tpdos[k.val] = { lastBytes := some (s.tpdoBytes k), lastSent := some s.clock } ∧ t.dict = s.dict ∧ t.sites = s.sites
      let open_ := p.lastSent = none ∨ ∃ t0, p.lastSent = some t0 ∧ (s.cfg (0x1800 + k.val) 3 * 51200000 : Nat) ≤ span t0 s.clock
      (ready → open_ → p.lastBytes ≠ some (s.tpdoBytes k) → ∃ t, exec (.tpdoChangeCheck k) s = .next t ∧ sent s t) ∧
      (¬ready ∨ ¬open_ ∨ p.lastBytes = some (s.tpdoBytes k) → exec (.tpdoChangeCheck k) s = .next s) ∧
      (ready → s.cfg (0x1800 + k.val) 5 ≠ 0 → let v := match p.lastSent with
          | some t0 => s.advance (addGrains t0 (s.cfg (0x1800 + k.val) 5 * 512000000 : Nat))
          | none => s
        ∃ t, exec (.tpdoEventTimer k) s = .next t ∧ sent v t) ∧
      (¬ready ∨ s.cfg (0x1800 + k.val) 5 = 0 → exec (.tpdoEventTimer k) s = .next s)) ∧
    (let cob := s.cfg 0x1014 0; let open_ := c.lastEmcy = none ∨ ∃ t0, c.lastEmcy = some t0 ∧ (s.cfg 0x1015 0 * 51200000 : Nat) ≤ span t0 s.clock
      let sent (e : Emcy) (t : State) : Prop := t.can.frames = c.frames ++ [{ cob := BitVec.ofNat 11 (field cob 10 0), data := e.bytes }] ∧
        t.can.lastEmcy = some s.clock ∧ t.dict = s.dict
      (∀ e, s.canTalks = true → open_ → bitOf cob 31 = false → c.busOffEmcy = some e →
        ∃ t, exec .emcyTransmit s = .next t ∧ sent e t ∧ t.can.busOffEmcy = none ∧ t.can.emcyQueue = c.emcyQueue) ∧
      (∀ e rest, s.canTalks = true → open_ → bitOf cob 31 = false → c.busOffEmcy = none → c.emcyQueue = e :: rest →
        ∃ t, exec .emcyTransmit s = .next t ∧ sent e t ∧ t.can.emcyQueue = rest) ∧
      (s.canTalks = false ∨ ¬open_ ∨ bitOf cob 31 = true ∨ (c.busOffEmcy = none ∧ c.emcyQueue = []) →
        exec .emcyTransmit s = .next s)) ∧
    (∀ tec rec_ : BitVec 8,
      (s.dictUp = true → c.bus = .errorActive → 128 ≤ tec.toNat ∨ 128 ≤ rec_.toNat → exec (.canErrPassive tec rec_) s =
        .next (({ s with can := { c with bus := .errorPassive, tec := tec.toNat, recv := rec_.toNat } } : State).present
          .ofChip 0x83 (addrOf 0x1FF1 1) 0)) ∧
      (s.dictUp = true → c.bus = .silent → c.tec < 128 → c.recv < 128 → 128 ≤ tec.toNat ∨ 128 ≤ rec_.toNat →
        exec (.canErrPassive tec rec_) s = .next (({ s with can := { c with tec := tec.toNat, recv := rec_.toNat } } : State).present
          .ofChip 0x83 (addrOf 0x1FF1 1) 0)) ∧
      (s.dictUp = false ∨ (c.bus ≠ .errorActive ∧ c.bus ≠ .silent) ∨ (tec.toNat < 128 ∧ rec_.toNat < 128) →
        exec (.canErrPassive tec rec_) s = .next s)) ∧
    (s.dictUp = true → c.bus = .errorActive ∨ c.bus = .errorPassive → ∃ w : State,
      exec .canBusOff s = .next (w.present .ofChip 0x84 (addrOf 0x1FF1 1) 0) ∧ w.can.bus = .busOff ∧
      w.can.busOffs = satInc 0xFFFF c.busOffs ∧ (Claims.NoAcks s → w.dict = s.dict)) ∧
    (s.dictUp = false ∨ (c.bus ≠ .errorActive ∧ c.bus ≠ .errorPassive) → exec .canBusOff s = .next s) ∧
    (s.dictUp = true → c.bus = .busOff → c.autoRecover = true → ∃ t, exec .busOffRecovery s = .next t ∧
      t.can.bus = .errorActive ∧ t.can.tec = 0 ∧ t.can.recv = 0) ∧
    (s.dictUp = false ∨ c.bus ≠ .busOff ∨ c.autoRecover = false → exec .busOffRecovery s = .next s) ∧
    (s.canServes = true → c.dup = false → exec .canDupNode s = .next (({ s with can := { c with dup := true, bus := .silent } } :
      State).present .ofChip 0x85 (addrOf 0x1FF1 1) 0)) ∧
    (s.canServes = false ∨ c.dup = true → exec .canDupNode s = .next s) ∧
    exec .foreignFrame s = .next s

/-- A good WRITE frame writes its run and its DSTAT stands for the next status byte; a good READ, CONT_READ, STATUS or RAW_READ
frame drives the status byte, its words and, in checked mode, the trailer; a bad frame does nothing but count, and a checked one
that fails by its trailer is answered with zeros. RAW_WRITE joins the mailbox whole or is refused with STATE. The oldest XIP
transfer starts once the PLL is locked; its bytes land in its target, or it fails with SOURCE_ERR and SPM_SOURCE.
Where it rests on a choice or an inference of the model: log entries 1601, 1602, 1603, 1604. -/
def Obligations.SpiFramesAndXip : Prop :=
  ∀ (s : State) (addr : BitVec 24) (count : BitVec 20) (words : List (BitVec 32)) (e : FrameEnd) (tr : FrameTrailer),
    let n := s.frameWords count; let w := exec (.spsWrite addr words e tr) s; let rw_ := exec (.rawWrite words e tr) s
    let wbs := 0x02#8 :: wireAddr addr ++ words.flatMap wireWord; let rbs := 0x03#8 :: wireAddr addr ++ s.wireCount count
    let cbs := 0x0B#8 :: wireAddr addr ++ s.wireCount count; let mbs := 0x42#8 :: words.flatMap wireWord
    let bbs := 0x4B#8 :: s.wireCount count; let g := s.frameGood tr
    let after (k : Nat) : State := if s.dictUp then g.served k else g
    (s.spsServed = false → ∀ c ∈ [Instr.spsWrite addr words e tr, .spsRead addr count e tr, .contRead addr count e tr,
      .spsStatus e tr, .rawWrite words e tr, .rawRead count e tr], exec c s = .next s) ∧
    (s.spsServed = true →
      (Claims.Good s e false wbs tr → let r := g.writeRun .sps addr.toNat words
        w = .next { r.1 with sps := { r.1.sps with out := [], dstat := r.2 } }) ∧
      (¬Claims.Good s e false wbs tr → ∃ t : State, w = .next (t.domainSpoiled addr.toNat) ∧ t.dict = s.dict ∧
        t.sps.frameBad = true ∧ t.sps.framesBad = satInc 0xFFFF s.sps.framesBad ∧ t.sps.dstat = s.sps.dstat ∧
        t.assize = s.assize ∧ t.sites = s.sites ∧ (isDomainAddr addr.toNat = false → w = .next t)) ∧
      (Claims.Good s e (n == 0) rbs tr → ∃ t, exec (.spsRead addr count e tr) s = .next t ∧
        let r := g.spsRead addr.toNat n
        Claims.ReadDone s (after r.count) t r.words r.dstat tr ∧ t.answer = some { iface := .sps, dstat := r.dstat, words := r.words } ∧
        (∀ l, r.latch = some l → t.sps.latch = some l) ∧ (r.latch = none → t.sps.latch = s.sps.latch)) ∧
      (Claims.Good s e (n == 0) cbs tr → ∃ t ws d, exec (.contRead addr count e tr) s = .next t ∧
        Claims.ReadDone s (after 1) t ws d tr ∧
        (∀ l, s.dictUp = true → s.sps.latch = some l → addr.toNat = addrOf l.index l.sub →
          ws = (l.words.drop 1).take n ++ List.replicate (n - (l.words.length - 1)) 0 ∧
          d = if l.words.length - 1 < n then 12 else 0) ∧
        ((s.dictUp = false ∨ s.sps.latch = none ∨ ∃ l, s.sps.latch = some l ∧ addr.toNat ≠ addrOf l.index l.sub) →
          ws = List.replicate n 0 ∧ d = 8)) ∧
      (Claims.Good s e false [0x05] tr → ∃ t, exec (.spsStatus e tr) s = .next t ∧ Claims.ReadDone s s t [] 0 tr) ∧
      (s.spsChecked = true → e = .whole → n ≠ 0 → ¬Claims.Good s e false rbs tr → ∃ t, exec (.spsRead addr count e tr) s = .next t ∧
        t.sps.out = Claims.drives true { s with sps := { s.sps with frameBad := true } } (List.replicate n 0) tr ∧ t.dict = s.dict ∧
        t.sps.framesBad = satInc 0xFFFF s.sps.framesBad ∧ t.sps.latch = s.sps.latch) ∧
      (Claims.Good s e false mbs tr → ∃ t, rw_ = .next t ∧ t.dict = s.dict ∧
        (s.dictUp = true → s.sps.toCsv.length + words.length ≤ 128 → t.sps.toCsv = s.sps.toCsv ++ words ∧ t.sps.dstat = 0) ∧
        (s.dictUp = false ∨ 128 < s.sps.toCsv.length + words.length → t.sps.toCsv = s.sps.toCsv ∧ t.sps.dstat = 8)) ∧
      (Claims.Good s e (n == 0) bbs tr → s.dictUp = true → ∃ t, exec (.rawRead count e tr) s = .next t ∧
        t.sps.fromCsv = s.sps.fromCsv.drop n ∧
        Claims.ReadDone s s t (s.sps.fromCsv.take n ++ List.replicate (n - s.sps.fromCsv.length) 0) 0 tr)) ∧
    (let failed (j : XipJob) (r : Host.Outcome State Fault Refusal) : Prop := ∃ x : State,
        r = .next (x.present (.ofSite j.target.site) 0x90 (addrOf 0x2803 3) 0) ∧ x.spm.current = none ∧
        x.spm.sourceErrs = satInc 0xFFFF s.spm.sourceErrs ∧ x.dict = s.dict ∧
        (∀ i, j.target = .mse i → (x.mse i).loadErr = 2 ∧ (x.mse i).store = (s.mse i).store) ∧
        (∀ i, j.target = .dsp i → (x.dsp i).loadErr = 2 ∧ (x.dsp i).pmem = (s.dsp i).pmem ∧ (x.dsp i).dmem = (s.dsp i).dmem);
      (∀ j rest, s.spm.current = none → s.spm.queue = j :: rest → s.pll.relocking = false →
        (s.spmEnabled = true → j.offset + j.bytes ≤ s.xipSize 1 + s.xipSize 2 → exec .xipTransferStart s =
          .next { s with spm := { s.spm with queue := rest, current := some j } }) ∧
        (s.spmEnabled = false ∨ s.xipSize 1 + s.xipSize 2 < j.offset + j.bytes → failed j (exec .xipTransferStart s))) ∧
      (s.spm.current ≠ none ∨ s.spm.queue = [] ∨ s.pll.relocking = true → exec .xipTransferStart s = .next s) ∧
      (∀ j bytes, s.spm.current = some j →
        (bytes.length = j.bytes → s.spmEnabled = true → let x : State := { s with spm := { s.spm with current := none } }
          (∀ i g, j.target = .segment i g → exec (.xipTransferDone bytes) s = .next (x.segLand i g.val (vectorsOf bytes))) ∧
          (∀ i, j.target = .dsp i → j.base < 4096 → exec (.xipTransferDone bytes) s = .next (x.pmemLand i j.base bytes)) ∧
          (∀ i, j.target = .dsp i → 4096 ≤ j.base → exec (.xipTransferDone bytes) s = .next (x.dmemLand i (j.base - 4096) bytes)) ∧
          (∀ i, j.target = .mse i → (∀ v ∈ byteGroups 4 bytes, v < 2 ^ 24) →
            exec (.xipTransferDone bytes) s = .next (x.storeLand i j.base bytes))) ∧
        (bytes.length = j.bytes → s.spmEnabled = false → failed j (exec (.xipTransferDone bytes) s)) ∧
        ((j.offset < s.xipSize 1 ∧ s.usesDqs 1 = true) ∨ (s.xipSize 1 < j.offset + j.bytes ∧ s.usesDqs 2 = true) →
          failed j (exec .dqsTimeout s))) ∧
      (s.spm.current = none → exec .dqsTimeout s = .next s ∧ ∀ bytes, exec (.xipTransferDone bytes) s = .next s))

/-- A tick with RUN = 1 advances TICKS; a filter that is on takes the sample of its source (first sample, IIR step, or the median
of the last five) and is STALE without one. A rule follows its operation and thresholds, counts its evaluations in TRUE, fires
once when the count is reached and not again before FALSE, and does its actions. Without RUN or VAON nothing happens. The wake
applies its slot once the PLL is locked in FULL and reports the result, or gives up after 1 ms. Where it rests on a choice or
an inference of the model: log entries 2001, 2002, 2003, 2004, 2005. -/
def Obligations.MittenTick : Prop :=
  ∀ (s : State) (a : List (BitVec 16)) (o : List (BitVec 2)), let run := exec (.mittenTick a o) s; let m := s.mitten
    let sample := Claims.sampled s a o
    let on := s.rst.phase ≠ .vaonLost ∧ bitOf (s.cfg 0x2700 1) 0 = true
    (¬on → run = .next s) ∧
    (on → sparseWf initial s.dict = true → ∃ t, run = .next t ∧ t.mitten.ticks = m.ticks + 1 ∧
      (∀ j : Fin 8, let v := s.cfg 0x2702 (j.val + 1); let f := m.filters[j.val]; let g := t.mitten.filters[j.val]
        (field v 7 6 = 0 → g = f) ∧
        (field v 7 6 ≠ 0 → sample (field v 5 0) = none → g = { f with stale := true }) ∧
        (∀ x, field v 7 6 = 1 → sample (field v 5 0) = some x →
          g.y = (if f.valid then f.y + (x * 256 - f.y) / (2 ^ field v 11 8 : Nat) else x * 256) ∧
          g.out = BitVec.ofInt 16 ((g.y + 128) / 256) ∧ g.stale = false ∧ g.valid = true) ∧
        (∀ x, 2 ≤ field v 7 6 → sample (field v 5 0) = some x → g.hist = (x :: f.hist).take 5 ∧
          g.out = BitVec.ofInt 16 (medianLow g.hist) ∧ g.stale = false ∧ g.valid = true)) ∧
      (∀ k : Fin 16, let v := s.cfg 0x2703 (k.val + 1); let r := m.rules[k.val]; let q := t.mitten.rules[k.val]
        let set := toInt (field v 31 16) 16; let rel := toInt (field v 47 32) 16; let op := field v 8 7
        let input := if bitOf v 6 then (let f := t.mitten.filters[field v 2 0 % 8]; if f.stale || !f.valid then none else some f.out.toInt)
          else sample (field v 5 0)
        (op = 0 → q = r) ∧
        (op ≠ 0 → input = none → q.state = .unknown ∧ q.first = true ∧ q.count = 0 ∧ q.fires = r.fires) ∧
        (∀ x, op ≠ 0 → input = some x →
          (op = 1 → set ≤ x → q.state = .isTrue) ∧ (op = 1 → x < set → x ≤ rel → q.state = .isFalse) ∧
          (op = 2 → x ≤ set → q.state = .isTrue) ∧ (op = 2 → set < x → rel ≤ x → q.state = .isFalse) ∧
          (op = 3 → q.state = if x = set then .isTrue else .isFalse) ∧
          (op = 1 → rel < x → x < set → r.first = false → q.state = r.state) ∧
          (op = 2 → set < x → x < rel → r.first = false → q.state = r.state) ∧
          q.count = (if q.state = .isTrue then satInc 0xFFFF r.count else 0) ∧
          q.fires = r.fires + (if q.state = .isTrue ∧ q.count = field v 63 48 ∧ r.fired = false then 1 else 0) ∧
          (q.state = .isTrue → q.count = field v 63 48 → q.fired = true) ∧ (q.state = .isFalse → q.fired = false) ∧
          (Claims.OnlyRule s k → q.state = .isTrue → q.count = field v 63 48 → r.fired = false →
            (bitOf v 13 = true → t.mitten.wakeOut = true) ∧
            (field v 15 12 = 4 → s.coreUp = true → ∃ w : State, t = w.present .ofChip 0xD0 (k.val + ofInt x 16 * 2 ^ 16) 0 ∧ w.dict = s.dict) ∧
            (field v 15 12 = 8 → s.coreUp = true → ∃ w : State,
              t = w.present .ofChip 0xD1 (addrOf 0x2703 (0x11 + k.val)) (2 + field v 11 10) ∧ w.dict = s.dict) ∧
            (field v 15 12 = 4 ∨ field v 15 12 = 8 → s.coreUp = false → t.mitten.lost = satInc 0x1FFF m.lost) ∧
            (field v 15 12 = 1 → s.rst.phase = .bypassed → t.mitten.lost = satInc 0x1FFF m.lost) ∧
            (field v 15 12 = 1 → s.dictUp = false → s.rst.phase ≠ .bypassed → m.wake = .idle → t.mitten.pending = true) ∧
            (field v 15 12 = 1 → s.dictUp = true → m.wake = .idle → s.pll.economy = false → t.mitten.wake = .lock s.clock))))) ∧
    (m.wake ≠ .idle → s.pllReady = true → let k := field (s.cfg 0x2700 1) 12 8
      let ends (d : Nat) : Prop := ∃ t, exec .wakeOverlayStage s = .next t ∧ t.mitten.wake = .idle ∧ t.mitten.result = d ∧
        t.mitten.stage = true ∧ t.mitten.woke = (m.woke || decide (d = 0))
      (k = 0 → ends 0 ∧ ∃ t, exec .wakeOverlayStage s = .next t ∧ t.dict = s.dict) ∧ (k ≠ 0 → s.slotBusy k = true → ends 10) ∧
      (k ≠ 0 → s.slotBusy k = false → s.slotValid k = false → ends 7) ∧
      (∀ d, k ≠ 0 → s.slotBusy k = false → s.slotValid k = true → s.overlayWrites (s.slotImage k) = .refused d → d ≠ 0 → ends d)) ∧
    (m.wake = .idle ∨ s.pllReady = false → exec .wakeOverlayStage s = .next s) ∧
    (∀ t0, m.wake = .lock t0 → s.pllReady = false → ∃ t, exec .wakeLockTimeout s = .next t ∧ t.mitten.wake = .idle ∧
      t.mitten.result = 8 ∧ t.mitten.woke = m.woke ∧ t.clock = laterOf s.clock (addGrains t0 512000000) ∧ t.dict = s.dict) ∧
    (m.wake = .idle ∨ s.pllReady = true → exec .wakeLockTimeout s = .next s)

/-- Power-on, PWR_OK low and RESET_N low put the chip into reset with their source: every site OFF, every group FREE, no record,
the time base and RNVM's areas untouched. VAON loss loses what was queued for the log. The core leaves reset when no source is
asserted, with the time base at 0; the base configuration is the user image when RNVM holds a valid one; the dictionary becomes
available with START in the log. A supply fault is presented while the core runs; without VPOS and VNEG every switch is open.
Where it rests on a choice or an inference of the model: log entries 1705, 1706, 2101, 2103, 2201, 2202, 2203. -/
def Obligations.ResetsAndStartUp : Prop :=
  ∀ (s : State),
    let off (t : State) (cause : Nat) : Prop := t.rst.phase = .inReset ∧ t.rst.cause = cause ∧ (∀ i, t.siteState i = .off) ∧
      (∀ g ∈ groupNums, (t.group g).state = .free) ∧ t.gtRecords = [] ∧ t.dictUp = false ∧ (∀ i c, (t.cell i c).connected = false) ∧
      (∀ i u, (t.bridge i u).connected = false) ∧ t.nvm.safe = s.nvm.safe ∧ t.nvm.eventLog = s.nvm.eventLog ∧
      t.commit.userBase = s.commit.userBase ∧ t.clock = s.clock
    (s.rst.phase = .vaonLost → exec .vaonLoss s = .next s) ∧
    (s.rst.phase ≠ .vaonLost → ∃ t, exec .vaonLoss s = .next t ∧ t.rst.phase = .vaonLost ∧ (∀ i, t.siteState i = .off) ∧
      t.assize.n = s.assize.n - BitVec.ofNat 48 s.assize.queued ∧ t.assize.entries = s.assize.entries.drop s.assize.queued ∧
      t.assize.queued = 0 ∧ t.nvm.safe = s.nvm.safe ∧ t.tap = Tap.reset) ∧
    (∃ t, exec .powerOn s = .next t ∧ t.rst.phase = .inReset ∧ t.rst.cause = 0 ∧ t.pll.linkLocked = false ∧
      (s.rst.phase ≠ .vaonLost → off t 0) ∧ (s.rst.phase = .vaonLost → t.dict = s.dict ∧ t.assize = s.assize)) ∧
    (∃ t, exec (.pwrOk true) s = .next t ∧ t = { s with rst := { s.rst with pwrOk := true } }) ∧
    (s.rst.phase ≠ .vaonLost → s.rst.phase ≠ .inReset → ∃ t, exec (.pwrOk false) s = .next t ∧ off t 1 ∧ t.rst.pwrOk = false ∧
      (s.nvm.readable = true → t.assize.queued = 0)) ∧
    (∃ t, exec (.resetN true) s = .next t ∧ t.rst.resetN = true ∧ t.tap.drive = .released ∧ t.sites = s.sites ∧ t.dict = s.dict) ∧
    (s.rst.phase ≠ .vaonLost → s.rst.phase ≠ .inReset → ∃ t, exec (.resetN false) s = .next t ∧ off t 2 ∧ t.rst.resetN = false) ∧
    (∀ (k : Fin 7) mv, (s.coreUp = false → exec (.supplyFault k mv) s = .next s) ∧ (s.coreUp = true → exec (.supplyFault k mv) s =
      .next (({ s with rst := { s.rst with supplyFault := some k.val } } : State).present .ofChip 0xC0 (k.val + mv.toNat * 2 ^ 16) 0))) ∧
    (∃ t, exec (.vposVnegAbsent true) s = .next (if s.rst.railsAbsent = true then t else t.superviseEnd) ∧
      t.rst.railsAbsent = true ∧ t.dict = s.dict ∧
      (s.rst.railsAbsent = false → ∀ i u, (t.bridge i u).connected = false ∧ (t.bridge i u).closing = false)) ∧
    (∃ t, exec (.vposVnegAbsent false) s = .next t ∧ t.rst.railsAbsent = false ∧
      (∀ i u, s.rst.railsAbsent = true → s.siteState i = .ready → s.buOutput i u = true → (t.bridge i u).closing = true)) ∧
    (∀ straps, (s.mayRelease = true → ∃ t, exec (.coreRelease straps) s = .next t ∧ t.rst.phase = .started ∧ t.clock = 0 ∧
        t.can.straps = straps ∧ t.pll.state = .acquire ∧ t.rst.thermalHold = false ∧ t.dict = s.dict ∧ t.sites = s.sites) ∧
      (s.mayRelease = false → exec (.coreRelease straps) s = .next s)) ∧
    (s.mayRelease = true ↔ s.rst.phase = .inReset ∧ s.rst.pwrOk = true ∧ s.rst.resetN = true ∧ s.rst.refQualified = true ∧
      (s.rst.thermalHold = true → ∀ q : Fin 4, ∃ k, (s.thermal.regions[q.val]).rq.used = some k ∧ k.toNat ≤ s.thRel 3)) ∧
    (∀ failed, (s.rst.phase = .started → s.rst.runNext = true → exec (.selftestDone failed) s =
        .next { s with rst := { s.rst with runNext := false, selftest := BitVec.ofNat 5 (1 + 2 * failed.toNat) } }) ∧
      (s.rst.phase ≠ .started ∨ s.rst.runNext = false → exec (.selftestDone failed) s = .next s)) ∧
    (∀ areas, let ready := s.rst.phase = .started ∧ s.pll.relocking = false ∧ s.rst.runNext = false
      (ready → ∃ t, exec (.baseConfigLoad areas) s = .next t ∧ t.rst.phase = .baseLoaded ∧ t.nvm.readable = areas.readable ∧
        t.rst.configSource = (if areas.readable && areas.base then (if s.commit.userBase.isSome then 1 else 0) else 2) ∧
        t.rst.outputsHeld = !(areas.readable && areas.safe) ∧ t.nvm.trimsValid = (areas.readable && areas.trims) ∧
        (s.selfTestFailed = true → (∀ i, s.siteState i = .off) → ∀ i, t.siteState i = .off)) ∧
      (¬ready → exec (.baseConfigLoad areas) s = .next s)) ∧
    (∀ valid, (s.rst.phase = .baseLoaded → ∃ t, exec (.dictionaryAvailable valid) s = .next t ∧ t.rst.phase = .available ∧
        t.assize.marks = [] ∧ (s.can.nodeId = 0 → t.can.frames = s.can.frames) ∧
        (valid = true → s.assize.signing = false → s.assize.marks = [] → s.assize.dead = false → s.nvm.readable = true →
          s.mitten.pending = false → s.aszWrap = true ∨ s.aszFill 1 ≤ 4096 → t.assize.n = s.assize.n + 1)) ∧
      (s.rst.phase ≠ .baseLoaded → exec (.dictionaryAvailable valid) s = .next s))

/-- The oldest queued log entry reaches RNVM, and of the waiting records those of chip management first, then those of the regions
in turn while no log entry waits (the turn of a saved overlay is the model's choice, log entry 2210); a failed write is
presented as NVM_WRITE_FAIL and an entry stays queued. A signed checkpoint adds two entries. The test that runs on a site ends
with its failures, and MEM leaves the site's memories at 0; the spare's test leaves the spare at 0. The TAP selects the
register of its instruction and drives the balls only in compliance; it changes nothing else. Where it rests on a choice or an
inference of the model: log entries 2104, 2105, 2204, 2205, 2206, 2207, 2208, 2210. -/
def Obligations.RecordsTestsAndScan : Prop :=
  ∀ (s : State),
    (s.assize.queued ≠ 0 → s.nvm.readable = true → (∃ t, exec (.assizeQueueWrite true) s = .next t ∧
        t.assize = { s.assize with queued := s.assize.queued - 1 } ∧ t.nvm.writes = s.nvm.writes + 1 ∧ t.dict = s.dict) ∧
      (s.coreUp = true → exec (.assizeQueueWrite false) s = .next (s.present .ofChip 0xC5 (addrOf 0x2901 3) 0)) ∧
      (s.coreUp = false → exec (.assizeQueueWrite false) s = .next s)) ∧
    (∀ ok, s.assize.queued = 0 ∨ s.nvm.readable = false → exec (.assizeQueueWrite ok) s = .next s) ∧
    (s.dictUp = true → s.assize.signing = true → s.assize.held = [] → ∃ t, exec .checkpointSigned s = .next t ∧
      t.assize.n = s.assize.n + 2 ∧ t.assize.signing = false ∧ t.dict = s.dict ∧ ∃ r x rest, t.assize.entries = x :: r :: rest ∧
      r.counter = s.aszCounter) ∧
    (s.dictUp = false ∨ s.assize.signing = false → exec .checkpointSigned s = .next s) ∧
    (∀ ok, s.coreUp = false ∨ s.nvm.readable = false ∨ s.nvmPick = none → exec (.rnvmRecordWrite ok) s = .next s) ∧
    (s.nvm.jobs = [] → s.nvmPick = none) ∧
    (∀ j, s.nvmPick = some j → j ∈ s.nvm.jobs ∧
      (∀ k, j.turn = some k → s.assize.queued = 0 ∧ (∀ x ∈ s.nvm.jobs, x.turn.isSome = true) ∧
        (s.nvm.pos < 5 → ∀ x ∈ s.nvm.jobs, ∀ n, x.turn = some n → (k + 5 - s.nvm.pos) % 5 ≤ (n + 5 - s.nvm.pos) % 5))) ∧
    (∀ j, s.coreUp = true → s.nvm.readable = true → s.nvmPick = some j → let rest := s.nvm.jobs.erase j
      (∃ t, exec (.rnvmRecordWrite true) s = .next t ∧ t.nvm.jobs = rest ∧
        (∀ k, j.turn = some k → t.nvm.pos = (k + 1) % 5) ∧ t.nvm.writes = s.nvm.writes + 1 ∧ t.dict = s.dict ∧
        (∀ n v, j = .safeValue n v → n < 128 → vgetN t.nvm.safe n 0 = v) ∧
        (∀ k image, j = .overlay k image → 1 ≤ k → k ≤ 17 → t.slotImage k = image) ∧
        (∀ e, j = .event e → t.nvm.eventLog = ((false, e) :: s.nvm.eventLog).take 512) ∧
        (∀ e, j = .shutdown e → t.nvm.eventLog = ((true, e) :: s.nvm.eventLog).take 512)) ∧
      (∃ w : State, exec (.rnvmRecordWrite false) s = .next (w.present .ofChip 0xC5 j.reporter 0) ∧ w.nvm.jobs = rest ∧
        w.nvm.safe = s.nvm.safe ∧ w.nvm.eventLog = s.nvm.eventLog ∧ w.commit = s.commit)) ∧
    (∀ (i : Fin 64) fails test left, (s.site i).test.state = 1 → (s.site i).test.left = test :: left → test < 3 →
      ∃ t, exec (.testDone (.site i) fails) s = .next t ∧ let r := (t.site i).test; let o := (s.site i).test
        r.left = left ∧ r.state = (if left = [] then 2 else 1) ∧ (∀ k < 3, r.ran.getLsbD k = (o.ran.getLsbD k || decide (k = test))) ∧
        (∀ k < 3, r.failed.getLsbD k = (o.failed.getLsbD k || (decide (k = test) && decide (fails ≠ 0)))) ∧
        (test = 0 → (t.site i).mse.store = [] ∧ (t.site i).dsp.pmem = [] ∧ (t.site i).stream.fifo = [] ∧ r.memFail = fails.setWidth 7) ∧
        (test = 1 → r.loopFail = fails ∧ ∀ c : Fin 8, ((t.site i).tdc.cells[c.val]).queue = []) ∧
        (test = 2 → r.bridgeFail = fails.setWidth 2)) ∧
    (∀ (i : Fin 64) fails, (s.site i).test.state ≠ 1 ∨ (s.site i).test.left = [] → exec (.testDone (.site i) fails) s = .next s) ∧
    (∀ (q : Fin 4) fails, ((s.region q).spareTest = true → ∃ t, exec (.testDone (.spare q) fails) s = .next t ∧
        (t.region q).spareTest = false ∧ (t.region q).spareFail = decide (fails ≠ 0) ∧ (t.region q).spare = Dsp.reset ∧ t.sites = s.sites) ∧
      ((s.region q).spareTest = false → exec (.testDone (.spare q) fails) s = .next s)) ∧
    (∀ captured shift, let ok := s.rst.testEn = false ∧ s.rst.resetN = false
      let bypassed (c : Instr) : Prop := Claims.TapOnly s (exec c s) fun x => x.selected = .bypass ∧ x.drive = .released
      let scans (c : Instr) (d : BoundaryDrive) : Prop := Claims.TapOnly s (exec c s) fun x =>
        x.selected = .boundary ∧ x.drive = d ∧ x.captured = captured ∧ x.cells = shift
      (ok → scans (.extest captured shift) .driving ∧ scans (.extestPulse captured shift) .pulsing ∧
        scans (.extestTrain captured shift) .training ∧ (Claims.TapOnly s (exec .clamp s) fun x =>
          x.selected = .bypass ∧ x.drive = .held ∧ x.cells = s.tap.cells) ∧
        Claims.TapOnly s (exec .highz s) fun x => x.selected = .bypass ∧ x.drive = .highz) ∧
      (¬ok → ∀ c ∈ [Instr.extest captured shift, .extestPulse captured shift, .extestTrain captured shift, .clamp, .highz], bypassed c) ∧
      scans (.samplePreload captured shift) .released ∧ bypassed .bypass ∧
      (Claims.TapOnly s (exec .idcode s) fun x => x.selected = .idcode ∧ x.drive = .released ∧
        x.captured = (List.range 32).map (Nat.testBit 0x25164B5F)) ∧
      Claims.TapOnly s (exec .tapReset s) fun x => x.selected = .idcode ∧ x.instr = .idcode ∧ x.drive = .released)

/-- Every command has an effect in every state: exec answers a next state, never a fault and never a refusal. From every state in
which the boundary register reaches a ball only while TEST_EN and RESET_N are both low, and in which the applied values are
held in canonical form, every step leads to such a state, whatever the command; and it takes exactly the command at the front
from the queue. Where it rests on a choice or an inference of the model: log entries 2. -/
def Obligations.StepKeepsInvariant : Prop :=
  (∀ (c : Instr) (s : State), ∃ t, exec c s = .next t) ∧
  ∀ (s t : State), step s = .next t → t.pending = s.pending.tail ∧ (Claims.Inv s → Claims.Inv t)
end

