-- ==== Sys2Proof/Laws/Commit.lean ====
section
/-! SUPPORT. What the application of one single write is, and what a single-write transaction answers. -/
namespace Sys2Proof.Laws
open Sys2Proof.Machine

/-- What is left of a set of writes when no group of the cycle is preferred to any of them: all of it. -/
theorem outranked_none (s : State) (es : List Entry) (h : ∀ e ∈ es, s.outranked e.1 = false) :
    es.filter (fun e => !s.outranked e.1) = es :=
  List.filter_eq_self.2 fun e he => by simp [h e he]

/-- A single write outside any group, to which no group of its cycle is preferred, applies as: the planes that it replaces are
kept, the value stands, its log entry, its effect, the groups that depend on it. -/
theorem applyTxns_single (s : State) (src : Source) (a v : Nat) (timed : Option Time)
    (h : s.outranked a = false) :
    let ctx : Ctx := { src := src, group := 0, timed := timed }
    let w : Applied := { ctx := ctx, addr := a, old := s.val a, v := v }
    let txn : Txn := { ctx := ctx, entries := [(a, v)], overlays := [] }
    s.applyTxns [txn] = (((((s.planesKept [a]).stored w).logTxn txn [w]).effect w).groupsChanged [a]) := by
  simp [State.applyTxns, State.yields, h, State.appliedBy, State.forEach, State.commitMarks, appliedOrder, insertApplied]

/-- A host's single-write transaction that passes its checks is applied, noted for its CK_SEQ cycle, and answers OK. -/
theorem single_ok (s : State) (k : Iface) (es : List Entry) (ov : List OverlayApp) (h : ∀ e ∈ es, s.outranked e.1 = false)
    (hc : s.checkFail .single es ov = none) (hx : xipFail s.spm.queue.length es = none) :
    let t := s.applyTxns [{ ctx := { src := .iface k, group := 0, timed := none }, entries := es, overlays := ov }]
    s.single (.iface k) es ov = ({ t with access := { t.access with wrote := es.map (·.1) } }, 0) := by
  simp [State.single, outranked_none s es h, hc, hx]

/-- A single-write transaction that a check refuses answers it and changes at most the results of its requests. -/
theorem single_refused (s : State) (src : Source) (es : List Entry) (ov : List OverlayApp) (d : Dstat) (a : Nat)
    (h : ∀ e ∈ es, s.outranked e.1 = false) (hc : s.checkFail .single es ov = some (d, a)) :
    s.single src es ov = (s.refusedAt .single es, d) := by
  simp [State.single, outranked_none s es h, hc]

/-- A transaction whose every write yields to groups of its cycle answers OK, whatever the writes (R308). -/
theorem single_outranked (s : State) (src : Source) (es : List Entry) (h : ∀ e ∈ es, s.outranked e.1 = true) :
    s.single src es [] = s.single src [] [] := by
  have : es.filter (fun e => !s.outranked e.1) = [] := List.filter_eq_nil_iff.2 fun e he => by simp [h e he]
  simp [State.single, this]

end Sys2Proof.Laws
end

