-- ==== Sys2Proof/Laws/Store.lean ====
section
/-! SUPPORT. Sparse stores (memories, tables, applied values): what is written is read, nothing else moves, and every operation
keeps the canonical form. -/
namespace Sys2Proof.Machine

variable {α : Type} [DecidableEq α]

/-- Every key of the store is above `k`. -/
def sparseAbove {α : Type} (k : Nat) (m : List (Nat × α)) : Prop := ∀ p ∈ m, k < p.1

/-- The canonical form, said of the head and the tail. -/
theorem sparseWf_cons (d : Nat → α) (p : Nat × α) (m : List (Nat × α)) :
    sparseWf d (p :: m) = true ↔ p.2 ≠ d p.1 ∧ sparseAbove p.1 m ∧ sparseWf d m = true := by
  induction m generalizing p with
  | nil => simp [sparseWf, sparseAbove]
  | cons q m ih =>
    have hq := ih q
    constructor
    · intro h
      have h' : (p.1 < q.1 ∧ p.2 ≠ d p.1) ∧ sparseWf d (q :: m) = true := by simpa [sparseWf] using h
      obtain ⟨-, ha, -⟩ := hq.mp h'.2
      refine ⟨h'.1.2, ?_, h'.2⟩
      intro r hr
      rcases List.mem_cons.mp hr with rfl | hr
      · exact h'.1.1
      · exact Nat.lt_trans h'.1.1 (ha r hr)
    · rintro ⟨h1, h2, h3⟩
      have := h2 q (by simp)
      simp [sparseWf, this, h1, h3]

theorem sparseSet_after (p : Nat × α) (m : List (Nat × α)) (k : Nat) (v d : α) (h : p.1 < k) :
    sparseSet (p :: m) k v d = p :: sparseSet m k v d := by simp [sparseSet, h]

theorem sparseSet_here (p : Nat × α) (m : List (Nat × α)) (v d : α) :
    sparseSet (p :: m) p.1 v d = if v = d then m else (p.1, v) :: m := by simp [sparseSet]

theorem sparseSet_before (p : Nat × α) (m : List (Nat × α)) (k : Nat) (v d : α) (h : k < p.1) :
    sparseSet (p :: m) k v d = if v = d then p :: m else (k, v) :: p :: m := by
  simp [sparseSet, Nat.not_lt_of_lt h, Nat.ne_of_gt h]

/-- A key below all others reads its default. -/
theorem sparseGet_above {α : Type} (k : Nat) (m : List (Nat × α)) (d : α) (h : sparseAbove k m) : sparseGet m k d = d := by
  cases m with
  | nil => rfl
  | cons p m =>
    have := h p (by simp)
    simp [sparseGet, Nat.ne_of_gt this, this]

/-- In a store of canonical form, a key that is written reads the value. -/
theorem sparseGet_set_same (d : Nat → α) (m : List (Nat × α)) (k : Nat) (v : α) (h : sparseWf d m = true) :
    sparseGet (sparseSet m k v (d k)) k (d k) = v := by
  induction m with
  | nil => by_cases hv : v = d k <;> simp [sparseSet, hv, sparseGet]
  | cons p m ih =>
    obtain ⟨-, ha, hm⟩ := (sparseWf_cons d p m).mp h
    by_cases h1 : p.1 < k
    · simp [sparseSet, h1, sparseGet, Nat.ne_of_lt h1, Nat.not_lt_of_lt h1, ih hm]
    · by_cases h2 : p.1 = k
      · by_cases hv : v = d k
        · subst h2; simp [sparseSet, hv, sparseGet_above _ _ _ ha]
        · simp [sparseSet, h2, hv, sparseGet]
      · have hk : k < p.1 := by omega
        by_cases hv : v = d k
        · simp [sparseSet, h1, h2, hv, sparseGet, hk]
        · simp [sparseSet, h1, h2, hv, sparseGet]

/-- A write leaves what every other key reads, in a store whose keys rise. -/
theorem sparseGet_set_other (d : Nat → α) (m : List (Nat × α)) (k j : Nat) (v dk dj : α) (h : sparseWf d m = true)
    (hne : k ≠ j) : sparseGet (sparseSet m k v dk) j dj = sparseGet m j dj := by
  induction m with
  | nil =>
    by_cases hv : v = dk
    · simp [sparseSet, hv]
    · simp [sparseSet, hv, sparseGet, hne]
  | cons p m ih =>
    obtain ⟨-, ha, hm⟩ := (sparseWf_cons d p m).mp h
    by_cases h1 : p.1 < k
    · rw [sparseSet_after _ _ _ _ _ h1]
      simp only [sparseGet, ih hm]
    · by_cases h2 : p.1 = k
      · subst h2
        by_cases hv : v = dk
        · by_cases h4 : j < p.1
          · have : sparseAbove j m := fun q hq => Nat.lt_trans h4 (ha q hq)
            simp [sparseSet, hv, sparseGet, hne, h4, sparseGet_above _ _ _ this]
          · simp [sparseSet, hv, sparseGet, hne, h4]
        · simp [sparseSet, hv, sparseGet, hne]
      · have hk : k < p.1 := by omega
        by_cases hv : v = dk
        · simp [sparseSet, h1, h2, hv]
        · by_cases h4 : j < k
          · have h5 : j < p.1 := by omega
            have h6 : p.1 ≠ j := by omega
            simp [sparseSet, h1, h2, hv, sparseGet, hne, h4, h5, h6]
          · simp [sparseSet, h1, h2, hv, sparseGet, hne, h4]

/-- Keys above `j` stay above it. -/
theorem sparseAbove_set {j k : Nat} {m : List (Nat × α)} {v dk : α} (h : sparseAbove j m) (hk : j < k) :
    sparseAbove j (sparseSet m k v dk) := by
  induction m with
  | nil => by_cases hv : v = dk <;> simp [sparseSet, hv, sparseAbove, hk]
  | cons p m ih =>
    have hm : sparseAbove j m := fun q hq => h q (List.mem_cons_of_mem p hq)
    have hcons : ∀ r : Nat × α, j < r.1 → ∀ l, sparseAbove j l → sparseAbove j (r :: l) := by
      intro r hr l hl q hq
      rcases List.mem_cons.mp hq with e | hq
      · exact e ▸ hr
      · exact hl q hq
    have hp : j < p.1 := h p (by simp)
    rcases Nat.lt_trichotomy p.1 k with h1 | h1 | h1
    · rw [sparseSet_after _ _ _ _ _ h1]
      exact hcons p hp _ (ih hm)
    · subst h1
      rw [sparseSet_here]
      split
      · exact hm
      · exact hcons (p.1, v) hk _ hm
    · rw [sparseSet_before _ _ _ _ _ h1]
      split
      · exact h
      · exact hcons (k, v) hk _ h

/-- A write keeps the canonical form. -/
theorem sparseWf_set (d : Nat → α) (m : List (Nat × α)) (k : Nat) (v : α) (h : sparseWf d m = true) :
    sparseWf d (sparseSet m k v (d k)) = true := by
  induction m with
  | nil => by_cases hv : v = d k <;> simp [sparseSet, hv, sparseWf]
  | cons p m ih =>
    obtain ⟨hd, ha, hm⟩ := (sparseWf_cons d p m).mp h
    rcases Nat.lt_trichotomy p.1 k with h1 | h1 | h1
    · rw [sparseSet_after _ _ _ _ _ h1]
      exact (sparseWf_cons d _ _).mpr ⟨hd, sparseAbove_set ha h1, ih hm⟩
    · subst h1
      rw [sparseSet_here]
      split
      · exact hm
      · next hv => exact (sparseWf_cons d _ _).mpr ⟨hv, ha, hm⟩
    · rw [sparseSet_before _ _ _ _ _ h1]
      split
      · exact h
      · next hv =>
        refine (sparseWf_cons d _ _).mpr ⟨hv, ?_, h⟩
        intro q hq
        rcases List.mem_cons.mp hq with e | hq
        · exact e ▸ h1
        · exact Nat.lt_trans h1 (ha q hq)

/-- A run of writes keeps the canonical form, where one value is the default of every key. -/
theorem sparseWf_setRun (d : α) (vs : List α) (m : List (Nat × α)) (k : Nat) (h : sparseWf (fun _ => d) m = true) :
    sparseWf (fun _ => d) (sparseSetRun m k vs d) = true := by
  induction vs generalizing m k with
  | nil => exact h
  | cons v vs ih => exact ih _ _ (sparseWf_set (fun _ => d) m k v h)

/-- Dropping entries keeps the canonical form. -/
theorem sparseWf_filter (d : Nat → α) (m : List (Nat × α)) (p : Nat × α → Bool) (h : sparseWf d m = true) :
    sparseWf d (m.filter p) = true := by
  induction m with
  | nil => rfl
  | cons q m ih =>
    obtain ⟨hd, ha, hm⟩ := (sparseWf_cons d q m).mp h
    by_cases hq : p q = true
    · rw [List.filter_cons_of_pos hq]
      exact (sparseWf_cons d _ _).mpr ⟨hd, fun r hr => ha r (List.mem_filter.mp hr).1, ih hm⟩
    · rw [List.filter_cons_of_neg hq]
      exact ih hm

/-- The store that lists nothing has the canonical form. -/
@[simp] theorem sparseWf_nil (d : Nat → α) : sparseWf d ([] : List (Nat × α)) = true := rfl

end Sys2Proof.Machine
end

