-- ==== Sys2Proof/Laws/Dict.lean ====
section
/-! SUPPORT. Addresses of the dictionary take apart as they were put together; applied values read back. -/
namespace Sys2Proof.Machine

@[simp] theorem indexOf_addrOf (index sub : Nat) (h : sub < 256) : indexOf (addrOf index sub) = index := by
  unfold indexOf addrOf; omega

@[simp] theorem subOf_addrOf (index sub : Nat) (h : sub < 256) : subOf (addrOf index sub) = sub := by
  unfold subOf addrOf; omega

theorem indexOf_siteAddr (i : Fin 64) (off sub : Nat) (h : sub < 256) :
    indexOf (siteAddr i off sub) = 0x4000 + 0x100 * i.val + off := by
  unfold siteAddr; exact indexOf_addrOf _ _ h

@[simp] theorem subOf_siteAddr (i : Fin 64) (off sub : Nat) (h : sub < 256) : subOf (siteAddr i off sub) = sub := by
  unfold siteAddr; exact subOf_addrOf _ _ h

/-- An address of a site's block lies in that block. -/
theorem placeOf_siteAddr (i : Fin 64) (off sub : Nat) (hs : sub < 256) (ho : off < 256) :
    placeOf (indexOf (siteAddr i off sub)) = .site i off := by
  rw [indexOf_siteAddr i off sub hs]
  have h1 : (0x4000 + 0x100 * i.val + off - 0x4000) / 256 = i.val := by omega
  have h2 : (0x4000 + 0x100 * i.val + off) % 256 = off := by omega
  have h3 : Fin.ofNat 64 i.val = i := by apply Fin.ext; simp [Fin.ofNat]
  have hi := i.isLt
  unfold placeOf
  rw [if_neg (by omega), if_neg (by omega), if_neg (by omega), if_neg (by omega), if_pos (by omega), h1, h2, h3]

/-- An address of a region's block lies in that block. -/
theorem placeOf_regionAddr (q : Fin 4) (off sub : Nat) (hs : sub < 256) (ho : off < 256) :
    placeOf (indexOf (regionAddr q off sub)) = .region q off := by
  have h0 : indexOf (regionAddr q off sub) = 0x3000 + 0x100 * q.val + off := indexOf_addrOf _ _ hs
  rw [h0]
  have h1 : (0x3000 + 0x100 * q.val + off - 0x3000) / 256 = q.val := by omega
  have h2 : (0x3000 + 0x100 * q.val + off) % 256 = off := by omega
  have h3 : Fin.ofNat 4 q.val = q := by apply Fin.ext; simp [Fin.ofNat]
  have hq := q.isLt
  unfold placeOf
  rw [if_neg (by omega), if_neg (by omega), if_pos (by omega), h1, h2, h3]

/-- In a dictionary of canonical form, a value that is applied is the value read back. -/
theorem State.val_setVal_same (s : State) (a v : Nat) (h : sparseWf initial s.dict = true) : (s.setVal a v).val a = v :=
  sparseGet_set_same initial s.dict a v h

/-- Applying a value leaves the values of the other subindices. -/
theorem State.val_setVal_other (s : State) (a b v : Nat) (h : sparseWf initial s.dict = true) (hne : a ≠ b) :
    (s.setVal a v).val b = s.val b :=
  sparseGet_set_other initial s.dict a b v (initial a) (initial b) h hne

/-- Applying a value keeps the canonical form of the dictionary. -/
theorem State.setVal_wf (s : State) (a v : Nat) (h : sparseWf initial s.dict = true) :
    sparseWf initial (s.setVal a v).dict = true :=
  sparseWf_set initial s.dict a v h

end Sys2Proof.Machine
end

