-- ==== Sys2Proof/Laws/State.lean ====
section
/-! SUPPORT. Each named operation over the state leaves every field but its own as it was; what it makes of its own. -/
namespace Sys2Proof.Machine

variable (s : State)

/-! ## Fields that an operation leaves -/

@[simp] theorem State.modSite_clock (i : Fin 64) (f : Site → Site) : (s.modSite i f).clock = s.clock := rfl
@[simp] theorem State.modSite_dict (i : Fin 64) (f : Site → Site) : (s.modSite i f).dict = s.dict := rfl
@[simp] theorem State.modSite_access (i : Fin 64) (f : Site → Site) : (s.modSite i f).access = s.access := rfl
@[simp] theorem State.modSite_regions (i : Fin 64) (f : Site → Site) : (s.modSite i f).regions = s.regions := rfl
@[simp] theorem State.modSite_pll (i : Fin 64) (f : Site → Site) : (s.modSite i f).pll = s.pll := rfl
@[simp] theorem State.modSite_ckos (i : Fin 64) (f : Site → Site) : (s.modSite i f).ckos = s.ckos := rfl
@[simp] theorem State.modSite_sync (i : Fin 64) (f : Site → Site) : (s.modSite i f).sync = s.sync := rfl
@[simp] theorem State.modSite_special (i : Fin 64) (f : Site → Site) : (s.modSite i f).special = s.special := rfl
@[simp] theorem State.modSite_balls (i : Fin 64) (f : Site → Site) : (s.modSite i f).balls = s.balls := rfl
@[simp] theorem State.modSite_chipTrig (i : Fin 64) (f : Site → Site) : (s.modSite i f).chipTrig = s.chipTrig := rfl
@[simp] theorem State.modSite_commit (i : Fin 64) (f : Site → Site) : (s.modSite i f).commit = s.commit := rfl
@[simp] theorem State.modSite_gauntlet (i : Fin 64) (f : Site → Site) : (s.modSite i f).gauntlet = s.gauntlet := rfl
@[simp] theorem State.modSite_assize (i : Fin 64) (f : Site → Site) : (s.modSite i f).assize = s.assize := rfl
@[simp] theorem State.modSite_nvm (i : Fin 64) (f : Site → Site) : (s.modSite i f).nvm = s.nvm := rfl
@[simp] theorem State.modSite_thermal (i : Fin 64) (f : Site → Site) : (s.modSite i f).thermal = s.thermal := rfl
@[simp] theorem State.modSite_cal (i : Fin 64) (f : Site → Site) : (s.modSite i f).cal = s.cal := rfl
@[simp] theorem State.modSite_mitten (i : Fin 64) (f : Site → Site) : (s.modSite i f).mitten = s.mitten := rfl
@[simp] theorem State.modSite_can (i : Fin 64) (f : Site → Site) : (s.modSite i f).can = s.can := rfl
@[simp] theorem State.modSite_sps (i : Fin 64) (f : Site → Site) : (s.modSite i f).sps = s.sps := rfl
@[simp] theorem State.modSite_spm (i : Fin 64) (f : Site → Site) : (s.modSite i f).spm = s.spm := rfl
@[simp] theorem State.modSite_furlong (i : Fin 64) (f : Site → Site) : (s.modSite i f).furlong = s.furlong := rfl
@[simp] theorem State.modSite_csv (i : Fin 64) (f : Site → Site) : (s.modSite i f).csv = s.csv := rfl
@[simp] theorem State.modSite_rst (i : Fin 64) (f : Site → Site) : (s.modSite i f).rst = s.rst := rfl
@[simp] theorem State.modSite_tap (i : Fin 64) (f : Site → Site) : (s.modSite i f).tap = s.tap := rfl
@[simp] theorem State.modSite_answer (i : Fin 64) (f : Site → Site) : (s.modSite i f).answer = s.answer := rfl
@[simp] theorem State.modSite_freeCount (i : Fin 64) (f : Site → Site) : (s.modSite i f).freeCount = s.freeCount := rfl
@[simp] theorem State.modSite_pending (i : Fin 64) (f : Site → Site) : (s.modSite i f).pending = s.pending := rfl

@[simp] theorem State.modSites_clock (f : Site → Site) : (s.modSites f).clock = s.clock := rfl
@[simp] theorem State.modSites_dict (f : Site → Site) : (s.modSites f).dict = s.dict := rfl
@[simp] theorem State.modSites_access (f : Site → Site) : (s.modSites f).access = s.access := rfl
@[simp] theorem State.modSites_regions (f : Site → Site) : (s.modSites f).regions = s.regions := rfl
@[simp] theorem State.modSites_pll (f : Site → Site) : (s.modSites f).pll = s.pll := rfl
@[simp] theorem State.modSites_ckos (f : Site → Site) : (s.modSites f).ckos = s.ckos := rfl
@[simp] theorem State.modSites_sync (f : Site → Site) : (s.modSites f).sync = s.sync := rfl
@[simp] theorem State.modSites_special (f : Site → Site) : (s.modSites f).special = s.special := rfl
@[simp] theorem State.modSites_balls (f : Site → Site) : (s.modSites f).balls = s.balls := rfl
@[simp] theorem State.modSites_chipTrig (f : Site → Site) : (s.modSites f).chipTrig = s.chipTrig := rfl
@[simp] theorem State.modSites_commit (f : Site → Site) : (s.modSites f).commit = s.commit := rfl
@[simp] theorem State.modSites_gauntlet (f : Site → Site) : (s.modSites f).gauntlet = s.gauntlet := rfl
@[simp] theorem State.modSites_assize (f : Site → Site) : (s.modSites f).assize = s.assize := rfl
@[simp] theorem State.modSites_nvm (f : Site → Site) : (s.modSites f).nvm = s.nvm := rfl
@[simp] theorem State.modSites_thermal (f : Site → Site) : (s.modSites f).thermal = s.thermal := rfl
@[simp] theorem State.modSites_cal (f : Site → Site) : (s.modSites f).cal = s.cal := rfl
@[simp] theorem State.modSites_mitten (f : Site → Site) : (s.modSites f).mitten = s.mitten := rfl
@[simp] theorem State.modSites_can (f : Site → Site) : (s.modSites f).can = s.can := rfl
@[simp] theorem State.modSites_sps (f : Site → Site) : (s.modSites f).sps = s.sps := rfl
@[simp] theorem State.modSites_spm (f : Site → Site) : (s.modSites f).spm = s.spm := rfl
@[simp] theorem State.modSites_furlong (f : Site → Site) : (s.modSites f).furlong = s.furlong := rfl
@[simp] theorem State.modSites_csv (f : Site → Site) : (s.modSites f).csv = s.csv := rfl
@[simp] theorem State.modSites_rst (f : Site → Site) : (s.modSites f).rst = s.rst := rfl
@[simp] theorem State.modSites_tap (f : Site → Site) : (s.modSites f).tap = s.tap := rfl
@[simp] theorem State.modSites_answer (f : Site → Site) : (s.modSites f).answer = s.answer := rfl
@[simp] theorem State.modSites_freeCount (f : Site → Site) : (s.modSites f).freeCount = s.freeCount := rfl
@[simp] theorem State.modSites_pending (f : Site → Site) : (s.modSites f).pending = s.pending := rfl

@[simp] theorem State.modCell_clock (i : Fin 64) (c : Fin 8) (f : PinCell → PinCell) : (s.modCell i c f).clock = s.clock := rfl
@[simp] theorem State.modCell_dict (i : Fin 64) (c : Fin 8) (f : PinCell → PinCell) : (s.modCell i c f).dict = s.dict := rfl
@[simp] theorem State.modCell_access (i : Fin 64) (c : Fin 8) (f : PinCell → PinCell) : (s.modCell i c f).access = s.access := rfl
@[simp] theorem State.modCell_regions (i : Fin 64) (c : Fin 8) (f : PinCell → PinCell) : (s.modCell i c f).regions = s.regions := rfl
@[simp] theorem State.modCell_pll (i : Fin 64) (c : Fin 8) (f : PinCell → PinCell) : (s.modCell i c f).pll = s.pll := rfl
@[simp] theorem State.modCell_ckos (i : Fin 64) (c : Fin 8) (f : PinCell → PinCell) : (s.modCell i c f).ckos = s.ckos := rfl
@[simp] theorem State.modCell_sync (i : Fin 64) (c : Fin 8) (f : PinCell → PinCell) : (s.modCell i c f).sync = s.sync := rfl
@[simp] theorem State.modCell_special (i : Fin 64) (c : Fin 8) (f : PinCell → PinCell) : (s.modCell i c f).special = s.special := rfl
@[simp] theorem State.modCell_balls (i : Fin 64) (c : Fin 8) (f : PinCell → PinCell) : (s.modCell i c f).balls = s.balls := rfl
@[simp] theorem State.modCell_chipTrig (i : Fin 64) (c : Fin 8) (f : PinCell → PinCell) : (s.modCell i c f).chipTrig = s.chipTrig := rfl
@[simp] theorem State.modCell_commit (i : Fin 64) (c : Fin 8) (f : PinCell → PinCell) : (s.modCell i c f).commit = s.commit := rfl
@[simp] theorem State.modCell_gauntlet (i : Fin 64) (c : Fin 8) (f : PinCell → PinCell) : (s.modCell i c f).gauntlet = s.gauntlet := rfl
@[simp] theorem State.modCell_assize (i : Fin 64) (c : Fin 8) (f : PinCell → PinCell) : (s.modCell i c f).assize = s.assize := rfl
@[simp] theorem State.modCell_nvm (i : Fin 64) (c : Fin 8) (f : PinCell → PinCell) : (s.modCell i c f).nvm = s.nvm := rfl
@[simp] theorem State.modCell_thermal (i : Fin 64) (c : Fin 8) (f : PinCell → PinCell) : (s.modCell i c f).thermal = s.thermal := rfl
@[simp] theorem State.modCell_cal (i : Fin 64) (c : Fin 8) (f : PinCell → PinCell) : (s.modCell i c f).cal = s.cal := rfl
@[simp] theorem State.modCell_mitten (i : Fin 64) (c : Fin 8) (f : PinCell → PinCell) : (s.modCell i c f).mitten = s.mitten := rfl
@[simp] theorem State.modCell_can (i : Fin 64) (c : Fin 8) (f : PinCell → PinCell) : (s.modCell i c f).can = s.can := rfl
@[simp] theorem State.modCell_sps (i : Fin 64) (c : Fin 8) (f : PinCell → PinCell) : (s.modCell i c f).sps = s.sps := rfl
@[simp] theorem State.modCell_spm (i : Fin 64) (c : Fin 8) (f : PinCell → PinCell) : (s.modCell i c f).spm = s.spm := rfl
@[simp] theorem State.modCell_furlong (i : Fin 64) (c : Fin 8) (f : PinCell → PinCell) : (s.modCell i c f).furlong = s.furlong := rfl
@[simp] theorem State.modCell_csv (i : Fin 64) (c : Fin 8) (f : PinCell → PinCell) : (s.modCell i c f).csv = s.csv := rfl
@[simp] theorem State.modCell_rst (i : Fin 64) (c : Fin 8) (f : PinCell → PinCell) : (s.modCell i c f).rst = s.rst := rfl
@[simp] theorem State.modCell_tap (i : Fin 64) (c : Fin 8) (f : PinCell → PinCell) : (s.modCell i c f).tap = s.tap := rfl
@[simp] theorem State.modCell_answer (i : Fin 64) (c : Fin 8) (f : PinCell → PinCell) : (s.modCell i c f).answer = s.answer := rfl
@[simp] theorem State.modCell_freeCount (i : Fin 64) (c : Fin 8) (f : PinCell → PinCell) : (s.modCell i c f).freeCount = s.freeCount := rfl
@[simp] theorem State.modCell_pending (i : Fin 64) (c : Fin 8) (f : PinCell → PinCell) : (s.modCell i c f).pending = s.pending := rfl

@[simp] theorem State.modBridge_clock (i : Fin 64) (u : Fin 2) (f : Bridge → Bridge) : (s.modBridge i u f).clock = s.clock := rfl
@[simp] theorem State.modBridge_dict (i : Fin 64) (u : Fin 2) (f : Bridge → Bridge) : (s.modBridge i u f).dict = s.dict := rfl
@[simp] theorem State.modBridge_access (i : Fin 64) (u : Fin 2) (f : Bridge → Bridge) : (s.modBridge i u f).access = s.access := rfl
@[simp] theorem State.modBridge_regions (i : Fin 64) (u : Fin 2) (f : Bridge → Bridge) : (s.modBridge i u f).regions = s.regions := rfl
@[simp] theorem State.modBridge_pll (i : Fin 64) (u : Fin 2) (f : Bridge → Bridge) : (s.modBridge i u f).pll = s.pll := rfl
@[simp] theorem State.modBridge_ckos (i : Fin 64) (u : Fin 2) (f : Bridge → Bridge) : (s.modBridge i u f).ckos = s.ckos := rfl
@[simp] theorem State.modBridge_sync (i : Fin 64) (u : Fin 2) (f : Bridge → Bridge) : (s.modBridge i u f).sync = s.sync := rfl
@[simp] theorem State.modBridge_special (i : Fin 64) (u : Fin 2) (f : Bridge → Bridge) : (s.modBridge i u f).special = s.special := rfl
@[simp] theorem State.modBridge_balls (i : Fin 64) (u : Fin 2) (f : Bridge → Bridge) : (s.modBridge i u f).balls = s.balls := rfl
@[simp] theorem State.modBridge_chipTrig (i : Fin 64) (u : Fin 2) (f : Bridge → Bridge) : (s.modBridge i u f).chipTrig = s.chipTrig := rfl
@[simp] theorem State.modBridge_commit (i : Fin 64) (u : Fin 2) (f : Bridge → Bridge) : (s.modBridge i u f).commit = s.commit := rfl
@[simp] theorem State.modBridge_gauntlet (i : Fin 64) (u : Fin 2) (f : Bridge → Bridge) : (s.modBridge i u f).gauntlet = s.gauntlet := rfl
@[simp] theorem State.modBridge_assize (i : Fin 64) (u : Fin 2) (f : Bridge → Bridge) : (s.modBridge i u f).assize = s.assize := rfl
@[simp] theorem State.modBridge_nvm (i : Fin 64) (u : Fin 2) (f : Bridge → Bridge) : (s.modBridge i u f).nvm = s.nvm := rfl
@[simp] theorem State.modBridge_thermal (i : Fin 64) (u : Fin 2) (f : Bridge → Bridge) : (s.modBridge i u f).thermal = s.thermal := rfl
@[simp] theorem State.modBridge_cal (i : Fin 64) (u : Fin 2) (f : Bridge → Bridge) : (s.modBridge i u f).cal = s.cal := rfl
@[simp] theorem State.modBridge_mitten (i : Fin 64) (u : Fin 2) (f : Bridge → Bridge) : (s.modBridge i u f).mitten = s.mitten := rfl
@[simp] theorem State.modBridge_can (i : Fin 64) (u : Fin 2) (f : Bridge → Bridge) : (s.modBridge i u f).can = s.can := rfl
@[simp] theorem State.modBridge_sps (i : Fin 64) (u : Fin 2) (f : Bridge → Bridge) : (s.modBridge i u f).sps = s.sps := rfl
@[simp] theorem State.modBridge_spm (i : Fin 64) (u : Fin 2) (f : Bridge → Bridge) : (s.modBridge i u f).spm = s.spm := rfl
@[simp] theorem State.modBridge_furlong (i : Fin 64) (u : Fin 2) (f : Bridge → Bridge) : (s.modBridge i u f).furlong = s.furlong := rfl
@[simp] theorem State.modBridge_csv (i : Fin 64) (u : Fin 2) (f : Bridge → Bridge) : (s.modBridge i u f).csv = s.csv := rfl
@[simp] theorem State.modBridge_rst (i : Fin 64) (u : Fin 2) (f : Bridge → Bridge) : (s.modBridge i u f).rst = s.rst := rfl
@[simp] theorem State.modBridge_tap (i : Fin 64) (u : Fin 2) (f : Bridge → Bridge) : (s.modBridge i u f).tap = s.tap := rfl
@[simp] theorem State.modBridge_answer (i : Fin 64) (u : Fin 2) (f : Bridge → Bridge) : (s.modBridge i u f).answer = s.answer := rfl
@[simp] theorem State.modBridge_freeCount (i : Fin 64) (u : Fin 2) (f : Bridge → Bridge) : (s.modBridge i u f).freeCount = s.freeCount := rfl
@[simp] theorem State.modBridge_pending (i : Fin 64) (u : Fin 2) (f : Bridge → Bridge) : (s.modBridge i u f).pending = s.pending := rfl

@[simp] theorem State.modCtl_clock (i : Fin 64) (f : SiteCtl → SiteCtl) : (s.modCtl i f).clock = s.clock := rfl
@[simp] theorem State.modCtl_dict (i : Fin 64) (f : SiteCtl → SiteCtl) : (s.modCtl i f).dict = s.dict := rfl
@[simp] theorem State.modCtl_access (i : Fin 64) (f : SiteCtl → SiteCtl) : (s.modCtl i f).access = s.access := rfl
@[simp] theorem State.modCtl_regions (i : Fin 64) (f : SiteCtl → SiteCtl) : (s.modCtl i f).regions = s.regions := rfl
@[simp] theorem State.modCtl_pll (i : Fin 64) (f : SiteCtl → SiteCtl) : (s.modCtl i f).pll = s.pll := rfl
@[simp] theorem State.modCtl_ckos (i : Fin 64) (f : SiteCtl → SiteCtl) : (s.modCtl i f).ckos = s.ckos := rfl
@[simp] theorem State.modCtl_sync (i : Fin 64) (f : SiteCtl → SiteCtl) : (s.modCtl i f).sync = s.sync := rfl
@[simp] theorem State.modCtl_special (i : Fin 64) (f : SiteCtl → SiteCtl) : (s.modCtl i f).special = s.special := rfl
@[simp] theorem State.modCtl_balls (i : Fin 64) (f : SiteCtl → SiteCtl) : (s.modCtl i f).balls = s.balls := rfl
@[simp] theorem State.modCtl_chipTrig (i : Fin 64) (f : SiteCtl → SiteCtl) : (s.modCtl i f).chipTrig = s.chipTrig := rfl
@[simp] theorem State.modCtl_commit (i : Fin 64) (f : SiteCtl → SiteCtl) : (s.modCtl i f).commit = s.commit := rfl
@[simp] theorem State.modCtl_gauntlet (i : Fin 64) (f : SiteCtl → SiteCtl) : (s.modCtl i f).gauntlet = s.gauntlet := rfl
@[simp] theorem State.modCtl_assize (i : Fin 64) (f : SiteCtl → SiteCtl) : (s.modCtl i f).assize = s.assize := rfl
@[simp] theorem State.modCtl_nvm (i : Fin 64) (f : SiteCtl → SiteCtl) : (s.modCtl i f).nvm = s.nvm := rfl
@[simp] theorem State.modCtl_thermal (i : Fin 64) (f : SiteCtl → SiteCtl) : (s.modCtl i f).thermal = s.thermal := rfl
@[simp] theorem State.modCtl_cal (i : Fin 64) (f : SiteCtl → SiteCtl) : (s.modCtl i f).cal = s.cal := rfl
@[simp] theorem State.modCtl_mitten (i : Fin 64) (f : SiteCtl → SiteCtl) : (s.modCtl i f).mitten = s.mitten := rfl
@[simp] theorem State.modCtl_can (i : Fin 64) (f : SiteCtl → SiteCtl) : (s.modCtl i f).can = s.can := rfl
@[simp] theorem State.modCtl_sps (i : Fin 64) (f : SiteCtl → SiteCtl) : (s.modCtl i f).sps = s.sps := rfl
@[simp] theorem State.modCtl_spm (i : Fin 64) (f : SiteCtl → SiteCtl) : (s.modCtl i f).spm = s.spm := rfl
@[simp] theorem State.modCtl_furlong (i : Fin 64) (f : SiteCtl → SiteCtl) : (s.modCtl i f).furlong = s.furlong := rfl
@[simp] theorem State.modCtl_csv (i : Fin 64) (f : SiteCtl → SiteCtl) : (s.modCtl i f).csv = s.csv := rfl
@[simp] theorem State.modCtl_rst (i : Fin 64) (f : SiteCtl → SiteCtl) : (s.modCtl i f).rst = s.rst := rfl
@[simp] theorem State.modCtl_tap (i : Fin 64) (f : SiteCtl → SiteCtl) : (s.modCtl i f).tap = s.tap := rfl
@[simp] theorem State.modCtl_answer (i : Fin 64) (f : SiteCtl → SiteCtl) : (s.modCtl i f).answer = s.answer := rfl
@[simp] theorem State.modCtl_freeCount (i : Fin 64) (f : SiteCtl → SiteCtl) : (s.modCtl i f).freeCount = s.freeCount := rfl
@[simp] theorem State.modCtl_pending (i : Fin 64) (f : SiteCtl → SiteCtl) : (s.modCtl i f).pending = s.pending := rfl

@[simp] theorem State.modPsq_clock (i : Fin 64) (f : Psq → Psq) : (s.modPsq i f).clock = s.clock := rfl
@[simp] theorem State.modPsq_dict (i : Fin 64) (f : Psq → Psq) : (s.modPsq i f).dict = s.dict := rfl
@[simp] theorem State.modPsq_access (i : Fin 64) (f : Psq → Psq) : (s.modPsq i f).access = s.access := rfl
@[simp] theorem State.modPsq_regions (i : Fin 64) (f : Psq → Psq) : (s.modPsq i f).regions = s.regions := rfl
@[simp] theorem State.modPsq_pll (i : Fin 64) (f : Psq → Psq) : (s.modPsq i f).pll = s.pll := rfl
@[simp] theorem State.modPsq_ckos (i : Fin 64) (f : Psq → Psq) : (s.modPsq i f).ckos = s.ckos := rfl
@[simp] theorem State.modPsq_sync (i : Fin 64) (f : Psq → Psq) : (s.modPsq i f).sync = s.sync := rfl
@[simp] theorem State.modPsq_special (i : Fin 64) (f : Psq → Psq) : (s.modPsq i f).special = s.special := rfl
@[simp] theorem State.modPsq_balls (i : Fin 64) (f : Psq → Psq) : (s.modPsq i f).balls = s.balls := rfl
@[simp] theorem State.modPsq_chipTrig (i : Fin 64) (f : Psq → Psq) : (s.modPsq i f).chipTrig = s.chipTrig := rfl
@[simp] theorem State.modPsq_commit (i : Fin 64) (f : Psq → Psq) : (s.modPsq i f).commit = s.commit := rfl
@[simp] theorem State.modPsq_gauntlet (i : Fin 64) (f : Psq → Psq) : (s.modPsq i f).gauntlet = s.gauntlet := rfl
@[simp] theorem State.modPsq_assize (i : Fin 64) (f : Psq → Psq) : (s.modPsq i f).assize = s.assize := rfl
@[simp] theorem State.modPsq_nvm (i : Fin 64) (f : Psq → Psq) : (s.modPsq i f).nvm = s.nvm := rfl
@[simp] theorem State.modPsq_thermal (i : Fin 64) (f : Psq → Psq) : (s.modPsq i f).thermal = s.thermal := rfl
@[simp] theorem State.modPsq_cal (i : Fin 64) (f : Psq → Psq) : (s.modPsq i f).cal = s.cal := rfl
@[simp] theorem State.modPsq_mitten (i : Fin 64) (f : Psq → Psq) : (s.modPsq i f).mitten = s.mitten := rfl
@[simp] theorem State.modPsq_can (i : Fin 64) (f : Psq → Psq) : (s.modPsq i f).can = s.can := rfl
@[simp] theorem State.modPsq_sps (i : Fin 64) (f : Psq → Psq) : (s.modPsq i f).sps = s.sps := rfl
@[simp] theorem State.modPsq_spm (i : Fin 64) (f : Psq → Psq) : (s.modPsq i f).spm = s.spm := rfl
@[simp] theorem State.modPsq_furlong (i : Fin 64) (f : Psq → Psq) : (s.modPsq i f).furlong = s.furlong := rfl
@[simp] theorem State.modPsq_csv (i : Fin 64) (f : Psq → Psq) : (s.modPsq i f).csv = s.csv := rfl
@[simp] theorem State.modPsq_rst (i : Fin 64) (f : Psq → Psq) : (s.modPsq i f).rst = s.rst := rfl
@[simp] theorem State.modPsq_tap (i : Fin 64) (f : Psq → Psq) : (s.modPsq i f).tap = s.tap := rfl
@[simp] theorem State.modPsq_answer (i : Fin 64) (f : Psq → Psq) : (s.modPsq i f).answer = s.answer := rfl
@[simp] theorem State.modPsq_freeCount (i : Fin 64) (f : Psq → Psq) : (s.modPsq i f).freeCount = s.freeCount := rfl
@[simp] theorem State.modPsq_pending (i : Fin 64) (f : Psq → Psq) : (s.modPsq i f).pending = s.pending := rfl

@[simp] theorem State.modMse_clock (i : Fin 64) (f : Mse → Mse) : (s.modMse i f).clock = s.clock := rfl
@[simp] theorem State.modMse_dict (i : Fin 64) (f : Mse → Mse) : (s.modMse i f).dict = s.dict := rfl
@[simp] theorem State.modMse_access (i : Fin 64) (f : Mse → Mse) : (s.modMse i f).access = s.access := rfl
@[simp] theorem State.modMse_regions (i : Fin 64) (f : Mse → Mse) : (s.modMse i f).regions = s.regions := rfl
@[simp] theorem State.modMse_pll (i : Fin 64) (f : Mse → Mse) : (s.modMse i f).pll = s.pll := rfl
@[simp] theorem State.modMse_ckos (i : Fin 64) (f : Mse → Mse) : (s.modMse i f).ckos = s.ckos := rfl
@[simp] theorem State.modMse_sync (i : Fin 64) (f : Mse → Mse) : (s.modMse i f).sync = s.sync := rfl
@[simp] theorem State.modMse_special (i : Fin 64) (f : Mse → Mse) : (s.modMse i f).special = s.special := rfl
@[simp] theorem State.modMse_balls (i : Fin 64) (f : Mse → Mse) : (s.modMse i f).balls = s.balls := rfl
@[simp] theorem State.modMse_chipTrig (i : Fin 64) (f : Mse → Mse) : (s.modMse i f).chipTrig = s.chipTrig := rfl
@[simp] theorem State.modMse_commit (i : Fin 64) (f : Mse → Mse) : (s.modMse i f).commit = s.commit := rfl
@[simp] theorem State.modMse_gauntlet (i : Fin 64) (f : Mse → Mse) : (s.modMse i f).gauntlet = s.gauntlet := rfl
@[simp] theorem State.modMse_assize (i : Fin 64) (f : Mse → Mse) : (s.modMse i f).assize = s.assize := rfl
@[simp] theorem State.modMse_nvm (i : Fin 64) (f : Mse → Mse) : (s.modMse i f).nvm = s.nvm := rfl
@[simp] theorem State.modMse_thermal (i : Fin 64) (f : Mse → Mse) : (s.modMse i f).thermal = s.thermal := rfl
@[simp] theorem State.modMse_cal (i : Fin 64) (f : Mse → Mse) : (s.modMse i f).cal = s.cal := rfl
@[simp] theorem State.modMse_mitten (i : Fin 64) (f : Mse → Mse) : (s.modMse i f).mitten = s.mitten := rfl
@[simp] theorem State.modMse_can (i : Fin 64) (f : Mse → Mse) : (s.modMse i f).can = s.can := rfl
@[simp] theorem State.modMse_sps (i : Fin 64) (f : Mse → Mse) : (s.modMse i f).sps = s.sps := rfl
@[simp] theorem State.modMse_spm (i : Fin 64) (f : Mse → Mse) : (s.modMse i f).spm = s.spm := rfl
@[simp] theorem State.modMse_furlong (i : Fin 64) (f : Mse → Mse) : (s.modMse i f).furlong = s.furlong := rfl
@[simp] theorem State.modMse_csv (i : Fin 64) (f : Mse → Mse) : (s.modMse i f).csv = s.csv := rfl
@[simp] theorem State.modMse_rst (i : Fin 64) (f : Mse → Mse) : (s.modMse i f).rst = s.rst := rfl
@[simp] theorem State.modMse_tap (i : Fin 64) (f : Mse → Mse) : (s.modMse i f).tap = s.tap := rfl
@[simp] theorem State.modMse_answer (i : Fin 64) (f : Mse → Mse) : (s.modMse i f).answer = s.answer := rfl
@[simp] theorem State.modMse_freeCount (i : Fin 64) (f : Mse → Mse) : (s.modMse i f).freeCount = s.freeCount := rfl
@[simp] theorem State.modMse_pending (i : Fin 64) (f : Mse → Mse) : (s.modMse i f).pending = s.pending := rfl

@[simp] theorem State.modStream_clock (i : Fin 64) (f : SiteStream → SiteStream) : (s.modStream i f).clock = s.clock := rfl
@[simp] theorem State.modStream_dict (i : Fin 64) (f : SiteStream → SiteStream) : (s.modStream i f).dict = s.dict := rfl
@[simp] theorem State.modStream_access (i : Fin 64) (f : SiteStream → SiteStream) : (s.modStream i f).access = s.access := rfl
@[simp] theorem State.modStream_regions (i : Fin 64) (f : SiteStream → SiteStream) : (s.modStream i f).regions = s.regions := rfl
@[simp] theorem State.modStream_pll (i : Fin 64) (f : SiteStream → SiteStream) : (s.modStream i f).pll = s.pll := rfl
@[simp] theorem State.modStream_ckos (i : Fin 64) (f : SiteStream → SiteStream) : (s.modStream i f).ckos = s.ckos := rfl
@[simp] theorem State.modStream_sync (i : Fin 64) (f : SiteStream → SiteStream) : (s.modStream i f).sync = s.sync := rfl
@[simp] theorem State.modStream_special (i : Fin 64) (f : SiteStream → SiteStream) : (s.modStream i f).special = s.special := rfl
@[simp] theorem State.modStream_balls (i : Fin 64) (f : SiteStream → SiteStream) : (s.modStream i f).balls = s.balls := rfl
@[simp] theorem State.modStream_chipTrig (i : Fin 64) (f : SiteStream → SiteStream) : (s.modStream i f).chipTrig = s.chipTrig := rfl
@[simp] theorem State.modStream_commit (i : Fin 64) (f : SiteStream → SiteStream) : (s.modStream i f).commit = s.commit := rfl
@[simp] theorem State.modStream_gauntlet (i : Fin 64) (f : SiteStream → SiteStream) : (s.modStream i f).gauntlet = s.gauntlet := rfl
@[simp] theorem State.modStream_assize (i : Fin 64) (f : SiteStream → SiteStream) : (s.modStream i f).assize = s.assize := rfl
@[simp] theorem State.modStream_nvm (i : Fin 64) (f : SiteStream → SiteStream) : (s.modStream i f).nvm = s.nvm := rfl
@[simp] theorem State.modStream_thermal (i : Fin 64) (f : SiteStream → SiteStream) : (s.modStream i f).thermal = s.thermal := rfl
@[simp] theorem State.modStream_cal (i : Fin 64) (f : SiteStream → SiteStream) : (s.modStream i f).cal = s.cal := rfl
@[simp] theorem State.modStream_mitten (i : Fin 64) (f : SiteStream → SiteStream) : (s.modStream i f).mitten = s.mitten := rfl
@[simp] theorem State.modStream_can (i : Fin 64) (f : SiteStream → SiteStream) : (s.modStream i f).can = s.can := rfl
@[simp] theorem State.modStream_sps (i : Fin 64) (f : SiteStream → SiteStream) : (s.modStream i f).sps = s.sps := rfl
@[simp] theorem State.modStream_spm (i : Fin 64) (f : SiteStream → SiteStream) : (s.modStream i f).spm = s.spm := rfl
@[simp] theorem State.modStream_furlong (i : Fin 64) (f : SiteStream → SiteStream) : (s.modStream i f).furlong = s.furlong := rfl
@[simp] theorem State.modStream_csv (i : Fin 64) (f : SiteStream → SiteStream) : (s.modStream i f).csv = s.csv := rfl
@[simp] theorem State.modStream_rst (i : Fin 64) (f : SiteStream → SiteStream) : (s.modStream i f).rst = s.rst := rfl
@[simp] theorem State.modStream_tap (i : Fin 64) (f : SiteStream → SiteStream) : (s.modStream i f).tap = s.tap := rfl
@[simp] theorem State.modStream_answer (i : Fin 64) (f : SiteStream → SiteStream) : (s.modStream i f).answer = s.answer := rfl
@[simp] theorem State.modStream_freeCount (i : Fin 64) (f : SiteStream → SiteStream) : (s.modStream i f).freeCount = s.freeCount := rfl
@[simp] theorem State.modStream_pending (i : Fin 64) (f : SiteStream → SiteStream) : (s.modStream i f).pending = s.pending := rfl

@[simp] theorem State.modBushel_clock (i : Fin 64) (f : Bushel → Bushel) : (s.modBushel i f).clock = s.clock := rfl
@[simp] theorem State.modBushel_dict (i : Fin 64) (f : Bushel → Bushel) : (s.modBushel i f).dict = s.dict := rfl
@[simp] theorem State.modBushel_access (i : Fin 64) (f : Bushel → Bushel) : (s.modBushel i f).access = s.access := rfl
@[simp] theorem State.modBushel_regions (i : Fin 64) (f : Bushel → Bushel) : (s.modBushel i f).regions = s.regions := rfl
@[simp] theorem State.modBushel_pll (i : Fin 64) (f : Bushel → Bushel) : (s.modBushel i f).pll = s.pll := rfl
@[simp] theorem State.modBushel_ckos (i : Fin 64) (f : Bushel → Bushel) : (s.modBushel i f).ckos = s.ckos := rfl
@[simp] theorem State.modBushel_sync (i : Fin 64) (f : Bushel → Bushel) : (s.modBushel i f).sync = s.sync := rfl
@[simp] theorem State.modBushel_special (i : Fin 64) (f : Bushel → Bushel) : (s.modBushel i f).special = s.special := rfl
@[simp] theorem State.modBushel_balls (i : Fin 64) (f : Bushel → Bushel) : (s.modBushel i f).balls = s.balls := rfl
@[simp] theorem State.modBushel_chipTrig (i : Fin 64) (f : Bushel → Bushel) : (s.modBushel i f).chipTrig = s.chipTrig := rfl
@[simp] theorem State.modBushel_commit (i : Fin 64) (f : Bushel → Bushel) : (s.modBushel i f).commit = s.commit := rfl
@[simp] theorem State.modBushel_gauntlet (i : Fin 64) (f : Bushel → Bushel) : (s.modBushel i f).gauntlet = s.gauntlet := rfl
@[simp] theorem State.modBushel_assize (i : Fin 64) (f : Bushel → Bushel) : (s.modBushel i f).assize = s.assize := rfl
@[simp] theorem State.modBushel_nvm (i : Fin 64) (f : Bushel → Bushel) : (s.modBushel i f).nvm = s.nvm := rfl
@[simp] theorem State.modBushel_thermal (i : Fin 64) (f : Bushel → Bushel) : (s.modBushel i f).thermal = s.thermal := rfl
@[simp] theorem State.modBushel_cal (i : Fin 64) (f : Bushel → Bushel) : (s.modBushel i f).cal = s.cal := rfl
@[simp] theorem State.modBushel_mitten (i : Fin 64) (f : Bushel → Bushel) : (s.modBushel i f).mitten = s.mitten := rfl
@[simp] theorem State.modBushel_can (i : Fin 64) (f : Bushel → Bushel) : (s.modBushel i f).can = s.can := rfl
@[simp] theorem State.modBushel_sps (i : Fin 64) (f : Bushel → Bushel) : (s.modBushel i f).sps = s.sps := rfl
@[simp] theorem State.modBushel_spm (i : Fin 64) (f : Bushel → Bushel) : (s.modBushel i f).spm = s.spm := rfl
@[simp] theorem State.modBushel_furlong (i : Fin 64) (f : Bushel → Bushel) : (s.modBushel i f).furlong = s.furlong := rfl
@[simp] theorem State.modBushel_csv (i : Fin 64) (f : Bushel → Bushel) : (s.modBushel i f).csv = s.csv := rfl
@[simp] theorem State.modBushel_rst (i : Fin 64) (f : Bushel → Bushel) : (s.modBushel i f).rst = s.rst := rfl
@[simp] theorem State.modBushel_tap (i : Fin 64) (f : Bushel → Bushel) : (s.modBushel i f).tap = s.tap := rfl
@[simp] theorem State.modBushel_answer (i : Fin 64) (f : Bushel → Bushel) : (s.modBushel i f).answer = s.answer := rfl
@[simp] theorem State.modBushel_freeCount (i : Fin 64) (f : Bushel → Bushel) : (s.modBushel i f).freeCount = s.freeCount := rfl
@[simp] theorem State.modBushel_pending (i : Fin 64) (f : Bushel → Bushel) : (s.modBushel i f).pending = s.pending := rfl

@[simp] theorem State.modTdc_clock (i : Fin 64) (f : Tdc → Tdc) : (s.modTdc i f).clock = s.clock := rfl
@[simp] theorem State.modTdc_dict (i : Fin 64) (f : Tdc → Tdc) : (s.modTdc i f).dict = s.dict := rfl
@[simp] theorem State.modTdc_access (i : Fin 64) (f : Tdc → Tdc) : (s.modTdc i f).access = s.access := rfl
@[simp] theorem State.modTdc_regions (i : Fin 64) (f : Tdc → Tdc) : (s.modTdc i f).regions = s.regions := rfl
@[simp] theorem State.modTdc_pll (i : Fin 64) (f : Tdc → Tdc) : (s.modTdc i f).pll = s.pll := rfl
@[simp] theorem State.modTdc_ckos (i : Fin 64) (f : Tdc → Tdc) : (s.modTdc i f).ckos = s.ckos := rfl
@[simp] theorem State.modTdc_sync (i : Fin 64) (f : Tdc → Tdc) : (s.modTdc i f).sync = s.sync := rfl
@[simp] theorem State.modTdc_special (i : Fin 64) (f : Tdc → Tdc) : (s.modTdc i f).special = s.special := rfl
@[simp] theorem State.modTdc_balls (i : Fin 64) (f : Tdc → Tdc) : (s.modTdc i f).balls = s.balls := rfl
@[simp] theorem State.modTdc_chipTrig (i : Fin 64) (f : Tdc → Tdc) : (s.modTdc i f).chipTrig = s.chipTrig := rfl
@[simp] theorem State.modTdc_commit (i : Fin 64) (f : Tdc → Tdc) : (s.modTdc i f).commit = s.commit := rfl
@[simp] theorem State.modTdc_gauntlet (i : Fin 64) (f : Tdc → Tdc) : (s.modTdc i f).gauntlet = s.gauntlet := rfl
@[simp] theorem State.modTdc_assize (i : Fin 64) (f : Tdc → Tdc) : (s.modTdc i f).assize = s.assize := rfl
@[simp] theorem State.modTdc_nvm (i : Fin 64) (f : Tdc → Tdc) : (s.modTdc i f).nvm = s.nvm := rfl
@[simp] theorem State.modTdc_thermal (i : Fin 64) (f : Tdc → Tdc) : (s.modTdc i f).thermal = s.thermal := rfl
@[simp] theorem State.modTdc_cal (i : Fin 64) (f : Tdc → Tdc) : (s.modTdc i f).cal = s.cal := rfl
@[simp] theorem State.modTdc_mitten (i : Fin 64) (f : Tdc → Tdc) : (s.modTdc i f).mitten = s.mitten := rfl
@[simp] theorem State.modTdc_can (i : Fin 64) (f : Tdc → Tdc) : (s.modTdc i f).can = s.can := rfl
@[simp] theorem State.modTdc_sps (i : Fin 64) (f : Tdc → Tdc) : (s.modTdc i f).sps = s.sps := rfl
@[simp] theorem State.modTdc_spm (i : Fin 64) (f : Tdc → Tdc) : (s.modTdc i f).spm = s.spm := rfl
@[simp] theorem State.modTdc_furlong (i : Fin 64) (f : Tdc → Tdc) : (s.modTdc i f).furlong = s.furlong := rfl
@[simp] theorem State.modTdc_csv (i : Fin 64) (f : Tdc → Tdc) : (s.modTdc i f).csv = s.csv := rfl
@[simp] theorem State.modTdc_rst (i : Fin 64) (f : Tdc → Tdc) : (s.modTdc i f).rst = s.rst := rfl
@[simp] theorem State.modTdc_tap (i : Fin 64) (f : Tdc → Tdc) : (s.modTdc i f).tap = s.tap := rfl
@[simp] theorem State.modTdc_answer (i : Fin 64) (f : Tdc → Tdc) : (s.modTdc i f).answer = s.answer := rfl
@[simp] theorem State.modTdc_freeCount (i : Fin 64) (f : Tdc → Tdc) : (s.modTdc i f).freeCount = s.freeCount := rfl
@[simp] theorem State.modTdc_pending (i : Fin 64) (f : Tdc → Tdc) : (s.modTdc i f).pending = s.pending := rfl

@[simp] theorem State.modRegion_clock (q : Fin 4) (f : Region → Region) : (s.modRegion q f).clock = s.clock := rfl
@[simp] theorem State.modRegion_dict (q : Fin 4) (f : Region → Region) : (s.modRegion q f).dict = s.dict := rfl
@[simp] theorem State.modRegion_access (q : Fin 4) (f : Region → Region) : (s.modRegion q f).access = s.access := rfl
@[simp] theorem State.modRegion_sites (q : Fin 4) (f : Region → Region) : (s.modRegion q f).sites = s.sites := rfl
@[simp] theorem State.modRegion_pll (q : Fin 4) (f : Region → Region) : (s.modRegion q f).pll = s.pll := rfl
@[simp] theorem State.modRegion_ckos (q : Fin 4) (f : Region → Region) : (s.modRegion q f).ckos = s.ckos := rfl
@[simp] theorem State.modRegion_sync (q : Fin 4) (f : Region → Region) : (s.modRegion q f).sync = s.sync := rfl
@[simp] theorem State.modRegion_special (q : Fin 4) (f : Region → Region) : (s.modRegion q f).special = s.special := rfl
@[simp] theorem State.modRegion_balls (q : Fin 4) (f : Region → Region) : (s.modRegion q f).balls = s.balls := rfl
@[simp] theorem State.modRegion_chipTrig (q : Fin 4) (f : Region → Region) : (s.modRegion q f).chipTrig = s.chipTrig := rfl
@[simp] theorem State.modRegion_commit (q : Fin 4) (f : Region → Region) : (s.modRegion q f).commit = s.commit := rfl
@[simp] theorem State.modRegion_gauntlet (q : Fin 4) (f : Region → Region) : (s.modRegion q f).gauntlet = s.gauntlet := rfl
@[simp] theorem State.modRegion_assize (q : Fin 4) (f : Region → Region) : (s.modRegion q f).assize = s.assize := rfl
@[simp] theorem State.modRegion_nvm (q : Fin 4) (f : Region → Region) : (s.modRegion q f).nvm = s.nvm := rfl
@[simp] theorem State.modRegion_thermal (q : Fin 4) (f : Region → Region) : (s.modRegion q f).thermal = s.thermal := rfl
@[simp] theorem State.modRegion_cal (q : Fin 4) (f : Region → Region) : (s.modRegion q f).cal = s.cal := rfl
@[simp] theorem State.modRegion_mitten (q : Fin 4) (f : Region → Region) : (s.modRegion q f).mitten = s.mitten := rfl
@[simp] theorem State.modRegion_can (q : Fin 4) (f : Region → Region) : (s.modRegion q f).can = s.can := rfl
@[simp] theorem State.modRegion_sps (q : Fin 4) (f : Region → Region) : (s.modRegion q f).sps = s.sps := rfl
@[simp] theorem State.modRegion_spm (q : Fin 4) (f : Region → Region) : (s.modRegion q f).spm = s.spm := rfl
@[simp] theorem State.modRegion_furlong (q : Fin 4) (f : Region → Region) : (s.modRegion q f).furlong = s.furlong := rfl
@[simp] theorem State.modRegion_csv (q : Fin 4) (f : Region → Region) : (s.modRegion q f).csv = s.csv := rfl
@[simp] theorem State.modRegion_rst (q : Fin 4) (f : Region → Region) : (s.modRegion q f).rst = s.rst := rfl
@[simp] theorem State.modRegion_tap (q : Fin 4) (f : Region → Region) : (s.modRegion q f).tap = s.tap := rfl
@[simp] theorem State.modRegion_answer (q : Fin 4) (f : Region → Region) : (s.modRegion q f).answer = s.answer := rfl
@[simp] theorem State.modRegion_freeCount (q : Fin 4) (f : Region → Region) : (s.modRegion q f).freeCount = s.freeCount := rfl
@[simp] theorem State.modRegion_pending (q : Fin 4) (f : Region → Region) : (s.modRegion q f).pending = s.pending := rfl

@[simp] theorem State.modCal_clock (i : Fin 64) (f : SiteCal → SiteCal) : (s.modCal i f).clock = s.clock := rfl
@[simp] theorem State.modCal_dict (i : Fin 64) (f : SiteCal → SiteCal) : (s.modCal i f).dict = s.dict := rfl
@[simp] theorem State.modCal_access (i : Fin 64) (f : SiteCal → SiteCal) : (s.modCal i f).access = s.access := rfl
@[simp] theorem State.modCal_sites (i : Fin 64) (f : SiteCal → SiteCal) : (s.modCal i f).sites = s.sites := rfl
@[simp] theorem State.modCal_regions (i : Fin 64) (f : SiteCal → SiteCal) : (s.modCal i f).regions = s.regions := rfl
@[simp] theorem State.modCal_pll (i : Fin 64) (f : SiteCal → SiteCal) : (s.modCal i f).pll = s.pll := rfl
@[simp] theorem State.modCal_ckos (i : Fin 64) (f : SiteCal → SiteCal) : (s.modCal i f).ckos = s.ckos := rfl
@[simp] theorem State.modCal_sync (i : Fin 64) (f : SiteCal → SiteCal) : (s.modCal i f).sync = s.sync := rfl
@[simp] theorem State.modCal_special (i : Fin 64) (f : SiteCal → SiteCal) : (s.modCal i f).special = s.special := rfl
@[simp] theorem State.modCal_balls (i : Fin 64) (f : SiteCal → SiteCal) : (s.modCal i f).balls = s.balls := rfl
@[simp] theorem State.modCal_chipTrig (i : Fin 64) (f : SiteCal → SiteCal) : (s.modCal i f).chipTrig = s.chipTrig := rfl
@[simp] theorem State.modCal_commit (i : Fin 64) (f : SiteCal → SiteCal) : (s.modCal i f).commit = s.commit := rfl
@[simp] theorem State.modCal_gauntlet (i : Fin 64) (f : SiteCal → SiteCal) : (s.modCal i f).gauntlet = s.gauntlet := rfl
@[simp] theorem State.modCal_assize (i : Fin 64) (f : SiteCal → SiteCal) : (s.modCal i f).assize = s.assize := rfl
@[simp] theorem State.modCal_nvm (i : Fin 64) (f : SiteCal → SiteCal) : (s.modCal i f).nvm = s.nvm := rfl
@[simp] theorem State.modCal_thermal (i : Fin 64) (f : SiteCal → SiteCal) : (s.modCal i f).thermal = s.thermal := rfl
@[simp] theorem State.modCal_mitten (i : Fin 64) (f : SiteCal → SiteCal) : (s.modCal i f).mitten = s.mitten := rfl
@[simp] theorem State.modCal_can (i : Fin 64) (f : SiteCal → SiteCal) : (s.modCal i f).can = s.can := rfl
@[simp] theorem State.modCal_sps (i : Fin 64) (f : SiteCal → SiteCal) : (s.modCal i f).sps = s.sps := rfl
@[simp] theorem State.modCal_spm (i : Fin 64) (f : SiteCal → SiteCal) : (s.modCal i f).spm = s.spm := rfl
@[simp] theorem State.modCal_furlong (i : Fin 64) (f : SiteCal → SiteCal) : (s.modCal i f).furlong = s.furlong := rfl
@[simp] theorem State.modCal_csv (i : Fin 64) (f : SiteCal → SiteCal) : (s.modCal i f).csv = s.csv := rfl
@[simp] theorem State.modCal_rst (i : Fin 64) (f : SiteCal → SiteCal) : (s.modCal i f).rst = s.rst := rfl
@[simp] theorem State.modCal_tap (i : Fin 64) (f : SiteCal → SiteCal) : (s.modCal i f).tap = s.tap := rfl
@[simp] theorem State.modCal_answer (i : Fin 64) (f : SiteCal → SiteCal) : (s.modCal i f).answer = s.answer := rfl
@[simp] theorem State.modCal_freeCount (i : Fin 64) (f : SiteCal → SiteCal) : (s.modCal i f).freeCount = s.freeCount := rfl
@[simp] theorem State.modCal_pending (i : Fin 64) (f : SiteCal → SiteCal) : (s.modCal i f).pending = s.pending := rfl

@[simp] theorem State.modThermal_clock (i : Fin 64) (f : SiteThermal → SiteThermal) : (s.modThermal i f).clock = s.clock := rfl
@[simp] theorem State.modThermal_dict (i : Fin 64) (f : SiteThermal → SiteThermal) : (s.modThermal i f).dict = s.dict := rfl
@[simp] theorem State.modThermal_access (i : Fin 64) (f : SiteThermal → SiteThermal) : (s.modThermal i f).access = s.access := rfl
@[simp] theorem State.modThermal_sites (i : Fin 64) (f : SiteThermal → SiteThermal) : (s.modThermal i f).sites = s.sites := rfl
@[simp] theorem State.modThermal_regions (i : Fin 64) (f : SiteThermal → SiteThermal) : (s.modThermal i f).regions = s.regions := rfl
@[simp] theorem State.modThermal_pll (i : Fin 64) (f : SiteThermal → SiteThermal) : (s.modThermal i f).pll = s.pll := rfl
@[simp] theorem State.modThermal_ckos (i : Fin 64) (f : SiteThermal → SiteThermal) : (s.modThermal i f).ckos = s.ckos := rfl
@[simp] theorem State.modThermal_sync (i : Fin 64) (f : SiteThermal → SiteThermal) : (s.modThermal i f).sync = s.sync := rfl
@[simp] theorem State.modThermal_special (i : Fin 64) (f : SiteThermal → SiteThermal) : (s.modThermal i f).special = s.special := rfl
@[simp] theorem State.modThermal_balls (i : Fin 64) (f : SiteThermal → SiteThermal) : (s.modThermal i f).balls = s.balls := rfl
@[simp] theorem State.modThermal_chipTrig (i : Fin 64) (f : SiteThermal → SiteThermal) : (s.modThermal i f).chipTrig = s.chipTrig := rfl
@[simp] theorem State.modThermal_commit (i : Fin 64) (f : SiteThermal → SiteThermal) : (s.modThermal i f).commit = s.commit := rfl
@[simp] theorem State.modThermal_gauntlet (i : Fin 64) (f : SiteThermal → SiteThermal) : (s.modThermal i f).gauntlet = s.gauntlet := rfl
@[simp] theorem State.modThermal_assize (i : Fin 64) (f : SiteThermal → SiteThermal) : (s.modThermal i f).assize = s.assize := rfl
@[simp] theorem State.modThermal_nvm (i : Fin 64) (f : SiteThermal → SiteThermal) : (s.modThermal i f).nvm = s.nvm := rfl
@[simp] theorem State.modThermal_cal (i : Fin 64) (f : SiteThermal → SiteThermal) : (s.modThermal i f).cal = s.cal := rfl
@[simp] theorem State.modThermal_mitten (i : Fin 64) (f : SiteThermal → SiteThermal) : (s.modThermal i f).mitten = s.mitten := rfl
@[simp] theorem State.modThermal_can (i : Fin 64) (f : SiteThermal → SiteThermal) : (s.modThermal i f).can = s.can := rfl
@[simp] theorem State.modThermal_sps (i : Fin 64) (f : SiteThermal → SiteThermal) : (s.modThermal i f).sps = s.sps := rfl
@[simp] theorem State.modThermal_spm (i : Fin 64) (f : SiteThermal → SiteThermal) : (s.modThermal i f).spm = s.spm := rfl
@[simp] theorem State.modThermal_furlong (i : Fin 64) (f : SiteThermal → SiteThermal) : (s.modThermal i f).furlong = s.furlong := rfl
@[simp] theorem State.modThermal_csv (i : Fin 64) (f : SiteThermal → SiteThermal) : (s.modThermal i f).csv = s.csv := rfl
@[simp] theorem State.modThermal_rst (i : Fin 64) (f : SiteThermal → SiteThermal) : (s.modThermal i f).rst = s.rst := rfl
@[simp] theorem State.modThermal_tap (i : Fin 64) (f : SiteThermal → SiteThermal) : (s.modThermal i f).tap = s.tap := rfl
@[simp] theorem State.modThermal_answer (i : Fin 64) (f : SiteThermal → SiteThermal) : (s.modThermal i f).answer = s.answer := rfl
@[simp] theorem State.modThermal_freeCount (i : Fin 64) (f : SiteThermal → SiteThermal) : (s.modThermal i f).freeCount = s.freeCount := rfl
@[simp] theorem State.modThermal_pending (i : Fin 64) (f : SiteThermal → SiteThermal) : (s.modThermal i f).pending = s.pending := rfl

@[simp] theorem State.modGroup_clock (g : Nat) (f : Group → Group) : (s.modGroup g f).clock = s.clock := rfl
@[simp] theorem State.modGroup_dict (g : Nat) (f : Group → Group) : (s.modGroup g f).dict = s.dict := rfl
@[simp] theorem State.modGroup_access (g : Nat) (f : Group → Group) : (s.modGroup g f).access = s.access := rfl
@[simp] theorem State.modGroup_sites (g : Nat) (f : Group → Group) : (s.modGroup g f).sites = s.sites := rfl
@[simp] theorem State.modGroup_regions (g : Nat) (f : Group → Group) : (s.modGroup g f).regions = s.regions := rfl
@[simp] theorem State.modGroup_pll (g : Nat) (f : Group → Group) : (s.modGroup g f).pll = s.pll := rfl
@[simp] theorem State.modGroup_ckos (g : Nat) (f : Group → Group) : (s.modGroup g f).ckos = s.ckos := rfl
@[simp] theorem State.modGroup_sync (g : Nat) (f : Group → Group) : (s.modGroup g f).sync = s.sync := rfl
@[simp] theorem State.modGroup_special (g : Nat) (f : Group → Group) : (s.modGroup g f).special = s.special := rfl
@[simp] theorem State.modGroup_balls (g : Nat) (f : Group → Group) : (s.modGroup g f).balls = s.balls := rfl
@[simp] theorem State.modGroup_chipTrig (g : Nat) (f : Group → Group) : (s.modGroup g f).chipTrig = s.chipTrig := rfl
@[simp] theorem State.modGroup_gauntlet (g : Nat) (f : Group → Group) : (s.modGroup g f).gauntlet = s.gauntlet := rfl
@[simp] theorem State.modGroup_assize (g : Nat) (f : Group → Group) : (s.modGroup g f).assize = s.assize := rfl
@[simp] theorem State.modGroup_nvm (g : Nat) (f : Group → Group) : (s.modGroup g f).nvm = s.nvm := rfl
@[simp] theorem State.modGroup_thermal (g : Nat) (f : Group → Group) : (s.modGroup g f).thermal = s.thermal := rfl
@[simp] theorem State.modGroup_cal (g : Nat) (f : Group → Group) : (s.modGroup g f).cal = s.cal := rfl
@[simp] theorem State.modGroup_mitten (g : Nat) (f : Group → Group) : (s.modGroup g f).mitten = s.mitten := rfl
@[simp] theorem State.modGroup_can (g : Nat) (f : Group → Group) : (s.modGroup g f).can = s.can := rfl
@[simp] theorem State.modGroup_sps (g : Nat) (f : Group → Group) : (s.modGroup g f).sps = s.sps := rfl
@[simp] theorem State.modGroup_spm (g : Nat) (f : Group → Group) : (s.modGroup g f).spm = s.spm := rfl
@[simp] theorem State.modGroup_furlong (g : Nat) (f : Group → Group) : (s.modGroup g f).furlong = s.furlong := rfl
@[simp] theorem State.modGroup_csv (g : Nat) (f : Group → Group) : (s.modGroup g f).csv = s.csv := rfl
@[simp] theorem State.modGroup_rst (g : Nat) (f : Group → Group) : (s.modGroup g f).rst = s.rst := rfl
@[simp] theorem State.modGroup_tap (g : Nat) (f : Group → Group) : (s.modGroup g f).tap = s.tap := rfl
@[simp] theorem State.modGroup_answer (g : Nat) (f : Group → Group) : (s.modGroup g f).answer = s.answer := rfl
@[simp] theorem State.modGroup_freeCount (g : Nat) (f : Group → Group) : (s.modGroup g f).freeCount = s.freeCount := rfl
@[simp] theorem State.modGroup_pending (g : Nat) (f : Group → Group) : (s.modGroup g f).pending = s.pending := rfl

@[simp] theorem State.modPort_clock (p : Fin 2) (f : Port → Port) : (s.modPort p f).clock = s.clock := rfl
@[simp] theorem State.modPort_dict (p : Fin 2) (f : Port → Port) : (s.modPort p f).dict = s.dict := rfl
@[simp] theorem State.modPort_access (p : Fin 2) (f : Port → Port) : (s.modPort p f).access = s.access := rfl
@[simp] theorem State.modPort_sites (p : Fin 2) (f : Port → Port) : (s.modPort p f).sites = s.sites := rfl
@[simp] theorem State.modPort_regions (p : Fin 2) (f : Port → Port) : (s.modPort p f).regions = s.regions := rfl
@[simp] theorem State.modPort_pll (p : Fin 2) (f : Port → Port) : (s.modPort p f).pll = s.pll := rfl
@[simp] theorem State.modPort_ckos (p : Fin 2) (f : Port → Port) : (s.modPort p f).ckos = s.ckos := rfl
@[simp] theorem State.modPort_sync (p : Fin 2) (f : Port → Port) : (s.modPort p f).sync = s.sync := rfl
@[simp] theorem State.modPort_special (p : Fin 2) (f : Port → Port) : (s.modPort p f).special = s.special := rfl
@[simp] theorem State.modPort_balls (p : Fin 2) (f : Port → Port) : (s.modPort p f).balls = s.balls := rfl
@[simp] theorem State.modPort_chipTrig (p : Fin 2) (f : Port → Port) : (s.modPort p f).chipTrig = s.chipTrig := rfl
@[simp] theorem State.modPort_commit (p : Fin 2) (f : Port → Port) : (s.modPort p f).commit = s.commit := rfl
@[simp] theorem State.modPort_gauntlet (p : Fin 2) (f : Port → Port) : (s.modPort p f).gauntlet = s.gauntlet := rfl
@[simp] theorem State.modPort_assize (p : Fin 2) (f : Port → Port) : (s.modPort p f).assize = s.assize := rfl
@[simp] theorem State.modPort_nvm (p : Fin 2) (f : Port → Port) : (s.modPort p f).nvm = s.nvm := rfl
@[simp] theorem State.modPort_thermal (p : Fin 2) (f : Port → Port) : (s.modPort p f).thermal = s.thermal := rfl
@[simp] theorem State.modPort_cal (p : Fin 2) (f : Port → Port) : (s.modPort p f).cal = s.cal := rfl
@[simp] theorem State.modPort_mitten (p : Fin 2) (f : Port → Port) : (s.modPort p f).mitten = s.mitten := rfl
@[simp] theorem State.modPort_can (p : Fin 2) (f : Port → Port) : (s.modPort p f).can = s.can := rfl
@[simp] theorem State.modPort_sps (p : Fin 2) (f : Port → Port) : (s.modPort p f).sps = s.sps := rfl
@[simp] theorem State.modPort_spm (p : Fin 2) (f : Port → Port) : (s.modPort p f).spm = s.spm := rfl
@[simp] theorem State.modPort_csv (p : Fin 2) (f : Port → Port) : (s.modPort p f).csv = s.csv := rfl
@[simp] theorem State.modPort_rst (p : Fin 2) (f : Port → Port) : (s.modPort p f).rst = s.rst := rfl
@[simp] theorem State.modPort_tap (p : Fin 2) (f : Port → Port) : (s.modPort p f).tap = s.tap := rfl
@[simp] theorem State.modPort_answer (p : Fin 2) (f : Port → Port) : (s.modPort p f).answer = s.answer := rfl
@[simp] theorem State.modPort_freeCount (p : Fin 2) (f : Port → Port) : (s.modPort p f).freeCount = s.freeCount := rfl
@[simp] theorem State.modPort_pending (p : Fin 2) (f : Port → Port) : (s.modPort p f).pending = s.pending := rfl

@[simp] theorem State.modSps_clock (f : Sps → Sps) : (s.modSps f).clock = s.clock := rfl
@[simp] theorem State.modSps_dict (f : Sps → Sps) : (s.modSps f).dict = s.dict := rfl
@[simp] theorem State.modSps_access (f : Sps → Sps) : (s.modSps f).access = s.access := rfl
@[simp] theorem State.modSps_sites (f : Sps → Sps) : (s.modSps f).sites = s.sites := rfl
@[simp] theorem State.modSps_regions (f : Sps → Sps) : (s.modSps f).regions = s.regions := rfl
@[simp] theorem State.modSps_pll (f : Sps → Sps) : (s.modSps f).pll = s.pll := rfl
@[simp] theorem State.modSps_ckos (f : Sps → Sps) : (s.modSps f).ckos = s.ckos := rfl
@[simp] theorem State.modSps_sync (f : Sps → Sps) : (s.modSps f).sync = s.sync := rfl
@[simp] theorem State.modSps_special (f : Sps → Sps) : (s.modSps f).special = s.special := rfl
@[simp] theorem State.modSps_balls (f : Sps → Sps) : (s.modSps f).balls = s.balls := rfl
@[simp] theorem State.modSps_chipTrig (f : Sps → Sps) : (s.modSps f).chipTrig = s.chipTrig := rfl
@[simp] theorem State.modSps_commit (f : Sps → Sps) : (s.modSps f).commit = s.commit := rfl
@[simp] theorem State.modSps_gauntlet (f : Sps → Sps) : (s.modSps f).gauntlet = s.gauntlet := rfl
@[simp] theorem State.modSps_assize (f : Sps → Sps) : (s.modSps f).assize = s.assize := rfl
@[simp] theorem State.modSps_nvm (f : Sps → Sps) : (s.modSps f).nvm = s.nvm := rfl
@[simp] theorem State.modSps_thermal (f : Sps → Sps) : (s.modSps f).thermal = s.thermal := rfl
@[simp] theorem State.modSps_cal (f : Sps → Sps) : (s.modSps f).cal = s.cal := rfl
@[simp] theorem State.modSps_mitten (f : Sps → Sps) : (s.modSps f).mitten = s.mitten := rfl
@[simp] theorem State.modSps_can (f : Sps → Sps) : (s.modSps f).can = s.can := rfl
@[simp] theorem State.modSps_spm (f : Sps → Sps) : (s.modSps f).spm = s.spm := rfl
@[simp] theorem State.modSps_furlong (f : Sps → Sps) : (s.modSps f).furlong = s.furlong := rfl
@[simp] theorem State.modSps_csv (f : Sps → Sps) : (s.modSps f).csv = s.csv := rfl
@[simp] theorem State.modSps_rst (f : Sps → Sps) : (s.modSps f).rst = s.rst := rfl
@[simp] theorem State.modSps_tap (f : Sps → Sps) : (s.modSps f).tap = s.tap := rfl
@[simp] theorem State.modSps_answer (f : Sps → Sps) : (s.modSps f).answer = s.answer := rfl
@[simp] theorem State.modSps_freeCount (f : Sps → Sps) : (s.modSps f).freeCount = s.freeCount := rfl
@[simp] theorem State.modSps_pending (f : Sps → Sps) : (s.modSps f).pending = s.pending := rfl

@[simp] theorem State.setVal_clock (a v : Nat) : (s.setVal a v).clock = s.clock := rfl
@[simp] theorem State.setVal_access (a v : Nat) : (s.setVal a v).access = s.access := rfl
@[simp] theorem State.setVal_sites (a v : Nat) : (s.setVal a v).sites = s.sites := rfl
@[simp] theorem State.setVal_regions (a v : Nat) : (s.setVal a v).regions = s.regions := rfl
@[simp] theorem State.setVal_pll (a v : Nat) : (s.setVal a v).pll = s.pll := rfl
@[simp] theorem State.setVal_ckos (a v : Nat) : (s.setVal a v).ckos = s.ckos := rfl
@[simp] theorem State.setVal_sync (a v : Nat) : (s.setVal a v).sync = s.sync := rfl
@[simp] theorem State.setVal_special (a v : Nat) : (s.setVal a v).special = s.special := rfl
@[simp] theorem State.setVal_balls (a v : Nat) : (s.setVal a v).balls = s.balls := rfl
@[simp] theorem State.setVal_chipTrig (a v : Nat) : (s.setVal a v).chipTrig = s.chipTrig := rfl
@[simp] theorem State.setVal_commit (a v : Nat) : (s.setVal a v).commit = s.commit := rfl
@[simp] theorem State.setVal_gauntlet (a v : Nat) : (s.setVal a v).gauntlet = s.gauntlet := rfl
@[simp] theorem State.setVal_assize (a v : Nat) : (s.setVal a v).assize = s.assize := rfl
@[simp] theorem State.setVal_nvm (a v : Nat) : (s.setVal a v).nvm = s.nvm := rfl
@[simp] theorem State.setVal_thermal (a v : Nat) : (s.setVal a v).thermal = s.thermal := rfl
@[simp] theorem State.setVal_cal (a v : Nat) : (s.setVal a v).cal = s.cal := rfl
@[simp] theorem State.setVal_mitten (a v : Nat) : (s.setVal a v).mitten = s.mitten := rfl
@[simp] theorem State.setVal_can (a v : Nat) : (s.setVal a v).can = s.can := rfl
@[simp] theorem State.setVal_sps (a v : Nat) : (s.setVal a v).sps = s.sps := rfl
@[simp] theorem State.setVal_spm (a v : Nat) : (s.setVal a v).spm = s.spm := rfl
@[simp] theorem State.setVal_furlong (a v : Nat) : (s.setVal a v).furlong = s.furlong := rfl
@[simp] theorem State.setVal_csv (a v : Nat) : (s.setVal a v).csv = s.csv := rfl
@[simp] theorem State.setVal_rst (a v : Nat) : (s.setVal a v).rst = s.rst := rfl
@[simp] theorem State.setVal_tap (a v : Nat) : (s.setVal a v).tap = s.tap := rfl
@[simp] theorem State.setVal_answer (a v : Nat) : (s.setVal a v).answer = s.answer := rfl
@[simp] theorem State.setVal_freeCount (a v : Nat) : (s.setVal a v).freeCount = s.freeCount := rfl
@[simp] theorem State.setVal_pending (a v : Nat) : (s.setVal a v).pending = s.pending := rfl

@[simp] theorem State.answered_clock (k : Iface) (d : Nat) (ws : List Word) : (s.answered k d ws).clock = s.clock := rfl
@[simp] theorem State.answered_dict (k : Iface) (d : Nat) (ws : List Word) : (s.answered k d ws).dict = s.dict := rfl
@[simp] theorem State.answered_access (k : Iface) (d : Nat) (ws : List Word) : (s.answered k d ws).access = s.access := rfl
@[simp] theorem State.answered_sites (k : Iface) (d : Nat) (ws : List Word) : (s.answered k d ws).sites = s.sites := rfl
@[simp] theorem State.answered_regions (k : Iface) (d : Nat) (ws : List Word) : (s.answered k d ws).regions = s.regions := rfl
@[simp] theorem State.answered_pll (k : Iface) (d : Nat) (ws : List Word) : (s.answered k d ws).pll = s.pll := rfl
@[simp] theorem State.answered_ckos (k : Iface) (d : Nat) (ws : List Word) : (s.answered k d ws).ckos = s.ckos := rfl
@[simp] theorem State.answered_sync (k : Iface) (d : Nat) (ws : List Word) : (s.answered k d ws).sync = s.sync := rfl
@[simp] theorem State.answered_special (k : Iface) (d : Nat) (ws : List Word) : (s.answered k d ws).special = s.special := rfl
@[simp] theorem State.answered_balls (k : Iface) (d : Nat) (ws : List Word) : (s.answered k d ws).balls = s.balls := rfl
@[simp] theorem State.answered_chipTrig (k : Iface) (d : Nat) (ws : List Word) : (s.answered k d ws).chipTrig = s.chipTrig := rfl
@[simp] theorem State.answered_commit (k : Iface) (d : Nat) (ws : List Word) : (s.answered k d ws).commit = s.commit := rfl
@[simp] theorem State.answered_gauntlet (k : Iface) (d : Nat) (ws : List Word) : (s.answered k d ws).gauntlet = s.gauntlet := rfl
@[simp] theorem State.answered_assize (k : Iface) (d : Nat) (ws : List Word) : (s.answered k d ws).assize = s.assize := rfl
@[simp] theorem State.answered_nvm (k : Iface) (d : Nat) (ws : List Word) : (s.answered k d ws).nvm = s.nvm := rfl
@[simp] theorem State.answered_thermal (k : Iface) (d : Nat) (ws : List Word) : (s.answered k d ws).thermal = s.thermal := rfl
@[simp] theorem State.answered_cal (k : Iface) (d : Nat) (ws : List Word) : (s.answered k d ws).cal = s.cal := rfl
@[simp] theorem State.answered_mitten (k : Iface) (d : Nat) (ws : List Word) : (s.answered k d ws).mitten = s.mitten := rfl
@[simp] theorem State.answered_can (k : Iface) (d : Nat) (ws : List Word) : (s.answered k d ws).can = s.can := rfl
@[simp] theorem State.answered_sps (k : Iface) (d : Nat) (ws : List Word) : (s.answered k d ws).sps = s.sps := rfl
@[simp] theorem State.answered_spm (k : Iface) (d : Nat) (ws : List Word) : (s.answered k d ws).spm = s.spm := rfl
@[simp] theorem State.answered_furlong (k : Iface) (d : Nat) (ws : List Word) : (s.answered k d ws).furlong = s.furlong := rfl
@[simp] theorem State.answered_csv (k : Iface) (d : Nat) (ws : List Word) : (s.answered k d ws).csv = s.csv := rfl
@[simp] theorem State.answered_rst (k : Iface) (d : Nat) (ws : List Word) : (s.answered k d ws).rst = s.rst := rfl
@[simp] theorem State.answered_tap (k : Iface) (d : Nat) (ws : List Word) : (s.answered k d ws).tap = s.tap := rfl
@[simp] theorem State.answered_freeCount (k : Iface) (d : Nat) (ws : List Word) : (s.answered k d ws).freeCount = s.freeCount := rfl
@[simp] theorem State.answered_pending (k : Iface) (d : Nat) (ws : List Word) : (s.answered k d ws).pending = s.pending := rfl

@[simp] theorem State.drawn_clock : s.drawn.clock = s.clock := rfl
@[simp] theorem State.drawn_dict : s.drawn.dict = s.dict := rfl
@[simp] theorem State.drawn_access : s.drawn.access = s.access := rfl
@[simp] theorem State.drawn_sites : s.drawn.sites = s.sites := rfl
@[simp] theorem State.drawn_regions : s.drawn.regions = s.regions := rfl
@[simp] theorem State.drawn_pll : s.drawn.pll = s.pll := rfl
@[simp] theorem State.drawn_ckos : s.drawn.ckos = s.ckos := rfl
@[simp] theorem State.drawn_sync : s.drawn.sync = s.sync := rfl
@[simp] theorem State.drawn_special : s.drawn.special = s.special := rfl
@[simp] theorem State.drawn_balls : s.drawn.balls = s.balls := rfl
@[simp] theorem State.drawn_chipTrig : s.drawn.chipTrig = s.chipTrig := rfl
@[simp] theorem State.drawn_commit : s.drawn.commit = s.commit := rfl
@[simp] theorem State.drawn_gauntlet : s.drawn.gauntlet = s.gauntlet := rfl
@[simp] theorem State.drawn_assize : s.drawn.assize = s.assize := rfl
@[simp] theorem State.drawn_nvm : s.drawn.nvm = s.nvm := rfl
@[simp] theorem State.drawn_thermal : s.drawn.thermal = s.thermal := rfl
@[simp] theorem State.drawn_cal : s.drawn.cal = s.cal := rfl
@[simp] theorem State.drawn_mitten : s.drawn.mitten = s.mitten := rfl
@[simp] theorem State.drawn_can : s.drawn.can = s.can := rfl
@[simp] theorem State.drawn_sps : s.drawn.sps = s.sps := rfl
@[simp] theorem State.drawn_spm : s.drawn.spm = s.spm := rfl
@[simp] theorem State.drawn_furlong : s.drawn.furlong = s.furlong := rfl
@[simp] theorem State.drawn_csv : s.drawn.csv = s.csv := rfl
@[simp] theorem State.drawn_rst : s.drawn.rst = s.rst := rfl
@[simp] theorem State.drawn_tap : s.drawn.tap = s.tap := rfl
@[simp] theorem State.drawn_answer : s.drawn.answer = s.answer := rfl
@[simp] theorem State.drawn_pending : s.drawn.pending = s.pending := rfl

/-! ## Places in vectors -/

@[simp] theorem vmod_same {α : Type} {n : Nat} (v : Vector α n) (i : Fin n) (f : α → α) : (vmod v i f)[i.val] = f v[i.val] := by
  simp [vmod]

theorem vmod_other {α : Type} {n : Nat} (v : Vector α n) (i j : Fin n) (f : α → α) (h : i ≠ j) :
    (vmod v i f)[j.val] = v[j.val] := by
  have : i.val ≠ j.val := fun e => h (Fin.ext e)
  simp [vmod, this]

/-- A projection that `f` keeps reads the same at every place. -/
theorem vmod_proj {α β : Type} {n : Nat} (v : Vector α n) (i j : Fin n) (f : α → α) (p : α → β) (h : ∀ a, p (f a) = p a) :
    p (vmod v i f)[j.val] = p v[j.val] := by
  by_cases e : i = j
  · subst e; simp [h]
  · rw [vmod_other v i j f e]

/-! ## Sites -/

@[simp] theorem State.site_modSite_same (i : Fin 64) (f : Site → Site) : (s.modSite i f).site i = f (s.site i) := by
  simp [State.site, State.modSite]

theorem State.site_modSite_other (i j : Fin 64) (f : Site → Site) (h : i ≠ j) : (s.modSite i f).site j = s.site j := by
  simpa [State.site, State.modSite] using vmod_other s.sites i j f h

theorem State.site_modSite_proj {β : Type} (i j : Fin 64) (f : Site → Site) (p : Site → β) (h : ∀ t, p (f t) = p t) :
    p ((s.modSite i f).site j) = p (s.site j) :=
  vmod_proj s.sites i j f p h

@[simp] theorem State.modCell_site_ctl (i : Fin 64) (c : Fin 8) (f : PinCell → PinCell) (j : Fin 64) : ((s.modCell i c f).site j).ctl = (s.site j).ctl :=
  s.site_modSite_proj i j _ (·.ctl) fun _ => rfl
@[simp] theorem State.modCell_site_psq (i : Fin 64) (c : Fin 8) (f : PinCell → PinCell) (j : Fin 64) : ((s.modCell i c f).site j).psq = (s.site j).psq :=
  s.site_modSite_proj i j _ (·.psq) fun _ => rfl
@[simp] theorem State.modCell_site_bridges (i : Fin 64) (c : Fin 8) (f : PinCell → PinCell) (j : Fin 64) : ((s.modCell i c f).site j).bridges = (s.site j).bridges :=
  s.site_modSite_proj i j _ (·.bridges) fun _ => rfl
@[simp] theorem State.modCell_site_mse (i : Fin 64) (c : Fin 8) (f : PinCell → PinCell) (j : Fin 64) : ((s.modCell i c f).site j).mse = (s.site j).mse :=
  s.site_modSite_proj i j _ (·.mse) fun _ => rfl
@[simp] theorem State.modCell_site_dsp (i : Fin 64) (c : Fin 8) (f : PinCell → PinCell) (j : Fin 64) : ((s.modCell i c f).site j).dsp = (s.site j).dsp :=
  s.site_modSite_proj i j _ (·.dsp) fun _ => rfl
@[simp] theorem State.modCell_site_tdc (i : Fin 64) (c : Fin 8) (f : PinCell → PinCell) (j : Fin 64) : ((s.modCell i c f).site j).tdc = (s.site j).tdc :=
  s.site_modSite_proj i j _ (·.tdc) fun _ => rfl
@[simp] theorem State.modCell_site_stream (i : Fin 64) (c : Fin 8) (f : PinCell → PinCell) (j : Fin 64) : ((s.modCell i c f).site j).stream = (s.site j).stream :=
  s.site_modSite_proj i j _ (·.stream) fun _ => rfl
@[simp] theorem State.modCell_site_test (i : Fin 64) (c : Fin 8) (f : PinCell → PinCell) (j : Fin 64) : ((s.modCell i c f).site j).test = (s.site j).test :=
  s.site_modSite_proj i j _ (·.test) fun _ => rfl

@[simp] theorem State.modBridge_site_ctl (i : Fin 64) (u : Fin 2) (f : Bridge → Bridge) (j : Fin 64) : ((s.modBridge i u f).site j).ctl = (s.site j).ctl :=
  s.site_modSite_proj i j _ (·.ctl) fun _ => rfl
@[simp] theorem State.modBridge_site_cells (i : Fin 64) (u : Fin 2) (f : Bridge → Bridge) (j : Fin 64) : ((s.modBridge i u f).site j).cells = (s.site j).cells :=
  s.site_modSite_proj i j _ (·.cells) fun _ => rfl
@[simp] theorem State.modBridge_site_psq (i : Fin 64) (u : Fin 2) (f : Bridge → Bridge) (j : Fin 64) : ((s.modBridge i u f).site j).psq = (s.site j).psq :=
  s.site_modSite_proj i j _ (·.psq) fun _ => rfl
@[simp] theorem State.modBridge_site_mse (i : Fin 64) (u : Fin 2) (f : Bridge → Bridge) (j : Fin 64) : ((s.modBridge i u f).site j).mse = (s.site j).mse :=
  s.site_modSite_proj i j _ (·.mse) fun _ => rfl
@[simp] theorem State.modBridge_site_dsp (i : Fin 64) (u : Fin 2) (f : Bridge → Bridge) (j : Fin 64) : ((s.modBridge i u f).site j).dsp = (s.site j).dsp :=
  s.site_modSite_proj i j _ (·.dsp) fun _ => rfl
@[simp] theorem State.modBridge_site_tdc (i : Fin 64) (u : Fin 2) (f : Bridge → Bridge) (j : Fin 64) : ((s.modBridge i u f).site j).tdc = (s.site j).tdc :=
  s.site_modSite_proj i j _ (·.tdc) fun _ => rfl
@[simp] theorem State.modBridge_site_stream (i : Fin 64) (u : Fin 2) (f : Bridge → Bridge) (j : Fin 64) : ((s.modBridge i u f).site j).stream = (s.site j).stream :=
  s.site_modSite_proj i j _ (·.stream) fun _ => rfl
@[simp] theorem State.modBridge_site_test (i : Fin 64) (u : Fin 2) (f : Bridge → Bridge) (j : Fin 64) : ((s.modBridge i u f).site j).test = (s.site j).test :=
  s.site_modSite_proj i j _ (·.test) fun _ => rfl

@[simp] theorem State.modCtl_site_cells (i : Fin 64) (f : SiteCtl → SiteCtl) (j : Fin 64) : ((s.modCtl i f).site j).cells = (s.site j).cells :=
  s.site_modSite_proj i j _ (·.cells) fun _ => rfl
@[simp] theorem State.modCtl_site_psq (i : Fin 64) (f : SiteCtl → SiteCtl) (j : Fin 64) : ((s.modCtl i f).site j).psq = (s.site j).psq :=
  s.site_modSite_proj i j _ (·.psq) fun _ => rfl
@[simp] theorem State.modCtl_site_bridges (i : Fin 64) (f : SiteCtl → SiteCtl) (j : Fin 64) : ((s.modCtl i f).site j).bridges = (s.site j).bridges :=
  s.site_modSite_proj i j _ (·.bridges) fun _ => rfl
@[simp] theorem State.modCtl_site_mse (i : Fin 64) (f : SiteCtl → SiteCtl) (j : Fin 64) : ((s.modCtl i f).site j).mse = (s.site j).mse :=
  s.site_modSite_proj i j _ (·.mse) fun _ => rfl
@[simp] theorem State.modCtl_site_dsp (i : Fin 64) (f : SiteCtl → SiteCtl) (j : Fin 64) : ((s.modCtl i f).site j).dsp = (s.site j).dsp :=
  s.site_modSite_proj i j _ (·.dsp) fun _ => rfl
@[simp] theorem State.modCtl_site_tdc (i : Fin 64) (f : SiteCtl → SiteCtl) (j : Fin 64) : ((s.modCtl i f).site j).tdc = (s.site j).tdc :=
  s.site_modSite_proj i j _ (·.tdc) fun _ => rfl
@[simp] theorem State.modCtl_site_stream (i : Fin 64) (f : SiteCtl → SiteCtl) (j : Fin 64) : ((s.modCtl i f).site j).stream = (s.site j).stream :=
  s.site_modSite_proj i j _ (·.stream) fun _ => rfl
@[simp] theorem State.modCtl_site_test (i : Fin 64) (f : SiteCtl → SiteCtl) (j : Fin 64) : ((s.modCtl i f).site j).test = (s.site j).test :=
  s.site_modSite_proj i j _ (·.test) fun _ => rfl

@[simp] theorem State.modPsq_site_ctl (i : Fin 64) (f : Psq → Psq) (j : Fin 64) : ((s.modPsq i f).site j).ctl = (s.site j).ctl :=
  s.site_modSite_proj i j _ (·.ctl) fun _ => rfl
@[simp] theorem State.modPsq_site_cells (i : Fin 64) (f : Psq → Psq) (j : Fin 64) : ((s.modPsq i f).site j).cells = (s.site j).cells :=
  s.site_modSite_proj i j _ (·.cells) fun _ => rfl
@[simp] theorem State.modPsq_site_bridges (i : Fin 64) (f : Psq → Psq) (j : Fin 64) : ((s.modPsq i f).site j).bridges = (s.site j).bridges :=
  s.site_modSite_proj i j _ (·.bridges) fun _ => rfl
@[simp] theorem State.modPsq_site_mse (i : Fin 64) (f : Psq → Psq) (j : Fin 64) : ((s.modPsq i f).site j).mse = (s.site j).mse :=
  s.site_modSite_proj i j _ (·.mse) fun _ => rfl
@[simp] theorem State.modPsq_site_dsp (i : Fin 64) (f : Psq → Psq) (j : Fin 64) : ((s.modPsq i f).site j).dsp = (s.site j).dsp :=
  s.site_modSite_proj i j _ (·.dsp) fun _ => rfl
@[simp] theorem State.modPsq_site_tdc (i : Fin 64) (f : Psq → Psq) (j : Fin 64) : ((s.modPsq i f).site j).tdc = (s.site j).tdc :=
  s.site_modSite_proj i j _ (·.tdc) fun _ => rfl
@[simp] theorem State.modPsq_site_stream (i : Fin 64) (f : Psq → Psq) (j : Fin 64) : ((s.modPsq i f).site j).stream = (s.site j).stream :=
  s.site_modSite_proj i j _ (·.stream) fun _ => rfl
@[simp] theorem State.modPsq_site_test (i : Fin 64) (f : Psq → Psq) (j : Fin 64) : ((s.modPsq i f).site j).test = (s.site j).test :=
  s.site_modSite_proj i j _ (·.test) fun _ => rfl

@[simp] theorem State.modMse_site_ctl (i : Fin 64) (f : Mse → Mse) (j : Fin 64) : ((s.modMse i f).site j).ctl = (s.site j).ctl :=
  s.site_modSite_proj i j _ (·.ctl) fun _ => rfl
@[simp] theorem State.modMse_site_cells (i : Fin 64) (f : Mse → Mse) (j : Fin 64) : ((s.modMse i f).site j).cells = (s.site j).cells :=
  s.site_modSite_proj i j _ (·.cells) fun _ => rfl
@[simp] theorem State.modMse_site_psq (i : Fin 64) (f : Mse → Mse) (j : Fin 64) : ((s.modMse i f).site j).psq = (s.site j).psq :=
  s.site_modSite_proj i j _ (·.psq) fun _ => rfl
@[simp] theorem State.modMse_site_bridges (i : Fin 64) (f : Mse → Mse) (j : Fin 64) : ((s.modMse i f).site j).bridges = (s.site j).bridges :=
  s.site_modSite_proj i j _ (·.bridges) fun _ => rfl
@[simp] theorem State.modMse_site_dsp (i : Fin 64) (f : Mse → Mse) (j : Fin 64) : ((s.modMse i f).site j).dsp = (s.site j).dsp :=
  s.site_modSite_proj i j _ (·.dsp) fun _ => rfl
@[simp] theorem State.modMse_site_tdc (i : Fin 64) (f : Mse → Mse) (j : Fin 64) : ((s.modMse i f).site j).tdc = (s.site j).tdc :=
  s.site_modSite_proj i j _ (·.tdc) fun _ => rfl
@[simp] theorem State.modMse_site_stream (i : Fin 64) (f : Mse → Mse) (j : Fin 64) : ((s.modMse i f).site j).stream = (s.site j).stream :=
  s.site_modSite_proj i j _ (·.stream) fun _ => rfl
@[simp] theorem State.modMse_site_test (i : Fin 64) (f : Mse → Mse) (j : Fin 64) : ((s.modMse i f).site j).test = (s.site j).test :=
  s.site_modSite_proj i j _ (·.test) fun _ => rfl

@[simp] theorem State.modStream_site_ctl (i : Fin 64) (f : SiteStream → SiteStream) (j : Fin 64) : ((s.modStream i f).site j).ctl = (s.site j).ctl :=
  s.site_modSite_proj i j _ (·.ctl) fun _ => rfl
@[simp] theorem State.modStream_site_cells (i : Fin 64) (f : SiteStream → SiteStream) (j : Fin 64) : ((s.modStream i f).site j).cells = (s.site j).cells :=
  s.site_modSite_proj i j _ (·.cells) fun _ => rfl
@[simp] theorem State.modStream_site_psq (i : Fin 64) (f : SiteStream → SiteStream) (j : Fin 64) : ((s.modStream i f).site j).psq = (s.site j).psq :=
  s.site_modSite_proj i j _ (·.psq) fun _ => rfl
@[simp] theorem State.modStream_site_bridges (i : Fin 64) (f : SiteStream → SiteStream) (j : Fin 64) : ((s.modStream i f).site j).bridges = (s.site j).bridges :=
  s.site_modSite_proj i j _ (·.bridges) fun _ => rfl
@[simp] theorem State.modStream_site_mse (i : Fin 64) (f : SiteStream → SiteStream) (j : Fin 64) : ((s.modStream i f).site j).mse = (s.site j).mse :=
  s.site_modSite_proj i j _ (·.mse) fun _ => rfl
@[simp] theorem State.modStream_site_dsp (i : Fin 64) (f : SiteStream → SiteStream) (j : Fin 64) : ((s.modStream i f).site j).dsp = (s.site j).dsp :=
  s.site_modSite_proj i j _ (·.dsp) fun _ => rfl
@[simp] theorem State.modStream_site_tdc (i : Fin 64) (f : SiteStream → SiteStream) (j : Fin 64) : ((s.modStream i f).site j).tdc = (s.site j).tdc :=
  s.site_modSite_proj i j _ (·.tdc) fun _ => rfl
@[simp] theorem State.modStream_site_test (i : Fin 64) (f : SiteStream → SiteStream) (j : Fin 64) : ((s.modStream i f).site j).test = (s.site j).test :=
  s.site_modSite_proj i j _ (·.test) fun _ => rfl

@[simp] theorem State.modBushel_site_ctl (i : Fin 64) (f : Bushel → Bushel) (j : Fin 64) : ((s.modBushel i f).site j).ctl = (s.site j).ctl :=
  s.site_modSite_proj i j _ (·.ctl) fun _ => rfl
@[simp] theorem State.modBushel_site_cells (i : Fin 64) (f : Bushel → Bushel) (j : Fin 64) : ((s.modBushel i f).site j).cells = (s.site j).cells :=
  s.site_modSite_proj i j _ (·.cells) fun _ => rfl
@[simp] theorem State.modBushel_site_psq (i : Fin 64) (f : Bushel → Bushel) (j : Fin 64) : ((s.modBushel i f).site j).psq = (s.site j).psq :=
  s.site_modSite_proj i j _ (·.psq) fun _ => rfl
@[simp] theorem State.modBushel_site_bridges (i : Fin 64) (f : Bushel → Bushel) (j : Fin 64) : ((s.modBushel i f).site j).bridges = (s.site j).bridges :=
  s.site_modSite_proj i j _ (·.bridges) fun _ => rfl
@[simp] theorem State.modBushel_site_mse (i : Fin 64) (f : Bushel → Bushel) (j : Fin 64) : ((s.modBushel i f).site j).mse = (s.site j).mse :=
  s.site_modSite_proj i j _ (·.mse) fun _ => rfl
@[simp] theorem State.modBushel_site_dsp (i : Fin 64) (f : Bushel → Bushel) (j : Fin 64) : ((s.modBushel i f).site j).dsp = (s.site j).dsp :=
  s.site_modSite_proj i j _ (·.dsp) fun _ => rfl
@[simp] theorem State.modBushel_site_tdc (i : Fin 64) (f : Bushel → Bushel) (j : Fin 64) : ((s.modBushel i f).site j).tdc = (s.site j).tdc :=
  s.site_modSite_proj i j _ (·.tdc) fun _ => rfl
@[simp] theorem State.modBushel_site_test (i : Fin 64) (f : Bushel → Bushel) (j : Fin 64) : ((s.modBushel i f).site j).test = (s.site j).test :=
  s.site_modSite_proj i j _ (·.test) fun _ => rfl

@[simp] theorem State.modTdc_site_ctl (i : Fin 64) (f : Tdc → Tdc) (j : Fin 64) : ((s.modTdc i f).site j).ctl = (s.site j).ctl :=
  s.site_modSite_proj i j _ (·.ctl) fun _ => rfl
@[simp] theorem State.modTdc_site_cells (i : Fin 64) (f : Tdc → Tdc) (j : Fin 64) : ((s.modTdc i f).site j).cells = (s.site j).cells :=
  s.site_modSite_proj i j _ (·.cells) fun _ => rfl
@[simp] theorem State.modTdc_site_psq (i : Fin 64) (f : Tdc → Tdc) (j : Fin 64) : ((s.modTdc i f).site j).psq = (s.site j).psq :=
  s.site_modSite_proj i j _ (·.psq) fun _ => rfl
@[simp] theorem State.modTdc_site_bridges (i : Fin 64) (f : Tdc → Tdc) (j : Fin 64) : ((s.modTdc i f).site j).bridges = (s.site j).bridges :=
  s.site_modSite_proj i j _ (·.bridges) fun _ => rfl
@[simp] theorem State.modTdc_site_mse (i : Fin 64) (f : Tdc → Tdc) (j : Fin 64) : ((s.modTdc i f).site j).mse = (s.site j).mse :=
  s.site_modSite_proj i j _ (·.mse) fun _ => rfl
@[simp] theorem State.modTdc_site_dsp (i : Fin 64) (f : Tdc → Tdc) (j : Fin 64) : ((s.modTdc i f).site j).dsp = (s.site j).dsp :=
  s.site_modSite_proj i j _ (·.dsp) fun _ => rfl
@[simp] theorem State.modTdc_site_stream (i : Fin 64) (f : Tdc → Tdc) (j : Fin 64) : ((s.modTdc i f).site j).stream = (s.site j).stream :=
  s.site_modSite_proj i j _ (·.stream) fun _ => rfl
@[simp] theorem State.modTdc_site_test (i : Fin 64) (f : Tdc → Tdc) (j : Fin 64) : ((s.modTdc i f).site j).test = (s.site j).test :=
  s.site_modSite_proj i j _ (·.test) fun _ => rfl

@[simp] theorem State.modCtl_same (i : Fin 64) (f : SiteCtl → SiteCtl) : ((s.modCtl i f).site i).ctl = f (s.site i).ctl := by
  simp [State.modCtl]

theorem State.modCtl_other (i j : Fin 64) (f : SiteCtl → SiteCtl) (h : i ≠ j) : (s.modCtl i f).site j = s.site j :=
  s.site_modSite_other i j _ h

@[simp] theorem State.modPsq_same (i : Fin 64) (f : Psq → Psq) : ((s.modPsq i f).site i).psq = f (s.site i).psq := by
  simp [State.modPsq]

theorem State.modPsq_other (i j : Fin 64) (f : Psq → Psq) (h : i ≠ j) : (s.modPsq i f).site j = s.site j :=
  s.site_modSite_other i j _ h

@[simp] theorem State.modMse_same (i : Fin 64) (f : Mse → Mse) : ((s.modMse i f).site i).mse = f (s.site i).mse := by
  simp [State.modMse]

theorem State.modMse_other (i j : Fin 64) (f : Mse → Mse) (h : i ≠ j) : (s.modMse i f).site j = s.site j :=
  s.site_modSite_other i j _ h

@[simp] theorem State.modTdc_same (i : Fin 64) (f : Tdc → Tdc) : ((s.modTdc i f).site i).tdc = f (s.site i).tdc := by
  simp [State.modTdc]

theorem State.modTdc_other (i j : Fin 64) (f : Tdc → Tdc) (h : i ≠ j) : (s.modTdc i f).site j = s.site j :=
  s.site_modSite_other i j _ h

@[simp] theorem State.modStream_same (i : Fin 64) (f : SiteStream → SiteStream) : ((s.modStream i f).site i).stream = f (s.site i).stream := by
  simp [State.modStream]

theorem State.modStream_other (i j : Fin 64) (f : SiteStream → SiteStream) (h : i ≠ j) : (s.modStream i f).site j = s.site j :=
  s.site_modSite_other i j _ h

/-! ## Regions, ports, thermal and calibration state of a site -/

@[simp] theorem State.modRegion_same (q : Fin 4) (f : Region → Region) : (s.modRegion q f).region q = f (s.region q) := by
  simp [State.region, State.modRegion]

theorem State.modRegion_other (q r : Fin 4) (f : Region → Region) (h : q ≠ r) : (s.modRegion q f).region r = s.region r := by
  simpa [State.region, State.modRegion] using vmod_other s.regions q r f h

@[simp] theorem State.modPort_same (p : Fin 2) (f : Port → Port) : (s.modPort p f).port p = f (s.port p) := by
  simp [State.port, State.modPort]

theorem State.modPort_other (p r : Fin 2) (f : Port → Port) (h : p ≠ r) : (s.modPort p f).port r = s.port r := by
  simpa [State.port, State.modPort] using vmod_other s.furlong.ports p r f h

@[simp] theorem State.modCal_same (i : Fin 64) (f : SiteCal → SiteCal) :
    (s.modCal i f).siteCal i = (f (s.siteCal i)).noted s.clock (s.siteCal i) := by
  simp [State.siteCal, State.modCal]

/-- A change of a site's calibration that leaves its CAL_STALE tags leaves their history. -/
theorem SiteCal.noted_same (c old : SiteCal) (t : Time) (h : c.staleUnits = old.staleUnits) : c.noted t old = c := by
  simp [SiteCal.noted, h]

@[simp] theorem State.modThermal_same (i : Fin 64) (f : SiteThermal → SiteThermal) :
    (s.modThermal i f).siteThermal i = f (s.siteThermal i) := by
  simp [State.siteThermal, State.modThermal]

/-! ## The time base moves on -/

/-- A loop changes only what its steps change: `p` holds of every state that differs from `s` so, and of `s`. -/
theorem State.forEach_inv {α : Type} (p : State → Prop) (l : List α) (g : α → State → State) (h : ∀ a t, p t → p (g a t))
    (h0 : p s) : p (s.forEach l g) := by
  simp only [State.forEach]
  induction l generalizing s with
  | nil => exact h0
  | cons a l ih => exact ih _ (h a s h0)

/-- A mark touches the sites alone. -/
theorem State.queueMark_eq (i : Fin 64) (k : Nat) (t : Time) (a : Nat) :
    ∃ v, s.queueMark i k t a = { s with sites := v } := by
  have h : ∃ v, s.lostMark i = { s with sites := v } := by
    simp only [State.lostMark, State.modStream, State.modSite]
    split
    · split <;> exact ⟨_, rfl⟩
    · exact ⟨_, rfl⟩
  obtain ⟨v, hv⟩ := h
  simp only [State.queueMark, hv, State.modStream, State.modSite]
  split
  · split <;> exact ⟨_, rfl⟩
  · exact ⟨_, rfl⟩

/-- A mark in every site touches the sites alone. -/
theorem State.markAll_eq (k : Nat) (t : Time) (a : Nat) : ∃ v, s.markAll k t a = { s with sites := v } := by
  refine State.forEach_inv s (fun u => ∃ v, u = { s with sites := v }) allSites _ ?_ ⟨_, rfl⟩
  rintro i _ ⟨v, rfl⟩
  obtain ⟨w, hw⟩ := State.queueMark_eq { s with sites := v } i k t a
  exact ⟨w, hw⟩

/-- What goes to a port touches Furlong alone. -/
theorem State.toPort_eq (p : Fin 2) (w : TxWait) : ∃ f, s.toPort p w = { s with furlong := f } := by
  simp only [State.toPort, State.dropAt, State.released, State.sendCredit, State.sendBlock, State.modPort]
  split
  · exact ⟨_, rfl⟩
  · split <;> exact ⟨_, rfl⟩

/-- A packet of the chip touches Furlong alone. -/
theorem State.sendChip_eq (type dest : Nat) (payload : List (BitVec 64)) :
    ∃ f, s.sendChip type dest payload = { s with furlong := f } := by
  simp only [State.sendChip, State.sendPacket, State.sendStamped]
  split
  · obtain ⟨f, hf⟩ := State.toPort_eq (s.tookSeq type 0) 0 _
    rw [hf]
    exact State.toPort_eq _ 1 _
  · exact State.toPort_eq (s.tookSeq type 0) _ _

/-- Epochs that begin touch the clock, the sites (EPOCH marks) and Furlong (EPOCH packets) alone. -/
theorem State.epochWraps_eq (n : Nat) : ∃ c v f, s.epochWraps n = { s with clock := c, sites := v, furlong := f } := by
  induction n generalizing s with
  | zero => exact ⟨_, _, _, rfl⟩
  | succ n ih =>
    simp only [State.epochWraps, State.epochWrap, State.epochPacket]
    obtain ⟨v, hv⟩ := State.markAll_eq { s with clock := BitVec.ofNat 68 ((epochOf s.clock + 1) * 2 ^ 52) } 0x01
      (BitVec.ofNat 68 ((epochOf s.clock + 1) * 2 ^ 52)) (epochOf (BitVec.ofNat 68 ((epochOf s.clock + 1) * 2 ^ 52)))
    rw [hv]
    obtain ⟨f, hf⟩ := State.sendChip_eq _ 7 0 _
    rw [hf]
    obtain ⟨c, w, g, h⟩ := ih _
    exact ⟨c, w, g, h⟩

/-- Moving the time base to `t` sets the clock, and touches the sites and Furlong where epochs begin on the way. -/
theorem State.advance_eq (t : Time) : ∃ v f, s.advance t = { s with clock := laterOf s.clock t, sites := v, furlong := f } := by
  simp only [State.advance, laterOf]
  split
  · obtain ⟨c, v, f, h⟩ := s.epochWraps_eq ((epochOf t + 65536 - epochOf s.clock) % 65536)
    exact ⟨v, f, by rw [h]⟩
  · exact ⟨s.sites, s.furlong, rfl⟩

/-- Within one epoch moving the time base sets the clock alone. -/
theorem State.advance_same (t : Time) (h : epochOf t = epochOf s.clock) (hb : before s.clock t = true) :
    s.advance t = { s with clock := t } := by
  simp [State.advance, hb, h, State.epochWraps]

@[simp] theorem State.advance_clock (t : Time) : (s.advance t).clock = laterOf s.clock t := by
  obtain ⟨v, f, h⟩ := s.advance_eq t
  rw [h]

@[simp] theorem State.advance_dict (t : Time) : (s.advance t).dict = s.dict := by
  obtain ⟨v, f, h⟩ := s.advance_eq t; rw [h]
@[simp] theorem State.advance_access (t : Time) : (s.advance t).access = s.access := by
  obtain ⟨v, f, h⟩ := s.advance_eq t; rw [h]
@[simp] theorem State.advance_regions (t : Time) : (s.advance t).regions = s.regions := by
  obtain ⟨v, f, h⟩ := s.advance_eq t; rw [h]
@[simp] theorem State.advance_pll (t : Time) : (s.advance t).pll = s.pll := by
  obtain ⟨v, f, h⟩ := s.advance_eq t; rw [h]
@[simp] theorem State.advance_ckos (t : Time) : (s.advance t).ckos = s.ckos := by
  obtain ⟨v, f, h⟩ := s.advance_eq t; rw [h]
@[simp] theorem State.advance_sync (t : Time) : (s.advance t).sync = s.sync := by
  obtain ⟨v, f, h⟩ := s.advance_eq t; rw [h]
@[simp] theorem State.advance_special (t : Time) : (s.advance t).special = s.special := by
  obtain ⟨v, f, h⟩ := s.advance_eq t; rw [h]
@[simp] theorem State.advance_balls (t : Time) : (s.advance t).balls = s.balls := by
  obtain ⟨v, f, h⟩ := s.advance_eq t; rw [h]
@[simp] theorem State.advance_chipTrig (t : Time) : (s.advance t).chipTrig = s.chipTrig := by
  obtain ⟨v, f, h⟩ := s.advance_eq t; rw [h]
@[simp] theorem State.advance_commit (t : Time) : (s.advance t).commit = s.commit := by
  obtain ⟨v, f, h⟩ := s.advance_eq t; rw [h]
@[simp] theorem State.advance_gauntlet (t : Time) : (s.advance t).gauntlet = s.gauntlet := by
  obtain ⟨v, f, h⟩ := s.advance_eq t; rw [h]
@[simp] theorem State.advance_assize (t : Time) : (s.advance t).assize = s.assize := by
  obtain ⟨v, f, h⟩ := s.advance_eq t; rw [h]
@[simp] theorem State.advance_nvm (t : Time) : (s.advance t).nvm = s.nvm := by
  obtain ⟨v, f, h⟩ := s.advance_eq t; rw [h]
@[simp] theorem State.advance_thermal (t : Time) : (s.advance t).thermal = s.thermal := by
  obtain ⟨v, f, h⟩ := s.advance_eq t; rw [h]
@[simp] theorem State.advance_cal (t : Time) : (s.advance t).cal = s.cal := by
  obtain ⟨v, f, h⟩ := s.advance_eq t; rw [h]
@[simp] theorem State.advance_mitten (t : Time) : (s.advance t).mitten = s.mitten := by
  obtain ⟨v, f, h⟩ := s.advance_eq t; rw [h]
@[simp] theorem State.advance_can (t : Time) : (s.advance t).can = s.can := by
  obtain ⟨v, f, h⟩ := s.advance_eq t; rw [h]
@[simp] theorem State.advance_sps (t : Time) : (s.advance t).sps = s.sps := by
  obtain ⟨v, f, h⟩ := s.advance_eq t; rw [h]
@[simp] theorem State.advance_spm (t : Time) : (s.advance t).spm = s.spm := by
  obtain ⟨v, f, h⟩ := s.advance_eq t; rw [h]
@[simp] theorem State.advance_csv (t : Time) : (s.advance t).csv = s.csv := by
  obtain ⟨v, f, h⟩ := s.advance_eq t; rw [h]
@[simp] theorem State.advance_rst (t : Time) : (s.advance t).rst = s.rst := by
  obtain ⟨v, f, h⟩ := s.advance_eq t; rw [h]
@[simp] theorem State.advance_tap (t : Time) : (s.advance t).tap = s.tap := by
  obtain ⟨v, f, h⟩ := s.advance_eq t; rw [h]
@[simp] theorem State.advance_answer (t : Time) : (s.advance t).answer = s.answer := by
  obtain ⟨v, f, h⟩ := s.advance_eq t; rw [h]
@[simp] theorem State.advance_freeCount (t : Time) : (s.advance t).freeCount = s.freeCount := by
  obtain ⟨v, f, h⟩ := s.advance_eq t; rw [h]
@[simp] theorem State.advance_pending (t : Time) : (s.advance t).pending = s.pending := by
  obtain ⟨v, f, h⟩ := s.advance_eq t; rw [h]

end Sys2Proof.Machine
end

