-- ==== Sys2Proof/Tests/Slice0.lean ====
section
/-! SUPPORT. The author's tests: an ill-formed command for each check of WellFormed, concrete states and operands that meet the
hypotheses of every statement, and one-step tests against values worked out by hand from the specification's tables. -/
namespace Sys2Proof.Tests
open Sys2Proof.Machine Sys2Proof.Claims
set_option Elab.async false

/-! ## States to test with -/

/-- The outcome is a next state of which `p` holds. -/
def landed (o : Host.Outcome State Fault Refusal) (p : State → Bool) : Bool :=
  match o with
  | .next t => p t
  | _ => false

/-- `s` with site 0 in a state. -/
def inState (s : State) (x : SiteState) : State := s.modCtl 0 fun c => { c with state := x }

/-- Site 0 READY, everything else as after reset. -/
def ready0 : State := inState State.reset .ready

/-- `s` with one subindex at a value. -/
def withCfg (s : State) (index sub v : Nat) : State := s.setVal (addrOf index sub) v

/-- `s` with one subindex of site 0 at a value. -/
def withSite (s : State) (off sub v : Nat) : State := s.setVal (siteAddr 0 off sub) v

/-- `s` with one group changed. -/
def withGroup (s : State) (g : Nat) (x : Group) : State := s.modGroup g fun _ => x

/-- A write of the host that passes every check of acceptance in the cycle that its access takes. -/
def accepted (s : State) (c : Instr) : Bool :=
  let s := s.served 1
  match writeOf c with
  | none => false
  | some (f, a, v) =>
    match s.accept a (words32 v (wordsAt a)) with
    | .refused _ => false
    | .ok w => s.dictUp && !isCommand (a, w) && s.groupCheck f (a, w) == 0 && (s.openGroup f).isNone &&
        (s.checkFail .single [(a, w)] []).isNone && (xipFail s.spm.queue.length [(a, w)]).isNone &&
        !s.outranked a

/-- A vector of KEEP codes with an opcode, a condition and an argument. -/
def vec (op cond arg : Nat) : BitVec 64 := BitVec.ofNat 64 (0xCCCCCCCC + at_ op 40 + at_ cond 46 + at_ arg 49)

/-- A running PSQ of site 0 with one vector in its memory, at PC. -/
def psqAt (pc : Nat) (v : BitVec 64) : State :=
  (inState State.reset .running).modPsq 0 fun p =>
    { p with state := .run, pc := BitVec.ofNat 15 pc,
             segs := vmod p.segs (Fin.ofNat 8 (pc / 4096)) fun g => { g with filled := true, mem := [(pc % 4096, v)] } }

/-- A running MSE of site 0 with one microword in its store. -/
def mseAt0 (w : Nat) : State :=
  (inState State.reset .running).modMse 0 fun m => { m with state := .run, store := sparseSet [] 0 (BitVec.ofNat 24 w) 0 }

/-- A bundle. -/
def bundle (s0 s1 s2 : Nat) : BitVec 64 := BitVec.ofNat 64 (at_ s0 40 + at_ s1 20 + s2)

/-- A running DSP of site 0 at a bundle of which the slots before `slot` have been executed. -/
def dspAt0 (slot : Fin 3) (b : BitVec 64) : State :=
  (inState State.reset .running).modDsp 0 fun d =>
    { d with state := .run, pmem := sparseSet [] 0 b 0, slots := BitVec.ofNat 3 (2 ^ slot.val - 1) }

/-- A running DSP of site 0 whose slot `slot` holds the word `w`. -/
def dspWord (slot : Fin 3) (w : Nat) : State :=
  dspAt0 slot (if slot = 0 then bundle w 0 0 else if slot = 1 then bundle 0 w 0 else bundle 0 0 w)

/-- A packet with a header and payload. -/
def packet (h0 : BitVec 64) (ws : List (BitVec 64)) : Packet := { h0 := h0, payload := ws, stomp := false }

/-- Wherever `Due` is to be shown, this decides it. -/
theorem due_of {s : State} {i : Fin 64} {op : Nat}
    (h : (decide ((s.psq i).state = .run) && decide ((s.psq i).resume = none) && vLegal (dueVector s i) &&
      decide (vOp (dueVector s i) = op)) = true) : Due s i op := by
  simp only [Bool.and_eq_true, decide_eq_true_eq] at h
  exact ⟨h.1.1.1, h.1.1.2, h.1.2, h.2⟩

/-- Wherever `Clean` is to be shown, this decides it. -/
theorem clean_of {s : State} {i : Fin 64} {m : Strobe} {j c : Bool}
    (h : (((List.finRange 8).all fun k => !((ran s i m j c).cell i k).collision || (s.cell i k).collision) &&
      decide ((s.psq i).goto = none) && decide ((s.psq i).stopAt = none) && decide ((s.site i).ctl.trans ≠ some .park)) = true) :
    Clean s i m j c := by
  simp only [Bool.and_eq_true, decide_eq_true_eq, List.all_eq_true, List.mem_finRange, forall_const, Bool.or_eq_true,
    Bool.not_eq_true'] at h
  refine ⟨fun k hk => ?_, h.1.1.2, h.1.2, h.2⟩
  rcases h.1.1.1 k with h | h
  · rw [h] at hk; cases hk
  · exact h

/-- Wherever `MseDue` is to be shown, this decides it. -/
theorem mseDue_of {s : State} {i : Fin 64} {w : BitVec 24} {op : Nat}
    (h : (decide ((s.mse i).state = .run) && decide ((s.mse i).waiting = none) &&
      decide ((s.mse i).fetch (s.mse i).upc = some w) && uLegal w && decide (uOp w = op)) = true) :
    MseDue s i w op := by
  simp only [Bool.and_eq_true, decide_eq_true_eq] at h
  constructor <;> simp_all

/-- Wherever `DspRuns` is to be shown, this decides it. -/
theorem dspRuns_of {s : State} {i : Fin 64}
    (h : (s.fastClocks && decide ((s.dsp i).state = .run) && decide ((s.dsp i).outHeld = []) && (s.dspCalls i).isNone) = true) :
    DspRuns s i := by
  simp only [Bool.and_eq_true, decide_eq_true_eq, Option.isNone_iff_eq_none] at h
  exact ⟨h.1.1.1, h.1.1.2, h.1.2, h.2⟩

/-- The word `w` with opcode `op` is due in a slot of the DSP of site 0, as far as a computation can say. -/
def dspDueNow (s : State) (slot : Fin 3) (w op : Nat) : Bool :=
  let u := s.dspIssue 0
  (u.fastClocks && decide ((u.dsp 0).state = .run) && decide ((u.dsp 0).outHeld = []) && (u.dspCalls 0).isNone) &&
    decide ((u.dsp 0).slotDue = slot.val) && (u.dsp 0).legal && decide (w = bSlot (u.dsp 0).bundle slot.val) && decide (kOp w = op)

/-- Wherever `DspDue` is to be shown, this decides it. -/
theorem dspDue_of {s : State} {slot : Fin 3} {w op : Nat} (h : dspDueNow s slot w op = true) : DspDue s 0 slot w op := by
  simp only [dspDueNow, Bool.and_eq_true] at h
  exact ⟨dspRuns_of (by simpa using h.1.1.1.1), by simpa using h.1.1.1.2, fun _ => h.1.1.2, by simpa using h.1.2, by simpa using h.2⟩

/-! ## Ill-formed commands -/

theorem test_wf_packet : (Instr.packetReceive 0 0 0 [0] 0).wf = false := by decide
theorem test_wf_packet_empty : (Instr.packetReceive 0 0 0 [] 0).wf = false := by decide
theorem test_wf_packet_good : (Instr.packetReceive 0 0 0x400 [0] 0).wf = true := by decide
theorem test_wf_rpdo : (Instr.rpdoRx 0 (List.replicate 9 0)).wf = false := by decide
theorem test_wf_rpdo_good : (Instr.rpdoRx 0 (List.replicate 12 0)).wf = true := by decide
theorem test_wf_budget : (Instr.budgetUpdate (List.replicate 127 0) (List.replicate 128 0) (List.replicate 512 0)).wf = false := by
  decide +kernel
theorem test_wf_mitten_tick : (Instr.mittenTick (List.replicate 34 0) (List.replicate 512 0)).wf = false := by decide +kernel
theorem test_wf_tdc_run : (Instr.tdcRunDone 0 [([], [])]).wf = false := by decide
theorem test_wf_tdc_special : (Instr.tdcSpecialDone [([0], [])]).wf = false := by decide
theorem test_wf_extest : (Instr.extest [true] []).wf = false := by decide
theorem test_wf_sample_preload : (Instr.samplePreload [] [true]).wf = false := by decide
theorem test_wf_extest_pulse : (Instr.extestPulse [true] []).wf = false := by decide
theorem test_wf_extest_train : (Instr.extestTrain [true, false] [true]).wf = false := by decide

/-! ## The host's writes: every command has a state that accepts it -/

/-- WriteCommandApplies: a write with all its hypotheses. -/
theorem witness_write_command : writeOf (.modeChange .can 1) = some (.can, addrOf 0x2100 1, 1) ∧
    Accepts (State.reset.served 1) .can (addrOf 0x2100 1) (words32 1 (wordsAt (addrOf 0x2100 1))) 1 :=
  ⟨by decide, by constructor <;> decide +kernel⟩

/-- Commands that a READY site or the chip accepts as it stands after reset. -/
theorem witness_writes_ready : ∀ c ∈ [Instr.stateReqPark .can 0, .stateReqFence .can 0, .ckoWrite .can 3 3 1, .pcFlagClr .can 0 7 1,
    .ownerChange .can 0 7 1, .ppmuIrangeChange .can 0 0 8, .timingFlagClr .can 0 7 1, .psqStop .can 0, .psqGoto .can 0 0,
    .psqFlagClr .can 0 1, .psqFillRegion .can 0 7 1 0, .psqFillXip .can 0 0 1 0, .psqSegChainWrite .can 0 0 0,
    .buOutputOn .can 0 1 0, .buOutputOff .can 0 0 0, .buWaveChange .can 0 0 0, .buSineWrite .can 0 0 0,
    .buSafeValueWrite .can 0 0 0, .buFlagClr .can 0 0 1, .acqOff .can 0 0 0, .acqContinuous .can 0 0 0, .acqMseMode .can 0 0 0,
    .adcCfgRestart .can 0 0 0, .adcCfgChange .can 0 0 0, .mseStart .can 0, .mseStop .can 0, .mseLoadXip .can 0 0,
    .dspStart .can 0, .dspStop .can 0, .h2dWrite .can 0 7, .dspLoadXip .can 0 0, .dspFlagClr .can 0 1, .tdcRun .can 0,
    .tdcNominal .can 0, .tdcSpecial .can 0, .tdcFlagClr .can 0 0 1, .trigSiteClr .can 0 1, .bushelArm .can 0 0,
    .bushelTrigger .can 0], accepted ready0 c = true := by
  decide +kernel

theorem witness_writes_chip : ∀ c ∈ [Instr.modeChange .can 1, .flRetrainUp .can, .flRetrainDn .can, .flBypassEnter .can,
    .errorHistoryClear .can, .thAck .can 1, .thSensorClr .can 1, .gtAckAll .can, .calRequest .can, .calCancel .can, .clrWake .can,
    .clrCounts .can, .aszExportedWrite .can 0, .spareTest .can 0, .stateReqUnpark .can 63, .stateReqPowerDown .can 63],
    accepted State.reset c = true := by
  decide +kernel

/-- Commands that ask for a state of their own: a dark, a fenced, a swept-ready site, a loaded segment, staged tables, a held
capture, two ports up, a standing record. -/
theorem witness_writes_special :
    accepted (inState State.reset .off) (.stateReqPowerUp .can 0) = true ∧
    (∀ c ∈ [Instr.stateReqUnfence .can 0, .rgTestMem .can 0, .rgTestLoop .can 0, .rgTestBridge .can 0, .spareAssign .can 0 1],
      accepted (inState State.reset .fenced) c = true) ∧
    accepted (ready0.modPsq 0 fun p => { p with segs := vmod p.segs 0 fun g => { g with filled := true } }) (.psqStart .can 0) = true ∧
    accepted (withSite ready0 0x22 8 1) (.ppmuStart .can 0 7 0) = true ∧
    accepted ready0 (.buGainChange .can 0 0 0x010100) = true ∧
    accepted (ready0.modBushel 0 fun b => { b with state := .held }) (.bushelRearm .can 0) = true ∧
    accepted { State.reset with furlong := { State.reset.furlong with
      ports := State.reset.furlong.ports.map fun p => { p with state := .active } } } (.flRestore .can) = true ∧
    accepted (State.reset.present .ofChip 0x83 0 0) (.gtAck .can 1 1) = true ∧
    accepted (State.reset.modSites fun t => { t with ctl := { t.ctl with state := .ready } }) (.calSweep .can) = true := by
  decide +kernel

theorem witness_write_tdc_apply : accepted (withSite (ready0.modConv 0 0 fun c =>
    { c with staged := some ((List.range 1280).map fun (k : Nat) => (256 * k : Int)) }) 0xE8 2 1) (.tdcApply .can 0) = true := by
  decide +kernel
/-! ## Dictionary, sites, arbitration, the CSV (chapters 01, 02) -/

theorem witness_idle_step : State.reset.pending = [] ∧ grains State.reset.clock + 2560 < 2 ^ 52 := by decide

/-- RefusedWriteChangesNothing: no dictionary; a value out of range; a failed check. -/
theorem witness_refused_write :
    (writeOf (.modeChange .can 2) = some (.can, addrOf 0x2100 1, 2)) ∧
    ({ State.reset with rst := { State.reset.rst with phase := .started } } : State).dictUp = false ∧
    let u := State.reset.served 1
    u.accept (addrOf 0x2100 1) (words32 7 (wordsAt (addrOf 0x2100 1))) = .refused 6 ∧
    u.accept (siteAddr 0 0 1) (words32 6 (wordsAt (siteAddr 0 0 1))) = .ok 6 ∧
    isCommand (siteAddr 0 0 1, 6) = false ∧ u.groupCheck .can (siteAddr 0 0 1, 6) = 0 ∧ u.openGroup .can = none ∧
    u.outranked (siteAddr 0 0 1) = false ∧ (u.checkFail .single [(siteAddr 0 0 1, 6)] []).isSome = true ∧
    (u.site 0).ctl.trans.isSome = false ∧ stateReqOf 6 ≠ none := by decide +kernel

theorem witness_reads : isAddrT (addrOf 0x2100 1) = true ∧ State.reset.readValue (addrOf 0x2100 1) = .ok 0 ∧
    (∃ p, rowAt (addrOf 0x2100 1) = some p ∧ p.1.isT = true ∧ p.1.acc = .rw ∧ p.1.ty.isDomain = false) ∧
    State.reset.darkAddr (addrOf 0x2100 1) = false ∧ indexOf (addrOf 0x2100 1) / 256 ≠ 0x23 := by
  refine ⟨by decide +kernel, by decide +kernel, ⟨_, rfl, ?_⟩, by decide +kernel⟩
  decide +kernel

/-- `ready0` with group 1 OPEN and owned by CAN. -/
def open1 : State := ready0.modGroup 1 fun g => { g with state := .opened, owner := some .can }

theorem witness_owned_group : writeOf (.modeChange .can 1) = some (.can, addrOf 0x2100 1, 1) ∧ open1.dictUp = true ∧
    isCommand (addrOf 0x2100 1, 1) = false ∧ isAddrT (addrOf 0x2100 1) = true ∧ let u := open1.served 1
    u.accept (addrOf 0x2100 1) (words32 1 (wordsAt (addrOf 0x2100 1))) = .ok 1 ∧ u.groupCheck .can (addrOf 0x2100 1, 1) = 0 ∧
    u.openGroup .can = some 1 ∧ (u.group 1).entries.length < 4096 := by decide +kernel

/-- RunIsWhole: a run of two with one refused, a run of two that passes, a single REGISTER_WRITE. -/
theorem witness_run_whole :
    (let u := State.reset.served 2
     (∃ v, u.accept (addrOf 0x2110 1) [1] = .ok v) ∧ u.accept (addrOf 0x2100 1) [7] = .refused 6) ∧
    (let u := State.reset.served 2; let es := [(addrOf 0x2100 1, 1), (addrOf 0x2110 1, 1)]
     u.acceptAll [(addrOf 0x2100 1, [1]), (addrOf 0x2110 1, [1])] = .ok es ∧ es ≠ [] ∧
      (∀ e ∈ es, isCommand e = false ∧ u.groupCheck .can e = 0 ∧ u.outranked e.1 = false) ∧
      u.openGroup .can = none ∧ u.checkFail .single es [] = none ∧ xipFail u.spm.queue.length es = none) ∧
    Accepts (State.reset.served 1) .can (addrOf 0x2100 1) [1] 1 := by
  refine ⟨⟨⟨1, by decide +kernel⟩, by decide +kernel⟩, by decide +kernel, ?_⟩
  constructor <;> decide +kernel

/-- Table 3.6: MODE 2 is an encoding that the row does not list. -/
theorem witness_codes : ∃ r n, rowAt (addrOf 0x2100 1) = some (r, n) ∧ r.acc = .rw ∧ r.ty.isDomain = false ∧
    [7#32].length = r.ty.words ∧ natWords [7#32] < 2 ^ (8 * r.ty.byteLen) ∧ r.inRange (r.defined 7) = false ∧
    State.reset.accept (addrOf 0x2100 1) [1] = .ok 1 := ⟨_, _, rfl, by decide +kernel⟩

theorem witness_domain : domainOf (.mseStoreWrite .can 0 [1, 2, 3, 0]) = some (.can, siteAddr 0 0xA4 1, [1, 2, 3, 0]) ∧
    (ready0.served 1).domainCheck (siteAddr 0 0xA4 1) [1, 2, 3, 0] = 0 ∧
    (State.reset.served 1).domainCheck (siteAddr 0 0xA4 1) [1, 2, 3] ≠ 0 := by
  decide +kernel

/-- Every command that writes a DOMAIN has an image that lands. -/
theorem witness_domain_all :
    ready0.domainCheck (siteAddr 0 0x65 8) (List.replicate 8 0) = 0 ∧ ready0.domainCheck (regionAddr 0 0x20 1) (List.replicate 8 0) = 0 ∧
    ready0.domainCheck (siteAddr 0 0x89 2) (List.replicate 2 0) = 0 ∧ ready0.domainCheck (siteAddr 0 0xC4 1) (List.replicate 8 0) = 0 ∧
    ready0.domainCheck (siteAddr 0 0xC5 1) (List.replicate 4 0) = 0 := by decide +kernel

/-- `reset` with site 0 in a state and a transition in progress. -/
def inTransit (x : SiteState) (t : Transition) : State :=
  State.reset.modCtl 0 fun c => { c with state := x, trans := some t }

/-- No group is PREPARED or SCHEDULED, and none applies now. -/
def settled (s : State) : Bool :=
  groupNums.all fun g => (s.group g).state != .prepared && (s.group g).state != .scheduled && !s.applying (s.group g)

/-- Wherever `Settled` is to be shown, this decides it. -/
theorem settled_of {s : State} (h : settled s = true) : Settled s := by
  intro g hg
  have := List.all_eq_true.1 h g hg
  simp only [Bool.and_eq_true, bne_iff_ne, Bool.not_eq_true'] at this
  exact ⟨this.1.1, this.1.2, this.2⟩

/-- SiteRequestBegins: each request from a state of Table 1.9, and from one that does not name it. -/
theorem witness_requests :
    (∀ e ∈ [(SiteState.off, StateReq.powerUp), (.parked, .powerDown), (.safe, .powerDown), (.fenced, .powerDown), (.parked, .unpark),
        (.ready, .park), (.running, .park), (.parked, .fence), (.ready, .fence), (.safe, .fence), (.fenced, .unfence)],
      let s := { inState State.reset e.1 with clock := 25600 }; let u := s.served 1
      s.dictUp = true ∧ u.openGroup .can = none ∧ u.outranked (siteAddr 0 0 1) = false ∧
        u.reqAllowed (u.viewOf [(siteAddr 0 0 1, e.2.code)]) 0 e.2 = true ∧ u.reqOverridden 0 e.2 = false ∧ settled u = true ∧
        (∀ r ∈ u.gtRecords, 0x40 ≤ r.kind → r.kind ≤ 0x42 → r.acked = false) ∧ (u.psq 0).state ≠ .underrun) ∧
    (∀ e ∈ [(SiteState.parked, StateReq.powerUp), (.ready, .powerDown), (.safe, .unpark), (.safe, .park), (.running, .fence),
        (.off, .unfence)],
      let u := ({ inState State.reset e.1 with clock := 25600 } : State).served 1
      u.reqAllowed (u.viewOf [(siteAddr 0 0 1, e.2.code)]) 0 e.2 = false ∧ u.reqOverridden 0 e.2 = false) := by decide +kernel

/-- SiteRequestBegins: a request in the cycle in which a force has taken the site into SAFE. -/
theorem witness_request_overridden :
    let u := (inState State.reset .safe).served 1
    u.reqOverridden 0 .unpark = true ∧ u.openGroup .can = none ∧ settled u = true ∧ u.safeNow 0 = true ∧
      u.reqOverridden 0 .fence = false := by decide +kernel

/-- SiteTransitionCompletes: each transition in progress, with and without a force that waits; engines that run and a range that
changes. -/
theorem witness_transitions :
    (inTransit .off .powerUp).inTrans 0 .powerUp = true ∧ (inTransit .parked .powerDown).inTrans 0 .powerDown = true ∧
    (inTransit .parked .unpark).inTrans 0 .unpark = true ∧ (inTransit .ready .park).inTrans 0 .park = true ∧
    ((inTransit .ready .park).psqReach 0).inTrans 0 .park = true ∧ ((inTransit .ready .park).psqReach 0).enginesStopped 0 = true ∧
    ((inTransit .ready .park).psqReach 0).rangesDone 0 = true ∧ ((inTransit .ready .park).psq 0).resume = none ∧
    (inTransit .parked .fence).inTrans 0 .fence = true ∧ (inTransit .parked .fence).enginesStopped 0 = true ∧
    (inTransit .parked .fence).rangesDone 0 = true ∧
    ((inTransit .safe .fence).modMse 0 fun m => { m with state := .run }).enginesStopped 0 = false ∧
    (inTransit .fenced .unfence).inTrans 0 .unfence = true ∧ (inTransit .off .powerUp).thermalHeld 0 = false ∧
    ((inTransit .off .powerUp).site 0).ctl.forces = [] ∧
    (((inTransit .off .powerUp).modCtl 0 fun c => { c with forces := [.chip] }).site 0).ctl.forces ≠ [] ∧
    (State.reset.site 0).ctl.trans = none ∧
    (∀ j ∈ sitesOf (regionOf 0), j ≠ 0 → ((inTransit .parked .powerDown).modSites fun t =>
      { t with ctl := if t.ctl.trans = none then { t.ctl with state := .off } else t.ctl }).siteState j = .off) := by
  decide +kernel

/-- SafeEntryAndRelease: the states that a force reaches, those that it does not, and a SAFE site that nothing holds. -/
theorem witness_safe :
    (∀ x ∈ [SiteState.parked, .ready, .running, .cal], let c := ((inState State.reset x).site 0).ctl
      (c.state = .parked ∨ c.state = .ready ∨ c.state = .running ∨ c.state = .cal) ∧ c.trans = none) ∧
    (let c := ((inTransit .parked .unpark).site 0).ctl; c.state = .parked ∧ c.trans = some .unpark) ∧
    (let c := ((inTransit .ready .park).site 0).ctl; c.state = .ready ∧ c.trans = some .park) ∧
    ((inState State.reset .off).site 0).ctl.state = .off ∧ ((inTransit .parked .powerDown).site 0).ctl.trans = some .powerDown ∧
    (let c := ((inState State.reset .safe).site 0).ctl; c.state = .safe ∧ c.trans = none ∧ c.forces = []) := by
  decide +kernel

/-- A command under each transition of a site: the completion leaves the state that Table 1.9 names. -/
theorem test_transitions :
    landed (exec (.unparkComplete 0) (inTransit .parked .unpark)) (fun t => t.siteState 0 == .ready) = true ∧
    landed (exec (.fenceComplete 0) (inTransit .ready .fence)) (fun t => t.siteState 0 == .fenced) = true ∧
    landed (exec (.powerDownComplete 0) (inTransit .safe .powerDown)) (fun t => t.siteState 0 == .off) = true := by
  decide +kernel

theorem witness_starvation : [true, false, false, false, false, false, false, false, false, false, true].length = 11 ∧
    starveWinner (Vector.replicate 11 0).toList [true, false, false, false, false, false, false, false, false, false, true] = some 0 ∧
    starveWinner (Vector.ofFn fun p : Fin 11 => if p = 10 then 16 else 0).toList
      [true, false, false, false, false, false, false, false, false, false, true] = some 10 ∧
    (∀ r ∈ List.replicate 27 (List.replicate 11 true), r.length = 11 ∧ r.getD 10 false = true) ∧
    (List.replicate 27 (List.replicate 11 true)).length = 17 + 10 := by decide

/-- `reset` with a raw request in the SPS-to-CSV mailbox. -/
def raw (h : Nat) (args : List Word) : State := State.reset.modSps fun m => { m with toCsv := BitVec.ofNat 32 h :: args }

/-- RawServices: one request of each service, with its arguments and its outcome. -/
theorem witness_raw :
    (∀ e ∈ [(0x01010007, [5#32]), (0x02000007, []), (0x10020007, [0x210001#32, 1]), (0x10020007, [0xFFFF01#32, 1]),
        (0x11020007, [0x210001#32, 1]), (0x77000007, [])], let s := raw e.1 e.2
      s.dictUp = true ∧ s.csv.waiting = none ∧ s.sps.toCsv = BitVec.ofNat 32 e.1 :: (e.2 ++ []) ∧
      field (BitVec.ofNat 32 e.1).toNat 23 16 = e.2.length ∧ s.sps.fromCsv.length ≤ 64) ∧
    (((raw 0x10020007 [0x210001, 1]).modSps fun m => { m with toCsv := [] }).served 1).readValue 0x210001 = .ok 0 ∧
    wordsAt 0x210001 ≤ 62 ∧ ((raw 0x10020007 []).rawRead 0x2100 1 1).2.2.length ≤ 62 ∧
    (((raw 0x10020007 [0xFFFF01, 1]).modSps fun m => { m with toCsv := [] }).served 1).readValue 0xFFFF01 = .refused 1 ∧
    ((raw 0x11020007 []).writeRun .csv 0x210001 [1]).2 = 0 ∧
    (let s : State := { State.reset with csv := { State.reset.csv with waiting := some [1] } }
     s.csv.waiting = some [1] ∧ s.sps.fromCsv.length + 1 ≤ 128) := by
  decide +kernel

theorem test_raw_echo : landed (exec .echo (raw 0x01010007 [5])) (fun t => t.sps.fromCsv == [0x81010007, 0, 5]) = true := by
  decide +kernel

theorem witness_watchdog : State.reset.coreUp = true := by decide
theorem test_watchdog : landed (exec .watchdogExpiry State.reset) (fun t => t.rst.cause == 5) = true := by decide +kernel
/-! ## Groups, overlays, the base configuration (chapter 13) -/

/-- `ready0` with group 1 in a state, owned by CAN, and with a cross-chip setting (ROLE in [1:0], COORD in [23:8]). -/
def grp (x : GroupState) (xchip : Nat := 0) (f : Group → Group := id) : State :=
  withCfg (ready0.modGroup 1 fun g => f { g with state := x, owner := some .can }) 0x2303 1 xchip

/-- TxnOpen: a group that is free or ended, one held by another owner, one held by this one, one while another is open. -/
theorem witness_txn_open : ready0.dictUp = true ∧ (grp .opened).dictUp = true ∧
    (let u := (ready0.served 1).heardFrom .can 15; (u.groupState (u.group 15)).held = false ∧ u.openGroup .can = none) ∧
    (let u := ((grp .opened).served 1).heardFrom .sps 1; (u.groupState (u.group 1)).held = true ∧ (u.group 1).owner ≠ some .sps) ∧
    (let u := ((grp .opened).served 1).heardFrom .can 1; (u.groupState (u.group 1)).held = true ∧ (u.group 1).owner = some .can) ∧
    (let u := ((grp .opened).served 1).heardFrom .can 2; (u.groupState (u.group 2)).held = false ∧ u.openGroup .can ≠ none) := by
  decide +kernel

/-- GroupCommands: each state, role and instant that its clauses name. T = 5,120 grains is the first that is in time. -/
theorem witness_group_commands :
    (∀ e ∈ [(GroupState.opened, 0), (.opened, 2), (.prepared, 0), (.preparing, 0), (.scheduled, 0), (.committed, 0), (.opened, 1)],
      let s := grp e.1 e.2; let u := (s.served 1).heardFrom .can 1; let w := (s.served 1).heardFrom .sps 1
      s.dictUp = true ∧ (u.group 1).state = e.1 ∧ (u.group 1).owner = some .can ∧ u.role 1 = e.2 ∧ u.groupDue (u.group 1) = false ∧
        (e.1 ≠ .committed → (w.groupState (w.group 1)).held = true ∧ (w.group 1).owner ≠ some .sps)) ∧
    (∀ e ∈ [(GroupState.free, 0), (.failed, 0), (.aborted, 2)], let u := ((grp e.1 e.2).served 1).heardFrom .can 1
      (u.group 1).state = e.1 ∧ u.role 1 = e.2) ∧
    (let u := ((grp .scheduled 0 fun g => { g with due := some (.at 0) }).served 1).heardFrom .can 1
     (u.group 1).state = .scheduled ∧ u.groupDue (u.group 1) = true ∧ (u.group 1).owner = some .can ∧ u.role 1 = 0) ∧
    (let u := ((grp .prepared 0 fun g => { g with t := 5120 }).served 1).heardFrom .can 1
     5120 ≤ span u.clock (resolve52 u.clock (u.group 1).t.toNat)) ∧
    (let u := ((grp .prepared 0 fun g => { g with t := 5119 }).served 1).heardFrom .can 1
     span u.clock (resolve52 u.clock (u.group 1).t.toNat) < 5120) := by decide +kernel

/-- The boundary instants of R293 themselves. -/
theorem test_commit_instants :
    landed (exec (.txnCommit .can 0 false false) (grp .prepared 0 fun g => { g with t := 5120 }))
      (fun t => (t.group 1).state == .scheduled) = true ∧
    landed (exec (.txnCommit .can 0 false false) (grp .prepared 0 fun g => { g with t := 5119 }))
      (fun t => (t.group 1).state == .prepared && t.answer.map (·.dstat) == some 8) = true := by decide +kernel

/-- A group scheduled for the cycle at 5,120 grains with one write staged. -/
def scheduled1 (e : Entry) : State := grp .scheduled 0 fun g => { g with entries := [e], due := some (.asap 5120) }

/-- The end of the checks of group 1. -/
def checksEnd (s : State) : State := let r := s.group 1; s.advance (addGrains r.prepFrom ((16 + r.entries.length) * s.seqLen : Nat))

theorem witness_prepare_apply :
    (let s₀ := grp .preparing; let s := checksEnd s₀; (s₀.group 1).state = .preparing ∧ (s₀.group 1).abortWaits = none ∧
      s.prepareFail (s₀.group 1).entries (s₀.group 1).overlays = none ∧ s.clock = 16 * 2560) ∧
    ((grp .preparing 0 fun g => { g with abortWaits := some .none }).group 1).abortWaits = some .none ∧
    (let s₀ := grp .preparing 0 fun g => { g with entries := [(siteAddr 0 0 1, 1)] }; let s := checksEnd s₀
     s.prepareFail (s₀.group 1).entries (s₀.group 1).overlays = some (8, siteAddr 0 0 1) ∧ s.clock = 17 * 2560) ∧
    (let s := scheduled1 (addrOf 0x2110 1, 1); s.nextApply = some 5120 ∧ (s.advance 5120).dueGroups = [1] ∧
      (s.advance 5120).applyFail (s.advance 5120).spm.queue.length ((s.advance 5120).group 1).entries = none) ∧
    (let s := scheduled1 (siteAddr 0 0 1, 1); s.nextApply = some 5120 ∧ (s.advance 5120).dueGroups = [1] ∧
      (s.advance 5120).applyFail (s.advance 5120).spm.queue.length ((s.advance 5120).group 1).entries = some (8, siteAddr 0 0 1)) ∧
    (let s := (grp .committed 0 fun g => { g with applyCycle := some 0, entries := [(addrOf 0x2110 1, 1)] })
     (s.group 1).state = .committed ∧ (s.group 1).applyCycle = some s.cycle ∧ (addrOf 0x2110 1, 1) ∈ (s.group 1).entries) ∧
    ready0.nextApply = none := by decide +kernel

theorem test_txn_apply : landed (exec .txnApply (scheduled1 (addrOf 0x2110 1, 1)))
    (fun t => (t.group 1).state == .committed && t.cfg 0x2110 1 == 1 && (t.group 1).appliedAt == 5120) = true := by decide +kernel

/-- Table 13.5: a single write of the same subindex in the apply cycle leaves the group's value; in the next cycle it stands. -/
theorem test_group_value_stands : landed (exec .txnApply (scheduled1 (addrOf 0x2110 1, 1)))
    (fun t => t.outranked (addrOf 0x2110 1) && !(t.advance 10240).outranked (addrOf 0x2110 1) &&
      (t.single (.iface .can) [(addrOf 0x2110 1, 0)] []).1.cfg 0x2110 1 == 1 &&
      ((t.advance 10240).single (.iface .can) [(addrOf 0x2110 1, 0)] []).1.cfg 0x2110 1 == 0) = true := by decide +kernel

theorem witness_applied_values : sparseWf initial State.reset.dict = true ∧
    (∀ e ∈ [(addrOf 0x2110 1, 1), (addrOf 0x2110 2, 7), (addrOf 0x2110 1, 0)], holdsValue e.1 = true) := by decide +kernel

theorem witness_deadlines :
    ((withCfg (grp .opened) 0x2300 2 5).cfg 0x2300 2 ≠ 0 ∧ ((withCfg (grp .opened) 0x2300 2 5).group 1).state = .opened) ∧
    ((withCfg (grp .prepared) 0x2300 2 5).group 1).state = .prepared ∧ (withCfg (grp .prepared) 0x2300 2 5).role 1 ≠ 1 ∧
    before (addGrains ((grp .opened).group 1).heard (5 * msGrains : Nat)) (grp .opened).clock = false ∧
    (let s := grp .prepared 1 fun g => { g with deadline := some 70000 }
     (s.group 1).deadline = some 70000 ∧ (s.group 1).state = .prepared ∧ s.role 1 = 1) ∧
    (let s := grp .preparing (2 + 2 ^ 32) fun g => { g with deadline := some 70000 }
     (s.group 1).deadline = some 70000 ∧ (s.group 1).state = .preparing ∧ s.role 1 = 2 ∧
      (s.group 1).votesYes < field (s.xchip 1) 47 32) ∧
    (withCfg (grp .opened) 0x2300 2 0).cfg 0x2300 2 = 0 := by decide +kernel

/-- A TXN packet of message `msg` for group 1 from chip 2 in the receive buffer of UP. -/
def txnIn (s : State) (msg result : Nat) (p1 : Nat) : State :=
  let pk := packet (headerOf 1 2 3 0 0 2 0) [BitVec.ofNat 64 (at_ msg 56 + at_ 1 52 + at_ result 48), BitVec.ofNat 64 p1]
  { s with furlong := { s.furlong with addr := 1, inbox := [{ port := 0, packet := pk, time := 100, credit := true }] } }

/-- What the first packet of a message finds, as CrossChipMessages asks. -/
def txnMeets (s : State) (msg : Nat) (f : InPacket → State → Bool) : Bool :=
  match s.takeInbox (isTxn msg) with
  | some (p, u) => f p u
  | none => false

theorem witness_xchip_participant :
    txnMeets (txnIn (grp .opened (1 + 0x200)) 1 0 70000) 1 (fun p u => u.fromCoord p && (u.group p.group).state == .opened) = true ∧
    txnMeets (txnIn (grp .prepared (1 + 0x200) fun g => { g with deadline := some 70000 }) 3 0 60000) 3 (fun p u =>
      u.fromCoord p && (u.group p.group).state == .prepared && (u.group p.group).deadline == some 70000 &&
      before p.time 70000 && decide (5120 ≤ span p.time (timeOf64 u.clock (BitVec.ofNat 64 (p.word 1))))) = true ∧
    txnMeets (txnIn (grp .prepared (1 + 0x200) fun g => { g with deadline := some 70000 }) 3 0 5219) 3 (fun p u =>
      u.fromCoord p && decide (span p.time (timeOf64 u.clock (BitVec.ofNat 64 (p.word 1))) < 5120)) = true ∧
    (∀ x ∈ [GroupState.preparing, .committed, .opened, .prepared, .scheduled], txnMeets (txnIn (grp x (1 + 0x200)) 4 0 0) 4
      (fun p u => u.fromCoord p && (u.group p.group).state == x && !u.groupDue (u.group p.group)) = true) ∧
    txnMeets (txnIn (grp .scheduled (1 + 0x200) fun g => { g with due := some (.at 0) }) 4 0 0) 4
      (fun p u => u.fromCoord p && u.groupDue (u.group p.group)) = true := by decide +kernel

theorem witness_xchip_coordinator :
    (∀ x ∈ [GroupState.preparing, .prepared], txnMeets (txnIn (grp x 2) 2 0 0) 2 (fun p u =>
      u.role p.group == 2 && decide (1 ≤ p.group) && (u.group p.group).state == x && field (p.word 0) 51 48 == 0) = true) ∧
    txnMeets (txnIn (grp .prepared 2) 2 1 0) 2 (fun p _ => field (p.word 0) 51 48 != 0) = true ∧
    txnMeets (txnIn (grp .committed 2) 5 0 0) 5 (fun p u => u.role p.group == 2 && decide (1 ≤ p.group) &&
      (u.group p.group).state != .free && (u.group p.group).state != .opened) = true ∧
    (∀ m ∈ [1, 2, 3, 4, 5], (ready0.takeInbox (isTxn m)).isNone = true) := by decide +kernel

/-- An overlay image with ID 7 and one entry, CKO0 enable = 1 (Table 13.4). -/
def image1 : List Byte :=
  let body : List Byte := bytesLE (addrOf 0x2110 1 * 256 + 1) 4 ++ [1, 0, 0, 0]
  [0x56, 0x4F, 1, 0, 7, 0, 1, 0, 24, 0, 0, 0] ++ bytesLE (crc32 body).toNat 4 ++ body

/-- `reset` with the image in a slot. -/
def stored1 (k : Fin 17) : State :=
  { State.reset with commit := { State.reset.commit with store := vmod State.reset.commit.store k fun _ => image1 } }

theorem witness_overlay : let u := (stored1 16).served 1
    (stored1 16).dictUp = true ∧ u.slotBusy 17 = false ∧ u.slotValid 17 = true ∧
    u.overlayWrites (u.slotImage 17) = .ok [(addrOf 0x2110 1, 1)] ∧ ((stored1 0).served 1).slotValid 1 = true ∧
    u.openGroup .can = none ∧ u.outranked (addrOf 0x2110 1) = false ∧
    u.checkFail .single [(addrOf 0x2110 1, 1)] [u.slotApp 17] = none ∧
    xipFail u.spm.queue.length [(addrOf 0x2110 1, 1)] = none ∧ (State.reset.served 1).slotValid 1 = false ∧
    (({ State.reset with nvm := { State.reset.nvm with jobs := [.overlay 1 []] } } : State).served 1).slotBusy 1 = true := by
  decide +kernel

theorem test_overlay_apply : landed (exec (.overlayApply .can 17) (stored1 16)) (fun t => t.cfg 0x2110 1 == 1) = true := by
  decide +kernel

theorem witness_base : let u := State.reset.served 1
    State.reset.dictUp = true ∧ u.commit.saving = none ∧ u.aszTakes 1 = true ∧
    (({ State.reset with commit := { State.reset.commit with saving := some (.device, []) } } : State).served 1).commit.saving =
      some (.device, []) ∧
    ({ State.reset with commit := { State.reset.commit with saving := some (.device, []) } } : State).commit.saving = some (.device, []) ∧
    u.calCtrlCheck 4 = 0 := by decide +kernel

theorem witness_factory : let u := State.reset.served 1
    u.checkFail .single u.factoryWrites [] = none ∧ xipFail u.spm.queue.length u.factoryWrites = none ∧
    (∀ e ∈ u.factoryWrites, u.outranked e.1 = false) := by decide +kernel
/-! ## Clocks and the time base (chapter 03) -/

/-- `reset` with the PLL changed. -/
def pll (f : Pll → Pll) : State := State.reset.modPll f

theorem witness_pll :
    (pll fun p => { p with state := .acquire }).pll.state = .acquire ∧
    (let s := pll fun p => { p with state := .unlocked }; s.pll.state = .unlocked ∧ s.slewLeft = 0) ∧
    (let s := pll fun p => { p with state := .unlocked, slewRemain := 7 }; s.pll.state = .unlocked ∧ s.slewLeft ≠ 0) ∧
    (∀ lost : Bool, let s := pll fun p => { p with state := .resyncWait, stepped := true, lostInAcquire := lost }
      s.pll.state = .resyncWait ∧ s.pll.stepped = true ∧ s.pll.lostInAcquire = lost ∧
      s.pll.state ≠ .locked ∧ s.pll.state ≠ .slew ∧ s.pll.state ≠ .bypass ∧ s.pll.state ≠ .holdover) ∧
    (pll fun p => { p with state := .resyncWait }).pll.stepped = false ∧
    decide (State.reset.cfg 0x2100 1 = 1) = State.reset.pll.economy ∧
    decide ((withCfg State.reset 0x2100 1 1).cfg 0x2100 1 = 1) ≠ (withCfg State.reset 0x2100 1 1).pll.economy ∧
    State.reset.pll.state = .locked ∧ (pll fun p => { p with state := .slew }).pll.state = .slew ∧
    (pll fun p => { p with state := .bypass }).pll.state = .bypass ∧
    (let s := pll fun p => { p with state := .holdover }; s.pll.state = .holdover ∧ s.pll.jLost = false ∧
      s.gridPeriod = 0 ∧ (foldPhase (6#16).toInt).natAbs ≤ s.lockWindow.natAbs ∧
      s.lockWindow.natAbs < (foldPhase (2000#16).toInt).natAbs ∧ (foldPhase (2000#16).toInt).natAbs ≤ 51200 ∧ s.cfg 0x2103 1 = 0) ∧
    (withCfg State.reset 0x2103 1 1).cfg 0x2103 1 ≠ 0 ∧
    (let s := pll fun p => { p with state := .ret, phaseAtReturn := some 5 }; s.pll.state = .ret ∧ s.pll.phaseAtReturn = some 5) := by
  decide +kernel

/-- R65: a phase error of 2,000 grains is corrected by −2,000; one of 4,000 folds to −1,120. -/
theorem test_pll_return :
    landed (exec (.refclkQualified 2000) (pll fun p => { p with state := .holdover }))
      (fun t => t.pll.state == .slew && t.pll.slewRemain == -2000) = true ∧
    landed (exec (.refclkQualified 4000) (pll fun p => { p with state := .holdover }))
      (fun t => t.pll.slewRemain == 1120) = true := by decide +kernel

/-- Commands of chapter 03 in the states in which they act. -/
theorem test_pll_events :
    landed (exec .lockLost State.reset) (fun t => t.pll.state == .unlocked) = true ∧
    landed (exec .refLost State.reset) (fun t => t.pll.state == .holdover && t.pll.holdovers == 1) = true ∧
    landed (exec .slewEnd (pll fun p => { p with state := .slew, slewRemain := 7 })) (fun t => t.clock == 7000000) = true := by
  decide +kernel

/-- `reset` with a SPECIAL run from the start of the epoch on. -/
def specialRun : State := { State.reset with special := { State.reset.special with start := some 0, closed := true } }

/-- The resolved time of a SYNC_IN edge, and the state that it finds. -/
def syncAt (s : State) (coarse : BitVec 42) (fine : Fin 1280) : Time × State :=
  let at0 := roundFine ((s.captured coarse fine false).raw s.special.convs[4])
  (at0, (s.advance at0).specialBegun)

theorem witness_time_base :
    (let v := (syncAt State.reset 0 5).2; v.special.runsAt v.clock = false) ∧
    (let v := (syncAt State.reset 100 5).2; v.special.runsAt v.clock = false) ∧
    (let v := (syncAt specialRun 100 5).2; v.special.runsAt v.clock = true) ∧
    (let s := withCfg State.reset 0x2120 1 2; let v := (syncAt s 100 5).2
     v.special.runsAt v.clock = false ∧ s.cfg 0x2120 1 ≠ 0) ∧
    State.reset.cfg 0x2120 1 = 0 ∧ State.reset.gridPeriod = 0 ∧
    bitOf ((withCfg State.reset 0x2120 2 1).cfg 0x2120 2) 0 = true ∧ bitOf (State.reset.cfg 0x2120 2) 0 = false ∧
    sparseWf initial State.reset.dict = true ∧
    before State.reset.clock 1 = true ∧ epochOf (1 : Time) = epochOf State.reset.clock ∧ before State.reset.clock 0 = false := by
  decide +kernel

/-- R79: the EPOCH edge at 100 × 1,280 + 5 grains, read 100 cycles on, makes that instant the start of time. -/
theorem test_epoch_edge : landed (exec (.syncEdge 100 5) (withCfg State.reset 0x2120 2 1))
    (fun t => t.clock == 0 && t.cfg 0x2120 2 == 0) = true := by decide +kernel

theorem witness_clock_outputs : decide (State.reset.cfg 0x2100 1 = 1) = State.reset.pll.economy ∧
    decide ((withCfg State.reset 0x2100 1 1).cfg 0x2100 1 = 1) ≠ (withCfg State.reset 0x2100 1 1).pll.economy ∧
    State.reset.pll.state = .locked ∧
    (let s := withCfg State.reset 0x2110 2 3; let old := (s.ckos[0]).settled s.clock
     old.cur.div ≠ s.cfg 0x2110 2 + 1 ∧ before s.clock old.from_ = false ∧ old.running = false) ∧
    (let old := (State.reset.ckos[0]).settled State.reset.clock
     old.cur.div = State.reset.cfg 0x2110 2 + 1 ∧ old.cur.delay = ckoDelay (State.reset.cfg 0x2110 3)) := by decide +kernel

/-! ## The pattern sequencer (chapters 05, 06) -/

/-- The strobe of a vector that compares nothing. -/
def calm : Strobe := ⟨0, 0, 0⟩

theorem due_vec (pc op cond arg : Nat)
    (h : (decide ((((psqAt pc (vec op cond arg))).psq 0).state = .run) && vLegal (dueVector (psqAt pc (vec op cond arg)) 0) &&
      decide (vOp (dueVector (psqAt pc (vec op cond arg)) 0) = op)) = true) : Due (psqAt pc (vec op cond arg)) 0 op := due_of h

/-- VectorExecutes: the pipe's two cases. -/
theorem witness_vector : ((psqAt 0 (vec 0 0 0)).psq 0).pipe.length ≠ 4 ∧
    (((psqAt 0 (vec 0 0 0)).modPsq 0 fun p => { p with pipe := List.replicate 4 { cells := 1, fail := true, clr := false } }).psq 0).pipe =
      List.replicate 4 { cells := 1, fail := true, clr := false } := by decide +kernel

/-- VectorFlow: each opcode is due and clean at the first and at the last offset of a segment. -/
theorem witness_flow_adv : Due (psqAt 0 (vec 0 0 0)) 0 0x00 ∧ Clean (psqAt 0 (vec 0 0 0)) 0 calm true false ∧
    Due (psqAt 4095 (vec 0 0 0)) 0 0x00 ∧ Clean (psqAt 4095 (vec 0 0 0)) 0 calm true false ∧
    (psqAt 4095 (vec 0 0 0)).segNext 0 0 = none :=
  ⟨due_of (by decide +kernel), clean_of (by decide +kernel), due_of (by decide +kernel), clean_of (by decide +kernel), by decide +kernel⟩

theorem witness_flow_jmp : Due (psqAt 0 (vec 1 0 5)) 0 0x01 ∧ Clean (psqAt 0 (vec 1 0 5)) 0 calm true false ∧
    Due (psqAt 0 (vec 1 0 0x7FFF)) 0 0x01 ∧ Clean (psqAt 0 (vec 1 0 0x7FFF)) 0 calm true false ∧
    (∀ e ∈ [(5, true), (0x7FFF, false)], let u := ran (psqAt 0 (vec 1 0 e.1)) 0 calm true false
      u.segServes 0 (segOf (vTarget (vec 1 0 e.1))) (u.psq 0).zero = e.2) :=
  ⟨due_of (by decide +kernel), clean_of (by decide +kernel), due_of (by decide +kernel), clean_of (by decide +kernel),
    by decide +kernel⟩

theorem witness_flow_jmp_if : Due (psqAt 0 (vec 2 2 5)) 0 0x02 ∧ Clean (psqAt 0 (vec 2 2 5)) 0 calm true false ∧
    (ran (psqAt 0 (vec 2 2 5)) 0 calm true false).psqCond 0 2 = true ∧
    (ran (psqAt 0 (vec 2 1 5)) 0 calm true false).psqCond 0 1 = false ∧
    (ran ((psqAt 0 (vec 2 5 5)).modStream 0 fun m => { m with rtrig := true }) 0 calm true false).psqCond 0 5 = true :=
  ⟨due_of (by decide +kernel), clean_of (by decide +kernel), by decide +kernel, by decide +kernel, by decide +kernel⟩

/-- `psqAt` with a stack. -/
def stacked (v : BitVec 64) (st : List (BitVec 15)) : State := (psqAt 0 v).modPsq 0 fun p => { p with stack := st }

theorem witness_flow_call : Due (stacked (vec 3 0 5) [9, 9, 9]) 0 0x03 ∧ Clean (stacked (vec 3 0 5) [9, 9, 9]) 0 calm true false ∧
    (let u := ran (stacked (vec 3 0 5) [9, 9, 9]) 0 calm true false
     u.psqLink 0 (u.psq 0).zero = some 1 ∧ u.segServes 0 0 (u.psq 0).zero = true) ∧
    4 ≤ ((stacked (vec 3 0 5) [9, 9, 9, 9]).psq 0).stack.length ∧ Due (stacked (vec 3 0 5) [9, 9, 9, 9]) 0 0x03 ∧
    (psqAt 4095 (vec 3 0 5)).psqLink 0 0 = none :=
  ⟨due_of (by decide +kernel), clean_of (by decide +kernel), by decide +kernel, by decide +kernel,
    due_of (by decide +kernel), by decide +kernel⟩

theorem witness_flow_rest :
    Due (stacked (vec 4 0 0) [9]) 0 0x04 ∧ Clean (stacked (vec 4 0 0) [9]) 0 calm true false ∧ Due (psqAt 0 (vec 4 0 0)) 0 0x04 ∧
    Due (psqAt 0 (vec 0xA 0 3)) 0 0x0A ∧ Clean (psqAt 0 (vec 0xA 0 3)) 0 calm true false ∧
    Due (psqAt 0 (vec 0xC 0 0)) 0 0x0C ∧ Clean (psqAt 0 (vec 0xC 0 0)) 0 calm true false ∧
    ((psqAt 0 (vec 0xD 0 0)).psq 0).state = .run ∧ vLegal (dueVector (psqAt 0 (vec 0xD 0 0)) 0) = false :=
  ⟨due_of (by decide +kernel), clean_of (by decide +kernel), due_of (by decide +kernel), due_of (by decide +kernel),
    clean_of (by decide +kernel), due_of (by decide +kernel), clean_of (by decide +kernel), by decide +kernel, by decide +kernel⟩

/-- The word of JMP to 0x123 in segment 0 (Table 6.1), written out: KEEP codes, opcode 0x01 in [45:40], target in [63:49]. -/
theorem test_jmp : (dueVector (psqAt 0 0x02460100CCCCCCCC) 0) = vec 1 0 0x123 ∧
    landed (exec (.jmp 0 0 0 0) (psqAt 0 0x02460100CCCCCCCC)) (fun t => (t.psq 0).pc == 0x123) = true := by decide +kernel
theorem test_halt : landed (exec (.psqHalt 0 0 0 0) (psqAt 7 (vec 0xC 0 0)))
    (fun t => (t.psq 0).stopCause == .halt && (t.psq 0).vectors == 1 && t.siteState 0 == .ready) = true := by decide +kernel

/-- A LOOP_BEGIN at 0 of counter 3 with a count of 2 whose LOOP_END stands at 5. -/
def looping : State := (psqAt 0 (vec 5 0 (0x6000 + 5))).modPsq 0 fun p =>
  { p with segs := vmod p.segs 0 fun g => { g with mem := [(0, vec 5 0 (0x6000 + 5)), (5, vec 6 0 (0x6000 + 2))] } }

/-- A LOOP_END at 5 whose counter 3 is armed at a value. -/
def loopEndAt (v : Nat) (armed : Option (Nat × Nat × Nat)) : State := (psqAt 5 (vec 6 0 (0x6000 + 2))).modPsq 0 fun p =>
  { p with ctrs := vmod p.ctrs 3 fun _ => { value := BitVec.ofNat 24 v, armed := armed } }

theorem witness_loops : Due looping 0 0x05 ∧ Clean looping 0 calm true false ∧
    ((looping.psq 0).loopEnd (dueVector looping 0)) = some (vec 6 0 (0x6000 + 2)) ∧
    ((psqAt 0 (vec 5 0 5)).psq 0).loopEnd (vec 5 0 5) = none ∧
    Due (loopEndAt 2 (some (0, 1, 5))) 0 0x06 ∧ Clean (loopEndAt 2 (some (0, 1, 5))) 0 calm true false ∧
    Due (loopEndAt 1 (some (0, 1, 5))) 0 0x06 ∧ Due (loopEndAt 0 none) 0 0x06 ∧ Due (loopEndAt 2 (some (1, 1, 5))) 0 0x06 ∧
    ((loopEndAt 2 (some (0, 1, 5))).psq 0).ctrs[(vCtr (vec 6 0 0x6002)).val] = { value := 2, armed := some (0, 1, 5) } :=
  ⟨due_of (by decide +kernel), clean_of (by decide +kernel), by decide +kernel, by decide +kernel, due_of (by decide +kernel),
    clean_of (by decide +kernel), due_of (by decide +kernel), due_of (by decide +kernel), due_of (by decide +kernel), by decide +kernel⟩

/-- A MATCH of 5 repetitions with some behind it. -/
def matching (reps : Nat) (ps : List Bool) : State := (psqAt 0 (vec 8 0 5)).modPsq 0 fun p => { p with reps := reps, passes := ps }

theorem witness_match : Due (matching 0 []) 0 0x08 ∧ Clean (matching 0 []) 0 calm false false ∧
    ((matching 4 [false, false, false, true]).psq 0).passes.getD 3 false = true ∧
    ((matching 4 []).psq 0).reps + 1 = vArg (dueVector (matching 4 []) 0) ∧ Clean (matching 4 []) 0 calm false false ∧
    ((matching 3 []).psq 0).reps + 1 ≠ vArg (dueVector (matching 3 []) 0) :=
  ⟨due_of (by decide +kernel), clean_of (by decide +kernel), by decide +kernel, by decide +kernel, clean_of (by decide +kernel),
    by decide +kernel⟩

/-- A waiting PSQ. -/
def waiting (cond : Nat) (pc : Nat) : State := (psqAt pc (vec 7 cond 9)).modPsq 0 fun p => { p with state := .wait, wait := some (.event cond) }

/-- A PSQ at the end of segment 0 whose chain goes on to segment 1, with an underrun policy. -/
def chained (policy : Nat) (filled : Bool) : State :=
  (withSite (psqAt 4095 (vec 0 0 0)) 0x63 1 (1 + 8 + policy * 32)).modPsq 0 fun p =>
    { p with segs := vmod p.segs 1 fun g => { g with filled := filled } }

theorem witness_waits_due : Due (psqAt 0 (vec 7 2 9)) 0 0x07 ∧ Clean (psqAt 0 (vec 7 2 9)) 0 calm true false ∧
    (ran (psqAt 0 (vec 7 2 9)) 0 calm true false).psqCond 0 2 = true ∧ (ran (psqAt 0 (vec 7 1 9)) 0 calm true false).psqCond 0 1 = false ∧
    Due (psqAt 0 (vec 9 0 0)) 0 0x09 ∧ Clean (psqAt 0 (vec 9 0 0)) 0 calm true false ∧
    Due (chained 0 false) 0 0x00 ∧ Clean (chained 0 false) 0 calm true false ∧ Due (chained 3 false) 0 0x00 ∧
    (∀ b : Bool, let u := ran (chained 0 b) 0 calm true false; u.segServes 0 1 (u.psq 0).zero = b) :=
  ⟨due_of (by decide +kernel), clean_of (by decide +kernel), by decide +kernel, by decide +kernel, due_of (by decide +kernel),
    clean_of (by decide +kernel), due_of (by decide +kernel), clean_of (by decide +kernel), due_of (by decide +kernel),
    by decide +kernel⟩

/-- `s` whose next time zero is a boundary still to come, with a target or with the advance. -/
def resuming (s : State) (r : Option (BitVec 15)) : State := s.modPsq 0 fun p => { p with zero := 10240, resume := some r }

theorem witness_waits : let s := waiting 2 0
    (s.psq 0).state = .wait ∧ (s.psq 0).resume = none ∧ (s.psq 0).wait = some (.event 2) ∧ s.condAt 0 2 s.clock = true ∧
    (waiting 1 0).condAt 0 1 (waiting 1 0).clock = false ∧ (s.psq 0).waitLimit ≠ 0 ∧ ((resuming s none).psq 0).resume ≠ none ∧
    (∀ far ∈ [false, true], let r := if far then some 5 else none; let s := resuming s r
      (s.psq 0).resume = some r ∧ (s.psq 0).state = .wait ∧ (s.psq 0).goto = none ∧ (s.psq 0).stopAt = none ∧
        (s.site 0).ctl.trans ≠ some .park ∧ (s.psq 0).pc.toNat % 4096 ≠ 4095) ∧
    (chained 0 false).segNext 0 0 = some 1 ∧
    field ((chained 3 false).segChain 0 0) 6 5 = 3 ∧ field ((chained 0 false).segChain 0 0) 6 5 ≠ 3 ∧
    (∀ b ∈ [false, true], let s := (chained 0 b).modPsq 0 fun p => { p with state := .underrun }
      (s.psq 0).state = .underrun ∧ (s.psq 0).resume = none ∧ s.segNext 0 (segOf (s.psq 0).pc) = some 1 ∧ s.segInUse 0 1 = b) ∧
    (withSite (chained 0 true) 0x60 8 10).siteCfg 0 0x60 8 ≠ 0 := by decide +kernel

/-- The next vector stands on the first grid point at least 8 CK_PAT cycles on (R132): 9 cycles after time 0, seen from grain 1. -/
theorem test_wait_grid : landed (exec (.waitResume 0) { waiting 2 0 with clock := 1 }) (fun t => (t.psq 0).zero == 11520) = true := by
  decide +kernel

/-- `ready0` with a fill of two vectors of segment 0 from pattern memory. -/
def filling : State := ready0.psqFill 0 0x100

theorem witness_psq_commands :
    ready0.siteState 0 = .ready ∧ (ready0.psq 0).resume = none ∧ State.reset.siteState 0 ≠ .ready ∧
    ((waiting 2 0).psq 0).state = .wait ∧ ((waiting 2 0).psq 0).resume = none ∧ (waiting 2 0).segInUse 0 0 = true ∧
    (waiting 2 0).segInUse 0 7 = false ∧ ((psqAt 0 (vec 0 0 0)).psq 0).state = .run ∧ (ready0.psq 0).state = .idle ∧
    (ready0.psq 0).stopped ≠ some ready0.cycle ∧
    ((ready0.modPsq 0 fun p => { p with stopped := some 0 }).psq 0).stopped = some ready0.cycle ∧
    fillXip 0x110 = true ∧ fillXip 0x100 = false ∧ ready0.dict = [] ∧
    (let w := filling.memFinish 0 0
     (∃ f e, ((w.psq 0).seg 0).fill = some f ∧ f.ends = some e ∧ f.count = 2) ∧ w.siteState 0 ≠ .off ∧
       sparseWf (fun _ => (0 : BitVec 64)) ((w.psq 0).seg 0).mem = true ∧
       (∃ f, ((w.psq 0).seg 0).fill = some f ∧ f.ends ≠ none)) ∧
    (((ready0.memFinish 0 0).psq 0).seg 0).fill = none := by
  refine ⟨by decide +kernel, by decide +kernel, by decide +kernel, by decide +kernel, by decide +kernel, by decide +kernel,
    by decide +kernel, by decide +kernel, by decide +kernel, by decide +kernel, by decide +kernel, by decide +kernel,
    by decide +kernel, by decide +kernel, ⟨⟨_, _, rfl, rfl, by decide +kernel⟩, by decide +kernel, by decide +kernel, ⟨_, rfl, by decide +kernel⟩⟩,
    by decide +kernel⟩

theorem test_fill : landed (exec (.segFillDone 0 0) filling) (fun t => ((t.psq 0).seg 0).filled && !((t.psq 0).seg 0).filling) = true := by
  decide +kernel

theorem test_psq_start : landed (exec (.psqStart .can 0) (ready0.modPsq 0 fun p => { p with segs := vmod p.segs 0 fun g => { g with filled := true } }))
    (fun t => (t.psq 0).state == .run && (t.psq 0).zero == 81920 && t.siteState 0 == .running) = true := by decide +kernel
/-! ## Pin cells and bridge units (chapters 04, 07, 08) -/

/-- `ready0` with cell 7 of site 0 changed. -/
def cell7 (f : PinCell → PinCell) : State := ready0.modCell 0 7 f

/-- A measurement of cell 7. -/
def meas (converting route : Bool) (done : Nat) (sat : Bool) : PpmuMeas :=
  { converting := converting, route := route, total := 2, pair := if route then some 1 else none, done := done, sum := 5,
    limited := false, saturated := sat }

theorem witness_pin_settings : let start := withSite ready0 0x23 8 0x100
    bitOf (start.pcPpmu 0 7) 8 = true ∧ sparseWf initial start.dict = true ∧ (start.cell 0 7).meas = none ∧
    start.siteState 0 ≠ .safe ∧ start.safeNow 0 = false ∧ (inState start .safe).safeNow 0 = true ∧
    (inState start .safe).siteState 0 = .safe ∧ ((inState start .safe).cell 0 7).meas = none ∧
    ((cell7 fun q => { q with meas := some (meas false false 0 false) }).cell 0 7).meas.isSome = true ∧
    (ready0.cell 0 7).vih.goal = 12000 ∧ field (ready0.pcLevels 0 7) 15 0 = 12000 ∧
    (∀ d ∈ [DrvState.vih, .vil, .vtt], ((cell7 fun q => { q with base := d, recent := [] }).cell 0 7).last = d) ∧
    (let s := cell7 fun q => { q with collision := true, collAt := some 0 }
     (s.cell 0 7).collision = true ∧ (s.cell 0 7).collAt = some s.cycle) ∧
    (ready0.cell 0 7).collAt ≠ some ready0.cycle := by decide +kernel

theorem witness_pin_events :
    ((cell7 fun q => { q with vih := .moving { start := 0, target := 100, step := 40, rate := 2, t0 := 0, cyc := 2560 } }).cell 0 7).vih.isMoving = true ∧
    (ready0.siteState 0 ≠ .off ∧ field (ready0.pcMode 0 7) 7 6 = 0 ∧ ready0.cmpInternal 0 = false) ∧
    (let s := cell7 fun q => { q with base := .vih }; (s.cell 0 7).drvAt s.clock ≠ .z ∧ (s.cell 0 7).drvAt s.clock ≠ .ppmu) ∧
    ((cell7 fun q => { q with connected := true }).cell 0 7).connected = true ∧
    ((cell7 fun q => { q with held := some ⟨false, 5⟩ }).cell 0 7).held.isSome = true ∧
    (field ((withSite ready0 0x23 8 0).pcPpmu 0 7) 1 0 = 0 ∧ field ((withSite ready0 0x23 8 1).pcPpmu 0 7) 1 0 ≠ 0) ∧
    (∀ route : Bool, let s := cell7 fun q => { q with meas := some (meas false route 0 false), connected := true }
      (s.cell 0 7).meas = some (meas false route 0 false) ∧ (s.cell 0 7).connected = true) ∧
    (withSite ready0 0x85 1 0x800).pairFree 0 = true ∧ ready0.pairFree 0 = false := by decide +kernel

/-- The conversions of a measurement: not the last, the last and saturated, the last and sound, on each route. -/
theorem witness_conversions : ∀ m ∈ [meas true false 0 false, meas true false 1 true, meas true false 1 false, meas true true 0 false,
      meas true true 1 true, meas true true 1 false],
    let s := cell7 fun q => { q with meas := some m }
    (s.cell 0 7).meas = some m ∧ m.converting = true ∧ s.convGranted 0 7 m = true ∧
    (m.route = true → s.pairFree 0 = false ∧ (withSite s 0x85 1 0x800).convGranted 0 7 m = true ∧
      (withSite s 0x85 1 0x800).pairFree 0 = true) ∧
    (m.saturated || (true && s.beyondSpan 0 7 5)) = m.saturated ∧ s.beyondSpan 0 7 6150001 = true := by
  decide +kernel

/-- The mean of 5 and 9 over two conversions. -/
theorem test_ppmu_mean : landed (exec (.ppmuConversionDone 0 7 9 false) (cell7 fun q => { q with meas := some (meas true false 1 false) }))
    (fun t => (t.cell 0 7).meas.isNone && (t.cell 0 7).samples == 2 && (t.cell 0 7).result == 7) = true := by decide +kernel

/-- A move on its way. -/
def going : Level := .moving { start := 0, target := 9, step := 1, rate := 2, t0 := 0, cyc := 2560 }

/-- `ready0` with unit 1 of site 0 changed. -/
def unit1 (f : Bridge → Bridge) : State := ready0.modBridge 0 1 f

/-- `unit1` with SUP_EN = 7 in BU_CTRL [8:6], and in CURRENT mode or not: BU_RANGE [0], with ILIM and P_LIM at 0x28. -/
def ctrl1 (current : Bool) (f : Bridge → Bridge) : State :=
  withSite (withSite (unit1 f) 0x80 2 0x1C1) 0x81 2 (0x282800 + b2n current)

theorem witness_bridge :
    ((unit1 fun b => { b with closing := true }).bridge 0 1).closing = true ∧ (unit1 id).siteState 0 ≠ .cal ∧
    (∀ amp, (((unit1 fun b => { b with offset := going, ampl := going }).bridge 0 1).quantity amp).isMoving = true) ∧
    ((unit1 fun b => { b with offset := going }).bridge 0 1).opening = none ∧
    (let b := (unit1 fun b => { b with opening := some 9, connected := true, offset := going }).bridge 0 1
     b.opening.isSome = true ∧ b.range = none ∧ (b.quantity (!false)).isMoving = false) ∧
    (let r : RangeSwitch := { switching := true, newHold := 4 }
     let s := unit1 fun b => { b with range := some r }
     (s.bridge 0 1).range = some r ∧ r.switching = true ∧ s.siteState 0 ≠ .safe ∧ (s.bridge 0 1).limit = false ∧ s.buCurrent 0 1 = false) := by
  decide +kernel

/-- BridgeOutputs: each condition of Table 7.3 in VOLTAGE mode and in CURRENT mode. -/
theorem witness_bridge_supervision :
    (let s := ctrl1 false fun b => { b with connected := true, offset := .still 3200 }
     ∀ k : Fin 3, (s.bridge 0 1).connected = true ∧ bitOf (s.buCtrl 0 1) (6 + k.val) = true) ∧
    (∀ cur : Bool, let s := ctrl1 cur fun b => { b with connected := true, offset := .still 3200 }
      s.buCurrent 0 1 = cur ∧ (s.bridge 0 1).slewBusy = false ∧ (s.bridge 0 1).setHigh s.clock = true ∧
        (s.bridge 0 1).openCurrent s.clock 0 = true ∧ bitOf (s.buCtrl 0 1) 7 = true) ∧
    (3 : BitVec 16).toInt.natAbs < 20 ∧
    ((unit1 fun b => { b with flags := 1 }).bridge 0 1).flags.getLsbD 0 = true := by decide +kernel

/-- BridgeOutputs: a limit's onset in each mode, its release, and a unit that switches nothing. -/
theorem witness_limits :
    (let s := unit1 fun b => { b with connected := true, offset := .still 3200 }
     s.buCurrent 0 1 = false ∧ (s.bridge 0 1).wave = 0 ∧ (s.bridge 0 1).range = none ∧
       0 ≤ (3200 : BitVec 16).toInt * (s.bridge 0 1).offset.code s.cycle ∧
       (3200 : BitVec 16).toInt.natAbs ≤ ((s.bridge 0 1).offset.code s.cycle).natAbs) ∧
    (let s := ctrl1 true fun b => { b with connected := true, offset := .still 32000 }
     s.buCurrent 0 1 = true ∧ s.buLimitCode 0 1 < (s.bridge 0 1).peak s.cycle) ∧
    ((unit1 fun b => { b with connected := true, wave := 1 }).bridge 0 1).wave ≠ 0 ∧
    (let s := unit1 fun b => { b with limit := true, connected := true }
     (s.bridge 0 1).limit = true ∧ s.buCurrent 0 1 = false ∧ (s.bridge 0 1).opening = none ∧ s.siteState 0 ≠ .safe) ∧
    (let s := unit1 fun b => { b with flags := 9, caused := (0, 1), limit := true }
     (s.bridge 0 1).caused.1 = s.cycle) ∧
    State.reset.buLive 0 = false ∧ (State.reset.site 0).ctl.trans ≠ some .unpark := by decide +kernel

/-- A running acquisition of unit 1 with a number of outputs behind it. -/
def acquiring (n : Nat) (x : AcqState) : State := unit1 fun b => { b with acq := x, outputs := n, tStart := 5200000 }

theorem witness_acquisition :
    (let s := acquiring 2 .starting; (s.bridge 0 1).acq ≠ .stopped ∧ s.fastClocks = true ∧ (s.bridge 0 1).outputs < 3) ∧
    (let s := acquiring 3 .starting; (s.bridge 0 1).acq = .starting ∧ s.fastClocks = true ∧ 3 ≤ (s.bridge 0 1).outputs ∧
      (s.dsp 0).inq.length < 128 ∧ s.siteState 0 ≠ .cal ∧
      (((s.advance (addGrains (addGrains (s.bridge 0 1).tStart 0) 5040000)).dspWake 0).bridge 0 1).acq ≠ .stopped) ∧
    (acquiring 9 .running).bridge 0 1 ≠ ready0.bridge 0 1 ∧ (ready0.bridge 0 1).acq = .stopped ∧
    (State.reset.modPll fun p => { p with state := .acquire }).fastClocks = false ∧
    (let s := withSite ready0 0x85 2 1; field 0 1 0 ≠ 1 ∧ field (s.adcCfg 0 1) 1 0 = 1 ∧ s.siteState 0 = .ready) ∧
    (field 1 1 0 ≠ 0 ∧ field (ready0.adcCfg 0 1) 1 0 = 0) := by decide +kernel

theorem test_sample0 : landed (exec (.sinc4Output 0 1 7 9 0) (acquiring 3 .starting))
    (fun t => (t.dsp 0).inq.map (fun e => (e.w0, e.w1)) == [(7, 9)] && (t.bridge 0 1).t0 == 5200000) = true := by decide +kernel

/-! ## The measurement sequencing engine (chapter 09) -/

/-- MseArithmetic and the one-word forms of the others: each opcode is due with its functions. -/
theorem witness_mse_due (op rest : Nat)
    (h : (decide (((mseAt0 (op * 2 ^ 19 + rest)).mse 0).state = .run) && decide (((mseAt0 (op * 2 ^ 19 + rest)).mse 0).waiting = none) &&
      decide (((mseAt0 (op * 2 ^ 19 + rest)).mse 0).fetch ((mseAt0 (op * 2 ^ 19 + rest)).mse 0).upc = some (BitVec.ofNat 24 (op * 2 ^ 19 + rest))) &&
      uLegal (BitVec.ofNat 24 (op * 2 ^ 19 + rest)) && decide (uOp (BitVec.ofNat 24 (op * 2 ^ 19 + rest)) = op)) = true) :
    MseDue (mseAt0 (op * 2 ^ 19 + rest)) 0 (BitVec.ofNat 24 (op * 2 ^ 19 + rest)) op := mseDue_of h

theorem witness_mse_opcodes : ∀ op, op < 32 →
    (uLegal (BitVec.ofNat 24 (op * 2 ^ 19)) = true ∧ uOp (BitVec.ofNat 24 (op * 2 ^ 19)) = op ∧
     ((mseAt0 (op * 2 ^ 19)).mse 0).state = .run ∧ ((mseAt0 (op * 2 ^ 19)).mse 0).waiting = none ∧
     ((mseAt0 (op * 2 ^ 19)).mse 0).fetch 0 = some (BitVec.ofNat 24 (op * 2 ^ 19))) := by
  decide +kernel

/-- ADDI G2, 0xFFFF on G2 = 0: the result is −1 with N set and no carry (Table 9.3), the word written out as opcode 00011, rd 010. -/
theorem test_addi : landed (exec (.mseAddi 0) (mseAt0 0x1AFFFF))
    (fun t => (t.mse 0).gr 2 == 0xFFFFFFFF && (t.mse 0).n && !(t.mse 0).c && !(t.mse 0).v && (t.mse 0).upc == 1) = true := by
  decide +kernel

/-- SUB G0 = G1 − G2 with 0 − 1: C is the borrow (Table 9.4, fn 1). -/
theorem test_sub : landed (exec (.mseAlu 0) ((mseAt0 (0x04 * 2 ^ 19 + 0x2000 + 0x800 + 0x40)).modMse 0 fun m => m.put 2 1))
    (fun t => (t.mse 0).gr 0 == 0xFFFFFFFF && (t.mse 0).c && !(t.mse 0).z) = true := by decide +kernel

theorem witness_mse_flow :
    (uCond (BitVec.ofNat 24 (0x07 * 2 ^ 19 + 14 * 2 ^ 15)) = 14) ∧ uLegal (BitVec.ofNat 24 (0x07 * 2 ^ 19 + 14 * 2 ^ 15)) = true ∧
    uLegal (BitVec.ofNat 24 (0x07 * 2 ^ 19 + 15 * 2 ^ 15)) = false ∧
    (let s := (mseAt0 (0x08 * 2 ^ 19)).modMse 0 fun m => { m with stack := [1, 1, 1] }; (s.mse 0).stack.length < 4) ∧
    (let s := (mseAt0 (0x08 * 2 ^ 19)).modMse 0 fun m => { m with stack := [1, 1, 1, 1] }; 4 ≤ (s.mse 0).stack.length) ∧
    ((mseAt0 (0x09 * 2 ^ 19)).mse 0).stack = [] ∧ uNoSource 1 1 = false ∧ uNoSource 8 3 = false ∧
    (let s := ready0.modMse 0 fun m => { m with state := .wait, waiting := some (.cycles 3) }
     (s.mse 0).state = .wait ∧ (s.mse 0).waiting = some (.cycles 3)) ∧
    (let s := ready0.modMse 0 fun m => { m with state := .wait, waiting := some (.event 2 7 5 0) }
     (s.mse 0).waiting = some (.event 2 7 5 0) ∧ s.uEvent 0 2 7 0 = true) ∧
    (let s := ready0.modMse 0 fun m => { m with state := .wait, waiting := some (.event 1 1 5 0) }
     s.uEvent 0 1 1 0 = false ∧ s.uExpired 0 5 = false) ∧
    ((mseAt0 0).mse 0).fetch 0x2800 = none := by decide +kernel

theorem test_mse_end : landed (exec (.mseEnd 0) ((mseAt0 (0x18 * 2 ^ 19)).modMse 0 fun m => m.put 0 77))
    (fun t => (t.mse 0).state == .idle && (t.mse 0).result == .completed && (t.mse 0).ret == 77 && t.siteState 0 == .ready) = true := by
  decide +kernel

theorem witness_mse_exchange :
    (dacTarget 0 2 = none ∧ rngTarget 0 2 = none) ∧
    (let s := mseAt0 (0x0D * 2 ^ 19); let f : UField := { off := 0x80, sub := 1, lo := 16, wid := 16 }
     dacTarget 0 0 = some f ∧ (rowAt (siteAddr 0 f.off f.sub)).isSome = true ∧ ((s.mse 0).gr 0).toNat % 65536 < 2 ^ 16 ∧
       s.uMeasBusy 0 f (s.val (siteAddr 0 0x80 1)) (f.fill (s.val (siteAddr 0 0x80 1)) 0) = false ∧
       s.superseded (siteAddr 0 0x80 1) = false ∧
       s.checkFail .single [(siteAddr 0 0x80 1, 0)] [] = none ∧ xipFail s.spm.queue.length [(siteAddr 0 0x80 1, 0)] = none) ∧
    (let s := { mseAt0 (0x0D * 2 ^ 19) with access := { State.reset.access with wrote := [siteAddr 0 0x80 1], cycle := some 0 } }
     (mseAt s 0).superseded (siteAddr 0 0x80 1) = true) ∧
    (field ((withSite (mseAt0 (0x0F * 2 ^ 19)) 0x85 1 2).adcCfg 0 0) 1 0 = 2) ∧ (field ((mseAt0 (0x0F * 2 ^ 19)).adcCfg 0 0) 1 0 ≠ 2) ∧
    (uSel (BitVec.ofNat 24 (0x0F * 2 ^ 19 + 0x1000)) = 1) ∧ uSel (BitVec.ofNat 24 (0x10 * 2 ^ 19 + 0x7000)) = 7 ∧
    (let s := withSite (mseAt0 (0x11 * 2 ^ 19)) 0x22 1 1; (s.cell 0 0).meas = none ∧ s.ppmuOwns 0 0 = true ∧ s.siteState 0 = .running) ∧
    ((mseAt0 (0x11 * 2 ^ 19)).ppmuOwns 0 0 = false) ∧ uAbsent 4 7 = false ∧ uAbsent 2 1 = false ∧
    (((mseAt0 (0x14 * 2 ^ 19)).modMse 0 fun m => { m with toDsp := List.replicate 16 0 }).mse 0).toDsp.length = 16 ∧
    ((ready0.modMse 0 fun m => { m with state := .wait, waiting := some (.post 5) }).mse 0).waiting = some (.post 5) := by decide +kernel

theorem test_rdmb_empty : landed (exec (.rdmb 0) (mseAt0 (0x1A * 2 ^ 19))) (fun t => (t.mse 0).z && (t.mse 0).gr 0 == 0) = true := by
  decide +kernel

/-- A COMMIT with one staged write. -/
def committing (window : Bool) (a : Nat) : State := (mseAt0 (0x17 * 2 ^ 19)).modMse 0 fun m =>
  { m with staging := [(a, 0)], window := window }

/-- The third cycle of a COMMIT. -/
def commitAt (s : State) : State := let u := mseAt s 0; u.advance (addGrains (u.cycleAt (s.mse 0).dueAt) (2 * u.seqLen : Nat))

theorem witness_mse_staging :
    stageable 0 0x8001 = true ∧ stageable 0 0x0101 = false ∧ ((mseAt0 (0x16 * 2 ^ 19)).mse 0).staging.length < 16 ∧
    (let s := committing false 0x8001; ((commitAt s).commitSet 0).isSome = true ∧ (s.mse 0).window = false ∧
      (s.mse 0).staging ≠ [] ∧ (s.mse 0).deferred = none) ∧
    (let s := committing true 0x8001; ((commitAt s).commitSet 0).isSome = true ∧ (s.mse 0).window = true) ∧
    (let s := committing false 0xFFFF; (commitAt s).commitSet 0 = none) := by decide +kernel

theorem witness_mse_causes :
    ((mseAt0 0).mse 0).state.busy = true ∧ (mseAt0 0).mseDefers 0 1 = false ∧
    (let s := (mseAt0 0).modMse 0 fun m => { m with window := true }
     (s.mse 0).state.busy = true ∧ (s.mse 0).window = true ∧ (s.mse 0).deferred = none) ∧
    (let s := (withSite ready0 0xA0 7 2).modMse 0 fun m => { m with state := .restartPending, restarts := 1 }
     s.restartDue 0 = true ∧ (s.mse 0).restarts < field (s.siteCfg 0 0xA0 7) 3 0) ∧
    (let s := (withSite ready0 0xA0 7 2).modMse 0 fun m => { m with state := .restartPending, restarts := 2 }
     s.restartDue 0 = true ∧ field (s.siteCfg 0 0xA0 7) 3 0 ≤ (s.mse 0).restarts) ∧ ready0.restartDue 0 = false ∧
    (let s := withSite (mseAt0 0) 0xA0 7 0x10000; field (s.siteCfg 0 0xA0 7) 31 16 = 1 ∧ (s.mse 0).state.busy = true ∧
      (s.advance (addGrains (s.mse 0).began (1 * usGrains : Nat))).mseDefers 0 6 = false) ∧
    (let s := (mseAt0 0).modMse 0 fun m => { m with window := true, deferred := some 1 }
     (s.mse 0).state.busy = true ∧ (s.mse 0).window = true ∧ (s.mse 0).deferred = some 1) ∧
    (let s := (withSite (mseAt0 0) 0xA0 7 0x10000).modMse 0 fun m => { m with window := true }
     (s.mse 0).state.busy = true ∧ (s.mse 0).window = true ∧ field (s.siteCfg 0 0xA0 7) 31 16 ≠ 0) ∧
    (ready0.psq 0).state = .idle ∧ ((ready0.modMse 0 fun m => { m with landed := some 5 }).mse 0).landed = some 5 ∧
    (ready0.mse 0).landed = none := by decide +kernel

theorem test_mse_commit : landed (exec (.commit 0) ((mseAt0 (0x17 * 2 ^ 19)).modMse 0 fun m => { m with staging := [(0x8001, 0x10000)] }))
    (fun t => t.siteCfg 0 0x80 1 == 0x10000 && (t.mse 0).window && t.clock == 5120) = true := by decide +kernel
/-! ## The site DSP (chapter 10) -/

/-- Every arithmetic opcode is due in either arithmetic slot, every operation of slot 2 in slot 2. -/
theorem witness_dsp_arith : ∀ op, op < 32 → ∀ k : Fin 2,
    DspDue (dspWord (arithSlot k) (op * 2 ^ 15)) 0 (arithSlot k) (op * 2 ^ 15) op := by
  have h : ∀ op, op < 32 → ∀ k : Fin 2, dspDueNow (dspWord (arithSlot k) (op * 2 ^ 15)) (arithSlot k) (op * 2 ^ 15) op = true := by
    decide +kernel
  exact fun op ho k => dspDue_of (h op ho k)

/-- A word of slot 2 for each opcode: the operands that R222 asks of LOOP (an end offset) and SWR (a register that may be written)
are set; RTI stands in a handler. -/
def slot2Word (op : Nat) : Nat := op * 2 ^ 15 + if op = 0x10 then 5 else if op = 0x19 then 5 else 0

def slot2State (op : Nat) : State := (dspWord 2 (slot2Word op)).modDsp 0 fun d => { d with inHandler := decide (op = 0x0B) }

theorem witness_dsp_slot2 : ∀ op, op < 31 → DspDue (slot2State op) 0 2 (slot2Word op) op := by
  have h : ∀ op, op < 31 → dspDueNow (slot2State op) 2 (slot2Word op) op = true := by decide +kernel
  exact fun op ho => dspDue_of (h op ho)

/-- ADD X1, X1, X2 in slot 0 (Table 10.2: opcode 0x0D in [19:15], rd in [14:9], ra in [8:3]) reaches X1 with the next bundle. -/
def adding : State := (dspWord 0 (0x0D * 2 ^ 15 + 1 * 2 ^ 9 + 2 * 2 ^ 3)).modDsp 0 fun d => (d.physSet 1 5).physSet 2 7

theorem test_dsp_add : landed (exec (.dspAdd 0 0) adding) (fun t => (t.dsp 0).flight.map (fun f => (f.due, f.reg, f.val)) == [(1, 1, 12)]) = true := by
  decide +kernel

/-- Accumulators at the largest 80-bit value: a MAC overflows with and without OVF set before. -/
def macFull (sticky : BitVec 6) : State := (dspWord 0 (0x01 * 2 ^ 15 + 1 * 2 ^ 7 + 1 * 2)).modDsp 0 fun d =>
  { (d.physSet 1 5) with acc := Vector.replicate 4 (BitVec.ofInt 80 (2 ^ 79 - 1)), sticky := sticky }

theorem witness_dsp_overflow : DspDue (macFull 0) 0 0 (0x01 * 2 ^ 15 + 1 * 2 ^ 7 + 1 * 2) 0x01 ∧
    held 80 ((2 ^ 79 - 1) + 25) ≠ (2 ^ 79 - 1) + 25 ∧ held 80 25 = 25 ∧ ((macFull 0).dsp 0).sticky.getLsbD 0 = false ∧
    ((macFull 1).dsp 0).sticky.getLsbD 0 = true ∧ held 32 (2 ^ 40) ≠ 2 ^ 40 ∧
    DspRuns ((dspWord 0 (0x1F * 2 ^ 15 + 100)).dspIssue 0) 0 ∧
    (let d := ((dspWord 0 (0x1F * 2 ^ 15 + 100)).dspIssue 0).dsp 0; d.slotDue = 0 ∧ d.legal = false) :=
  ⟨dspDue_of (by decide +kernel), by decide, by decide, by decide +kernel, by decide +kernel, by decide, dspRuns_of (by decide +kernel),
    by decide +kernel⟩

theorem test_dsp_overflow : landed (exec (.dspMac 0 0) (macFull 0)) (fun t => (t.dsp 0).acc[0].toInt == 2 ^ 79 - 1 &&
    (t.dsp 0).aflags == 1 && (t.gtSlot 1).map (·.kind) == some 0x64) = true := by decide +kernel

theorem witness_dsp_memory :
    ((slot2State 1).dsp 0).ag 0 = Ag.reset ∧ (((slot2State 1).dsp 0).ag 0).p.toNat < 24576 ∧
    inTable ((slot2State 2).tableWords 0) 0 = false ∧
    ¬ ((({ (slot2State 1).dsp 0 with bank := { DspBank.reset with ag := Vector.replicate 4 { Ag.reset with p := 0x6000 } } } : Dsp).ag 0).p.toNat < 24576) ∧
    (let a : Ag := { Ag.reset with p := 12, b := 10, l := 4, m := 1 }
     a.pend = none ∧ a.l ≠ 0 ∧ a.b.toNat ≤ a.p.toNat ∧ a.p.toNat < a.b.toNat + a.l.toNat) ∧
    (let a : Ag := { Ag.reset with p := 14, b := 10, l := 4, m := 1 }; a.b.toNat + a.l.toNat ≤ a.p.toNat) ∧
    (((slot2State 0x11).modDsp 0 fun d => { d with inq := [⟨1, 2, 3, 4⟩] }).dsp 0).inq = [⟨1, 2, 3, 4⟩] := by decide +kernel

/-- R228: the last address of a circular buffer is followed by the first. -/
theorem test_ag_wraps : ({ Ag.reset with p := 13, b := 10, l := 4, m := 1 } : Ag).modified.p = 10 ∧
    ({ Ag.reset with p := 10, b := 10, l := 4, m := 0xFFFF } : Ag).modified.p = 13 := by decide

theorem witness_dsp_ports :
    ((slot2State 0x13).mse 0).fromDsp.length < 16 ∧
    ((((slot2State 0x13).modMse 0 fun m => { m with fromDsp := List.replicate 16 0 }).mse 0).fromDsp.length = 16) ∧
    ((slot2State 0x14).dsp 0).outq.length < 32 ∧
    (let s := (slot2State 0x14).modDsp 0 fun d => { d with outq := List.replicate 32 { stream := .samples, sub := 0, word := 0 } }
     32 ≤ (s.dsp 0).outq.length ∧ bitOf (s.siteCfg 0 0xC0 3) 0 = false ∧ bitOf ((withSite s 0xC0 3 1).siteCfg 0 0xC0 3) 0 = true) ∧
    (let s := ready0.modDsp 0 fun d => { d with outHeld := [{ stream := .samples, sub := 0, word := 0 }] }; let v := s.dspWake 0
     (v.dsp 0).outHeld = [{ stream := .samples, sub := 0, word := 0 }] ∧ (v.dsp 0).outq.length < 32) ∧
    (let s := ready0.modDsp 0 fun d => { d with pubs := vmod d.pubs 0 fun _ => some (0, Vector.replicate 10 7) }
     (s.dsp 0).pubs[0] = some (0, Vector.replicate 10 7) ∧ before s.clock 0 = false ∧ (s.dsp 0).pubs[1] = none) ∧
    kAux (0x15 * 2 ^ 15 + 256 + 9 * 16) / 16 % 16 = 9 ∧ kAux (0x15 * 2 ^ 15 + 256 + 9 * 16) / 256 = 1 ∧
    ((slot2State 0x1C).dsp 0).flight = [] ∧ ((slot2State 0x1C).dsp 0).stopAsked = false := by decide +kernel

theorem witness_dsp_bundle_end :
    (let d := Dsp.reset; d.stopAsked = false ∧ d.branch = none ∧ d.loopEnding = none) ∧
    (let d : Dsp := { Dsp.reset with branch := some (1, 9) }; d.branch = some (1, 9)) ∧
    (let d : Dsp := { Dsp.reset with branch := some (2, 9) }; d.branch = some (2, 9) ∧ d.loopEnding = none) ∧
    (let d : Dsp := { Dsp.reset with bank := { DspBank.reset with lc := vmod DspBank.reset.lc 1 fun _ => { count := 2, first := 0, last := 0, rot := 4, on := true } } }
     d.branch = none ∧ d.loopEnding = some 1 ∧ 1 < d.bank.lc[1].count.toNat) ∧
    (let d : Dsp := { Dsp.reset with flight := [{ due := 1, reg := 5, val := 9 }] }
     d.flight = [{ due := 1, reg := 5, val := 9 }] ∧ d.stopAsked = false ∧ 1 ≤ d.count + 1) ∧
    ({ Dsp.reset with stopAsked := true } : Dsp).stopAsked = true := by decide +kernel

/-- A waiting DSP with the timer source latched. -/
def dspWaiting (ien : BitVec 4) (latched : BitVec 4) : State := ready0.modDsp 0 fun d =>
  { d with state := .wait, waitMask := some 4, ien := ien, latched := latched }

theorem witness_dsp_flow :
    ((slot2State 0x0B).dsp 0).inHandler = true ∧ ((slot2State 0x1B).dsp 0).stopAsked = false ∧
    (let s := dspWaiting 0 4; let d := s.dsp 0; let due := s.dspPending 0 &&& d.waitMask.getD 0
     d.state = .wait ∧ due ≠ 0 ∧ due &&& d.ien = 0) ∧
    (let s := dspWaiting 4 4; let d := s.dsp 0; let due := s.dspPending 0 &&& d.waitMask.getD 0
     d.state = .wait ∧ (due &&& d.ien).getLsbD 2 = true ∧ (∀ j : Fin 4, j < 2 → (due &&& d.ien).getLsbD j.val = false) ∧
       d.inHandler = false ∧ d.branch = none) ∧
    (let s := dspWaiting 4 0; let d := s.dsp 0; d.state = .wait ∧ s.dspPending 0 &&& d.waitMask.getD 0 = 0) ∧
    (let s := (dspWaiting 8 8).modDsp 0 fun d => { d with state := .run }; let u := s.dspIssue 0; let d := u.dsp 0
     d.state = .run ∧ d.slots = 0 ∧ d.branch = none ∧ d.inHandler = false ∧ d.oneFirst = false ∧ d.outHeld = [] ∧
       (u.dspPending 0 &&& d.ien).getLsbD 3 = true ∧ (∀ j : Fin 4, j < 3 → (u.dspPending 0 &&& d.ien).getLsbD j.val = false)) ∧
    (ready0.dspPending 0 &&& (ready0.dsp 0).ien = 0) ∧ ((ready0.modDsp 0 fun d => { d with tper := 5 }).dsp 0).tper ≠ 0 ∧
    (∃ x, (ready0.modDsp 0 fun d => { d with crcFrom := some 5 }).dspCrcEnd 0 = some (x, false)) ∧
    (∃ x, (ready0.modDsp 0 fun d => { d with tableFrom := some 5 }).dspCrcEnd 0 = some (x, true)) ∧
    (ready0.dsp 0).crcFrom = none ∧ (ready0.dsp 0).tableFrom = none ∧ (ready0.dsp 0).tper = 0 := by
  refine ⟨by decide +kernel, by decide +kernel, by decide +kernel, by decide +kernel, by decide +kernel, by decide +kernel,
    by decide +kernel, by decide +kernel, ⟨_, rfl⟩, ⟨_, rfl⟩, by decide +kernel⟩

theorem test_dsp_interrupt : landed (exec (.dspInterruptEntry 0) ((dspWaiting 8 8).modDsp 0 fun d => { d with state := .run, pc := 77 }))
    (fun t => (t.dsp 0).pc == 32 && (t.dsp 0).epc == 77 && (t.dsp 0).latched == 0) = true := by decide +kernel
/-! ## Stamps, records, triggers, streams (chapters 11, 12) -/

/-- A captured rising edge. -/
def edge0 : Capture := { coarse := 12800, fine := 100, fall := false, n := Vector.replicate 2 0, steps := 0, stepN := 0 }

/-- `ready0` with the stamp side of cell 7 of site 0 changed, and EDGES of the cell set. -/
def stamp7 (edges : Nat) (f : CellTdc → CellTdc) : State := (withSite ready0 0xE0 8 edges).modTdcCell 0 7 f

/-- A queue word. -/
def qw : QueueWord := { word := 1, epoch := 0 }

theorem witness_stamps :
    (State.reset.special.levels.getLsbD 3 = false ∧ State.reset.special.start = none ∧ State.reset.special.caps[3] = none ∧
      ready0.capturing 0 = true ∧ bitOf ((withSite ready0 0xE0 9 8).tdcCfg 0 9) 3 = true) ∧
    ({ ready0 with special := { ready0.special with levels := 8 } } : State).special.levels.getLsbD 3 = true ∧
    (∀ k : Fin 4, ((ready0.site 0).tdc.ints[k.val]).state = .idle) ∧ (∀ f : Fin 2, ((ready0.site 0).tdc.freqs[f.val]).armed = false) ∧
    (let q := ((stamp7 1 fun q => { q with capHi := some edge0 }).site 0).tdc.cells[7]
     q.reg true = some edge0 ∧ q.reg (!true) = none ∧ q.queue.length < 64) ∧
    (stamp7 1 id).queueSelects 0 7 true false 12900 = true ∧ (stamp7 0 id).queueSelects 0 7 true false 12900 = false ∧
    (let q := ((stamp7 1 fun q => { q with capHi := some edge0, queue := List.replicate 64 qw }).site 0).tdc.cells[7]; 64 ≤ q.queue.length) ∧
    (let q := ((stamp7 1 fun q => { q with capHi := some edge0, capLo := some edge0 }).site 0).tdc.cells[7]
     q.capHi = some edge0 ∧ q.capLo = some edge0) ∧
    (let q := ((stamp7 1 fun q => { q with loss := 9, queue := List.replicate 62 qw }).site 0).tdc.cells[7]; q.loss ≠ 0 ∧ q.queue.length ≤ 62) ∧
    62 < ((stamp7 1 fun q => { q with loss := 9, queue := List.replicate 63 qw }).site 0).tdc.cells[7].queue.length := by decide +kernel

/-- R250: the LOSS word of cell 7 with 9 losses is 0x87 in the top byte, OVF, and the count. -/
theorem test_loss_word : landed (exec (.lossWordStore 0 7) (stamp7 1 fun q => { q with loss := 9 }))
    (fun t => ((t.site 0).tdc.cells[7]).queue.map (·.word) == [0x8740000000000009]) = true := by decide +kernel

/-- Two stamps, 2 grains apart in 1/256 grain. -/
def seen1 : Seen := { sel := 5, t := 1000, est := false, steps := 0, stepN := 0 }
def seen2 : Seen := { sel := 6, t := 1512, est := true, steps := 0, stepN := 0 }

theorem witness_tdc_records :
    (let s := (withSite ready0 0xE1 4 (5 + 6 * 64)).modInt 0 3 fun c => { c with state := .started seen1 }
     ((s.site 0).tdc.ints[3]).state = .started seen1 ∧ seen2.sel = field (s.intCfg 0 3) 11 6 ∧ 0 < fineSpan seen1.now seen2.now ∧
       256 ≤ fineSpan seen1.now seen2.now ∧ bitOf (s.intCfg 0 3) 13 = false) ∧
    bitOf ((withSite ready0 0xE1 4 0x2000).intCfg 0 3) 13 = true ∧
    (∀ a, ((ready0.site 0).tdc.ints[3]).state ≠ .started a) ∧
    ready0.special.start = none ∧ ({ ready0.special with start := some 5 } : SpecialTdc).start.isSome = true ∧
    ready0.tdcOn 0 = true ∧ (((ready0.modFreq 0 1 fun f => { f with armed := true }).site 0).tdc.freqs[1]).armed = true ∧ State.reset.tdcOn 0 = false ∧
    (((ready0.modTdc 0 fun t => { t with run := .running }).site 0).tdc.run = .running ∧ (ready0.siteCal 0).swept = false) ∧
    (ready0.site 0).tdc.run ≠ .running ∧ bitOf ((withSite ready0 0xE8 2 0x80).tdcMask 0) 7 = true := by
  refine ⟨by decide +kernel, by decide +kernel, ?_, by decide +kernel, by decide +kernel, by decide +kernel, by decide +kernel,
    by decide +kernel, by decide +kernel⟩
  intro a h
  rw [show ((ready0.site 0).tdc.ints[3]).state = .idle from by decide +kernel] at h
  cases h

/-- Hits of a sound run: 1,048,576 in each half, none above 13,107 in a bin. -/
def soundHits : Hits := ((1075 :: List.replicate 1279 819), (1075 :: List.replicate 1279 819))

theorem witness_hits : Hits.failure soundHits false 0 = 0 ∧ Hits.failure ([], []) false 0 ≠ 0 := by decide +kernel

/-- `reset` with unit 2 of region 1 enabled for its first site, its slot 0 on TRIG_IN0 (SEL 416) at level high; TRIG_IN0 is high,
and rose at some instants. -/
def unitOn (rises : List Time) (f : MatchUnit → MatchUnit) : State :=
  let s := (((((State.reset.setVal (regionAddr 1 0x11 3) (2 ^ 35 + 2 ^ 32 + 2 ^ 16 + 10)).setVal (regionAddr 1 0x10 1) 416).setVal
    (regionAddr 1 0x12 5) 1).setVal (regionAddr 1 0x13 5) 1).modUnit 1 2 f)
  { s with special := { s.special with levels := 1, changes := rises.map fun t => (0, t, false) } }

/-- Whether the match rises at plane sample 100: the plane shows TRIG_IN0 as it was 6,400 grains before, at 121,600. -/
def risesAt100 (s : State) : Bool := let e := s.patEdge 100; (s.advance (addGrains e 1280)).matchRises 1 e 2

theorem witness_triggers :
    (let s := unitOn [121600] id; let m := (s.region 1).units[2]
     s.fastClocks = true ∧ bitOf (s.unitCfg 1 2) 35 = true ∧
       risesAt100 s = true ∧ m.holdoff = none ∧ s.regionHeld 1 = false ∧ bitOf (s.unitCfg 1 2) 32 = true) ∧
    risesAt100 (unitOn [120321] id) = true ∧ risesAt100 (unitOn [120320] id) = false ∧ risesAt100 (unitOn [121601] id) = false ∧
    (let s := unitOn [121600] fun m => { m with holdoff := some 121600 }; let e := s.patEdge 100
     risesAt100 s = true ∧ ((s.region 1).units[2]).holdoff = some 121600 ∧ elapsed (s.holdoffEnd 1 2 121600) e 0 = false) ∧
    (State.reset.modPll fun p => { p with economy := true }).fastClocks = false := by decide +kernel

/-- R267: T_D is the plane sample less 6,400 grains. -/
theorem test_trigger : landed (exec (.triggerFire 1 2 50 false []) (unitOn [121600] id))
    (fun t => ((t.region 1).units[2]).fires == 1 && ((t.region 1).units[2]).tLast == 121600 && (t.site 16).stream.rtrig) = true := by
  decide +kernel

/-- A TRIG packet for channel 3 with T_D = `td` in the receive buffer. -/
def trigIn (td : Nat) (mask : Nat) : State :=
  let pk := packet (headerOf 0xFFFF 2 5 0 0 2 0) [BitVec.ofNat 64 td, 3]
  withCfg { State.reset with furlong := { State.reset.furlong with inbox := [{ port := 0, packet := pk, time := 0, credit := true }] } } 0x2A00 5 mask

/-- What TRIG_PACKET_RX finds. -/
def trigMeets (s : State) (f : State → Fin 8 → Int → Bool) : Bool :=
  match s.takeInbox (fun p => p.packet.type == 5) with
  | some (p, x) => f x (Fin.ofNat 8 (p.word 1))
      (span x.clock (addGrains (timeOf64 x.clock (BitVec.ofNat 64 (p.word 0))) (x.cfg 0x2203 1 * 512 : Nat)))
  | none => false

theorem witness_chain_triggers :
    trigMeets (trigIn 90000 8) (fun x c d => bitOf (x.cfg 0x2A00 5) c.val && decide (5120 ≤ d)) = true ∧
    trigMeets (withCfg (trigIn 0 8) 0x2203 1 0) (fun x c d => bitOf (x.cfg 0x2A00 5) c.val && decide (d < 5120)) = true ∧
    trigMeets (trigIn 0 0) (fun x c _ => !bitOf (x.cfg 0x2A00 5) c.val) = true ∧
    (let s : State := { State.reset with chipTrig := { State.reset.chipTrig with chain := [(3, 9000), (4, 8000)] } }
     ((4 : Fin 8), (8000 : Time)) ∈ s.chipTrig.chain ∧ s.gtForced .chip = false ∧ ∀ x ∈ s.chipTrig.chain, x ≠ (4, 8000) → before 8000 x.2 = true) ∧
    State.reset.chipTrig.chain = [] := by
  refine ⟨by decide +kernel, by decide +kernel, by decide +kernel, ⟨by decide +kernel, by decide +kernel, ?_⟩, by decide +kernel⟩
  intro x hx hne
  change x ∈ [((3 : Fin 8), (9000 : Time)), (4, 8000)] at hx
  rcases List.mem_cons.mp hx with rfl | hx
  · decide +kernel
  · exact absurd (List.mem_singleton.mp hx) hne

/-- `ready0` with the Bushel of site 0 changed, streams enabled. -/
def bushel (f : Bushel → Bushel) : State := (withSite ready0 0xE4 1 0x1F).modBushel 0 f

theorem witness_bushel :
    (let b : Bushel := { Bushel.reset with state := .armed, hist := [(0, 0)] }; b.state = .armed ∧ b.hist ≠ []) ∧
    (let b : Bushel := { Bushel.reset with state := .capturing, tTrig := 5 }; b.state = .capturing ∧ b.tTrig ≠ 6 ∧ b.tTrig = 5) ∧
    (((bushel fun b => { b with state := .capturing, hist := [(0, 0)] }).site 0).stream.bushel.state = .capturing) ∧
    ((((bushel fun b => { b with state := .dumping }).site 0).stream.bushel.state = .dumping) ∧
      ((bushel fun b => { b with state := .dumping }).site 0).stream.bushel.image = []) ∧
    (ready0.site 0).stream.bushel.state ≠ .capturing := by decide +kernel

/-- Requesters of the stream writer at the first and the last position. -/
theorem witness_streams :
    (let k : Mark := { kind := 1, seqB1 := 0, seqB0 := 0, vec := 0, time := 0, arg := 0 }
     let s := ((bushel id).modStream 0 fun m => { m with marks := [k] }).dspWake 0
     (s.site 0).stream.fifo.length < 2048 ∧ s.fastClocks = true ∧
       starveWinner (s.site 0).stream.starve.counts.toList (s.streamReqs 0) = some 0 ∧ (s.site 0).stream.marks = [k]) ∧
    (let s := (bushel fun b => { b with state := .dumping, image := [5] }).dspWake 0
     starveWinner (s.site 0).stream.starve.counts.toList (s.streamReqs 0) = some 10) ∧
    (let s := (stamp7 1 fun q => { q with queue := [qw] }).dspWake 0; starveWinner (s.site 0).stream.starve.counts.toList (s.streamReqs 0) = some 9) ∧
    (let s := (ready0.modDsp 0 fun d => { d with outq := [{ stream := .results, sub := 0, word := 5 }] }).dspWake 0
     starveWinner (s.site 0).stream.starve.counts.toList (s.streamReqs 0) = some 1) ∧
    (let s := ready0.dspWake 0; starveWinner (s.site 0).stream.starve.counts.toList (s.streamReqs 0) = none ∧ (s.site 0).stream.fifo.length < 2048) ∧
    (let s := (bushel id).modStream 0 fun m => { m with lossPending := 4 }
     (s.site 0).stream.lossPending ≠ 0 ∧ (s.site 0).stream.marks.length ≤ 30 ∧ bitOf (s.siteCfg 0 0xE4 1) 2 = true) := by decide +kernel
/-! ## Calibration, thermal management, faults (chapters 17, 18, 19) -/

/-- `s` with procedure `k` + 1 pending in site 0. -/
def pend (s : State) (k : Nat) : State := s.modCal 0 fun c => { c with pending := BitVec.ofNat 4 (2 ^ k) }

/-- A CAL_PERMIT vector is due in site 0 with procedure PIN_DC pending, or not. -/
def permit (k : Option Nat) : State := match k with
  | some k => pend (psqAt 0 (vec 0xB 0 0)) k
  | none => psqAt 0 (vec 0xB 0 0)

/-- `ready0` with a group due now whose entry starts the PSQ. -/
def starting : State := ready0.modGroup 1 fun g => { g with state := .scheduled, due := some (.at 0), entries := [(siteAddr 0 0x60 1, 1)] }

theorem witness_cal_permit : Due (permit (some 2)) 0 0x0B ∧ Clean (permit (some 2)) 0 ⟨0, 0, 0⟩ true false ∧
    (ran (permit (some 2)) 0 ⟨0, 0, 0⟩ true false).calReady 0 = some 3 ∧ (ran (permit (some 2)) 0 ⟨0, 0, 0⟩ true false).mseShut 0 = false ∧
    (ran (permit (some 2)) 0 ⟨0, 0, 0⟩ true false).startDue 0 = false ∧ field ((permit (some 2)).gtCfg 0x13) 2 0 ≤ 1 ∧
    Due (permit none) 0 0x0B ∧ Clean (permit none) 0 ⟨0, 0, 0⟩ true false ∧ (ran (permit none) 0 ⟨0, 0, 0⟩ true false).calReady 0 = none :=
  ⟨due_of (by decide +kernel), clean_of (by decide +kernel), by decide +kernel, by decide +kernel, by decide +kernel,
    by decide +kernel, due_of (by decide +kernel), clean_of (by decide +kernel), by decide +kernel⟩

/-- `reset` with a sweep of site 0 in a phase and at a turn. -/
def sweeping (phase units : Nat) (proc : Nat) : State :=
  { (ready0.modCal 0 fun c => { c with swept := true, proc := proc }) with
    cal := { (ready0.modCal 0 fun c => { c with swept := true, proc := proc }).cal with
      sweep := { phase := phase, units := units, counter := 0, reserved := 0 } } }

theorem witness_calibration_entry :
    (let s := pend ready0 3; s.idleMoment 0 = true ∧ s.startDue 0 = false ∧ s.calReady 0 = some 4 ∧ s.calRoom 0 4 = true ∧
      field (s.gtCfg 0x13) 2 0 ≤ 1) ∧
    ready0.calReady 0 = none ∧ State.reset.idleMoment 0 = false ∧ starting.startDue 0 = true ∧
    ((pend ready0 0).calOldest 0 = some 0 ∧ ((pend ready0 0).siteCal 0).stale = false) ∧ ready0.calOldest 0 = none ∧
    (sweeping 0 0 0).cal.sweep.phase = 0 ∧ (sweeping 1 0 1).sweepBusy = true ∧
    (let s := sweeping 1 (sweepTurns 1) 0; s.sweepBusy = false ∧ (s.siteCal 0).swept = true ∧ sweepTurns 1 ≤ s.cal.sweep.units ∧ s.sweepRoom 2 = true) ∧
    (let s := sweeping 3 3 0; s.sweepBusy = false ∧ s.cal.sweep.units < sweepTurns 3) ∧
    (let s := sweeping 4 (sweepTurns 4) 0; 4 ≤ s.cal.sweep.phase ∧ s.sweepBusy = false ∧ sweepTurns s.cal.sweep.phase ≤ s.cal.sweep.units) ∧
    (let s := sweeping 3 (sweepTurns 3) 0; s.cal.sweep.phase < 4 ∧ sweepTurns s.cal.sweep.phase ≤ s.cal.sweep.units ∧
      s.sweepRoom 4 = true) := by decide +kernel

/-- A site outside the sweep runs PIN_DC in its region. -/
theorem witness_sweep_waits : let s := (sweeping 2 (sweepTurns 2) 0).modCal 5 fun c => { c with proc := 3 }
    s.cal.sweep.phase < 4 ∧ sweepTurns s.cal.sweep.phase ≤ s.cal.sweep.units ∧ s.sweepRoom 3 = false := by decide +kernel

/-- Site 0 in CAL with procedure `p` at a step. -/
def calibrating (p step : Nat) (f : SiteCal → SiteCal) : State :=
  ((inState State.reset .cal).modCtl 0 fun c => { c with calFrom := .ready }).modCal 0 fun c => f { c with proc := p, running := p, step := step }

theorem witness_cal_steps :
    (let s := calibrating 1 0 id; s.siteState 0 = .cal ∧ (s.siteCal 0).proc ≠ 0 ∧ (s.siteCal 0).swept = false ∧
      (∀ g ∈ s.calCodes 0 [5], calBeyond ((calSteps 1).getD 0 []) g = false) ∧ (s.siteCal 0).step + 1 < (calSteps 1).length ∧
      before (s.calTimeout 0) s.clock = false) ∧
    (let s := { calibrating 1 0 id with clock := 4 * 400 * 512000 }; before (s.calTimeout 0) s.clock = false) ∧
    (let s := { calibrating 1 0 id with clock := 4 * 400 * 512000 + 1 }; before (s.calTimeout 0) s.clock = true) ∧
    (let s := calibrating 3 ((calSteps 3).length - 1) id; (s.siteCal 0).step + 1 = (calSteps 3).length ∧ sparseWf initial s.dict = true) ∧
    (let s := calibrating 3 0 id; ∃ g ∈ s.calCodes 0 [200], calBeyond ((calSteps 3).getD 0 []) g = true) ∧
    (let s := calibrating 1 0 fun c => { c with repeat_ := true }; (s.siteCal 0).repeat_ = true ∧ (s.siteCal 0).second = false) ∧
    (let s := calibrating 3 0 fun c => { c with repeat_ := true, second := true, firstRun := [100] }; let got := s.calCodes 0 [1]
     (s.siteCal 0).second = true ∧ ∃ k ∈ List.range 1, k < (s.siteCal 0).firstRun.length ∧ k < got.length ∧
       s.cfg 0x2603 1 < ((s.siteCal 0).firstRun.getD k 0 - (got.getD k (0, 0, 0)).2.2).natAbs) ∧
    ((calibrating 1 0 id).psq 0).state ≠ .calHold ∧ ((calibrating 1 0 id).site 0).ctl.calFrom = .ready ∧
    (let s := ((calibrating 1 0 id).modCtl 0 fun c => { c with calFrom := .running }).modPsq 0 fun p => { p with state := .calHold }
     (s.psq 0).state = .calHold ∧ (s.site 0).ctl.calFrom = .running ∧ (s.psq 0).resume = none ∧ (s.siteCal 0).proc ≠ 0 ∧ (s.siteCal 0).swept = false) := by
  decide +kernel

theorem test_cal_timeout : landed (exec (.calStepTimeout 0) (calibrating 1 0 id))
    (fun t => t.siteState 0 == .ready && (t.siteCal 0).failed == 1 && (t.siteCal 0).cause == 1 && (t.gtSlot 1).map (·.kind) == some 0xB1) = true := by
  decide +kernel

/-- `ready0` with the thermal state of site 0 changed. -/
def hot0 (f : SiteThermal → SiteThermal) : State := ready0.modThermal 0 f

/-- A sensor with a used reading. -/
def reads (k : BitVec 12) : Sensor := { Sensor.reset with used := some k, code := k }

/-- ThermalAndPower: readings below, at and above the thresholds of a site. -/
theorem witness_thermal :
    (ready0.coreUp = true ∧ ready0.siteState 0 ≠ .off ∧ ready0.siteState 0 = .ready ∧ (ready0.site 0).ctl.trans = none ∧
      ((ready0.siteThermal 0).sensors[3]).suspect = false ∧ (ready0.siteThermal 0).latched = false) ∧
    (let k : BitVec 12 := BitVec.ofNat 12 (ready0.thSet 3); k ≠ 0 ∧ k ≠ 4095 ∧ ready0.suspicious 0 3 k.toNat = false ∧ ready0.thSet 3 ≤ k.toNat) ∧
    (let s := hot0 fun t => { t with latched := true, acked := true }; let k : BitVec 12 := BitVec.ofNat 12 (s.thRel 3)
     k.toNat < s.thSet 3 ∧ (s.siteThermal 0).latched = true ∧ (s.siteThermal 0).acked = true ∧ (s.readCell 0 3 k).shutCool 0 = true) ∧
    (let s := hot0 fun t => { t with latched := true }; let k : BitVec 12 := BitVec.ofNat 12 (s.thSet 3 - 1)
     k.toNat < s.thSet 3 ∧ (s.siteThermal 0).acked = false ∧ (s.readCell 0 3 k).shutCool 0 = false) ∧
    (let k : BitVec 12 := BitVec.ofNat 12 (ready0.thSet 2); (ready0.readCell 0 3 k).governing 0 = some (ready0.thSet 2) ∧
      ready0.thSet 1 ≤ ready0.thSet 2 ∧ (ready0.siteThermal 0).downFrom = none) ∧
    (let s := hot0 fun t => { t with sensors := vmod t.sensors 3 fun _ => reads 3000, warn := true, thr := true }; let k : BitVec 12 := BitVec.ofNat 12 (s.thRel 1)
     (s.readCell 0 3 k).governing 0 = some (s.thRel 1) ∧ ((s.siteThermal 0).sensors[3]).used ≠ none ∧ s.thRel 1 < s.thSet 1 ∧
       s.thRel 1 ≤ s.thRel 2 ∧ s.thRel 1 < s.thSet 2 ∧ (s.siteThermal 0).ssFail = 0) := by decide +kernel

theorem witness_thermal_chip :
    (let k : BitVec 12 := BitVec.ofNat 12 (ready0.thSet 4); k ≠ 0 ∧ k ≠ 4095 ∧ k.toNat < ready0.thRel 4 ∧ ready0.thermal.chipShut = false ∧
      ready0.regionSS 0 = []) ∧
    (let k : BitVec 12 := BitVec.ofNat 12 (ready0.thRel 4); k ≠ 0 ∧ k ≠ 4095 ∧ ready0.thRel 4 ≤ k.toNat) ∧
    (let s : State := { State.reset with rst := { State.reset.rst with phase := .inReset } }; s.coreUp = false ∧ s.rst.phase = .inReset) ∧
    (let s := hot0 fun t => { t with downFrom := some 5, ssFail := 1 }; (s.siteThermal 0).downFrom = some 5 ∧ s.thermalHigh 0 = true) ∧
    ready0.thermalHigh 0 = false ∧ ((hot0 fun t => { t with upFrom := some 5 }).siteThermal 0).upFrom = some 5 ∧
    field (ready0.gtCfg 0x0E) 2 0 ≤ 1 ∧ ({ ready0 with thermal := { ready0.thermal with lowSince := some 5 } } : State).thermal.lowSince = some 5 := by
  decide +kernel

theorem test_thermal_shutdown : landed (exec (.sensorReading 0 3 (BitVec.ofNat 12 (ready0.thSet 3))) ready0)
    (fun t => t.siteState 0 == .safe && (t.siteThermal 0).latched && (t.site 0).ctl.cause == .thermal) = true := by decide +kernel

theorem test_thermal_reset : landed (exec (.sensorReading 0 5 (BitVec.ofNat 12 (ready0.thRel 4))) ready0)
    (fun t => t.rst.phase == .inReset && t.rst.cause == 6) = true := by decide +kernel

/-- `ready0` without escalation in the classes of kinds 0x20 and 0x83. -/
def calmClasses : State := withCfg (withCfg ready0 0x2403 (gtClass 0x20) 0x12) 0x2403 (gtClass 0x83) 0x11

/-- A record of its own for PIN_OVERLOAD of cell 7. -/
def overloaded : State := calmClasses.present (.ofCell 0 7) 0x20 5 0

/-- `ready0` with unit B0 of site 0 connected. -/
def excited : State := ready0.modBridge 0 0 fun b => { b with connected := true }

/-- A unit that a force opens is no longer supervised: its record is gone (chapter 18, step 3 of the example). -/
theorem test_supervision_ends : landed (exec (.supervisionQualify 0 0 (.compliance 5)) excited)
    (fun t => (t.gtSlot 1).any (fun r => r.kind == 0x40 && r.gone && r.applied == 2) && t.siteState 0 == .safe &&
      !(t.bridge 0 0).connected) = true := by decide +kernel

/-- The state of `test_supervision_ends` with the unit connected again. -/
def returned : State := match exec (.supervisionQualify 0 0 (.compliance 5)) excited with
  | .next t => t.modBridge 0 0 fun b => { b with connected := true }
  | _ => excited

/-- A condition that returns to a gone record is a new presentation with its flag still set (R388); step 5 of the example. -/
theorem test_condition_returns : landed (exec (.supervisionQualify 0 0 (.compliance 5)) returned)
    (fun t => (t.gtSlot 1).any (fun r => r.count == 2 && r.applied == 3 && r.reached == [.site 0, .region 0])) = true := by
  decide +kernel

theorem witness_supervision : returned.standsGone (.ofCell 0 0) 0x40 = true ∧ (returned.bridge 0 0).connected = true ∧
    (returned.gtRecords.filter fun r => !r.gone && !returned.supervised r) = [] ∧ ready0.gtRecords = [] := by decide +kernel

/-- Every slot taken. -/
def slotsFull : State := { calmClasses with gauntlet := { calmClasses.gauntlet with slots := Vector.replicate 63 (overloaded.gtSlot 1) } }

theorem witness_faults :
    ((Origin.ofSite 0).level = .site ∧ (inState State.reset .off).siteState (Origin.ofSite 0).siteOf = .off) ∧
    (Origin.ofChip.level ≠ .cell ∧ Origin.ofChip.level ≠ .site ∧ bitOf (calmClasses.gtCfg (gtClass 0x83)) 3 = false ∧
      calmClasses.gtFind .ofChip 0x83 = none ∧ calmClasses.gtFree = some 1) ∧
    (calmClasses.siteState (Origin.ofCell 0 7).siteOf = .ready ∧ bitOf (calmClasses.gtCfg (gtClass 0x20)) 3 = false ∧
      overloaded.gtFind (.ofCell 0 7) 0x20 = some 1 ∧ (overloaded.gtSlot 1).isSome = true ∧
      (overloaded.gtSlot 1).map (·.acked) = some false ∧ (overloaded.gtSlot 1).map (·.gone) = some false) ∧
    ((({ overloaded with clock := 7680 } : State).gtAck 1).gtSlot 1).map (·.acked) = some true ∧
    ((({ overloaded with clock := 7679 } : State).gtAck 1).gtSlot 1).map (·.acked) = some false ∧
    (slotsFull.gtFree = none ∧ slotsFull.gauntlet.overflow = none ∧ slotsFull.gtFind .ofChip 0x83 = none) ∧
    ready0.mayRecover .chip = false := by decide +kernel

/-- A record that is gone, of a class that recovers by itself, holding the site. -/
def recovering : State :=
  (withCfg overloaded 0x2406 1 3).gtSet 1 ((overloaded.gtSlot 1).map fun r => { r with gone := true, scopes := [.site 0] })

theorem witness_recovery : recovering.mayRecover (.site 0) = true := by decide +kernel

theorem test_quiet_period : landed (exec (.quietPeriodExpiry 0) recovering)
    (fun t => !t.gtForced (.site 0) && (vgetN t.gauntlet.recovery 0 { count := 0, latched := true }).count == 1) = true := by decide +kernel

theorem test_fault_record : (overloaded.gtSlot 1).any (fun r => r.kind == 0x20 && r.detail == 5 && r.count == 1 && r.applied == 2 &&
    r.scopes == [.site 0] && r.rseq == 1) = true := by decide +kernel

/-- FaultRecords: where each condition of the command stands, and a record whose acknowledgement comes in time. -/
theorem witness_conditions :
    ({ ready0 with can := { ready0.can with bus := .errorPassive } } : State).can.bus = .errorPassive ∧
    (let s : State := { ready0 with can := { ready0.can with bus := .silent, tec := 128 } }
     s.can.bus = .silent ∧ 128 ≤ max s.can.tec s.can.recv) ∧
    (ready0.can.bus ≠ .errorPassive ∧ ready0.can.bus ≠ .silent) ∧
    ({ ready0 with rst := { ready0.rst with supplyFault := some 3 } } : State).rst.supplyFault.isSome = true ∧
    ready0.rst.supplyFault = none ∧ (ready0.psq 0).state ≠ .underrun ∧
    ((ready0.modPsq 0 fun p => { p with state := .underrun }).psq 0).state = .underrun ∧
    ((overloaded.gtSlot 1).map fun r => overloaded.cyclesPast r.heard 3) = some false ∧
    (let s : State := { overloaded with clock := 7680 }; ((s.gtSlot 1).map fun r => s.cyclesPast r.heard 3) = some true) := by
  decide +kernel
/-! ## Furlong, CAN FD, the SPI ports (chapters 14, 15, 16) -/

/-- `reset` with port `p` changed. -/
def port (p : Fin 2) (f : Port → Port) : State := State.reset.modPort p f

/-- `s` with Furlong changed. -/
def furlong (s : State) (f : Furlong → Furlong) : State := { s with furlong := f s.furlong }

theorem witness_link :
    (({ State.reset with rst := { State.reset.rst with phase := .inReset } } : State).rst.cause ≤ 2 ∧ State.reset.rst.phase ≠ .inReset ∧
      (State.reset.port 1).state = .down) ∧
    (let q := (port 1 fun q => { q with state := .training, aligned := #v[false, true, true, false], locked := #v[true, true, true, false] }).port 1
     q.state = .training ∧ q.widthOf = 0 ∧ q.samples.length < 64) ∧
    (let q := (port 1 fun q => { q with state := .training, aligned := Vector.replicate 4 true, locked := Vector.replicate 4 true, samples := List.replicate 64 9 }).port 1
     median2 q.samples = some 18 ∧ q.state = .training ∧ q.widthOf ≠ 0 ∧ q.samples.length = 64) ∧
    (before (addGrains (0 : Time) 25600000) 25600000 = false ∧ before (addGrains (0 : Time) 25600000) 25600001 = true) ∧
    ((port 1 fun q => { q with state := .active }).port 1).state = .active ∧ ((port 1 fun q => { q with ackOwed := true }).port 1).ackOwed = true := by
  decide +kernel

/-- A port with one unacknowledged packet, and repeats in a row behind it. -/
def replaying (row : Nat) : State := port 1 fun q =>
  { q with state := .active, replay := [(5, packet 0 [])], replayRow := row, replaySeq := 5 }

theorem witness_replay :
    (((replaying 6).port 1).carries = true ∧ (((replaying 6).port 1).replay.filter fun e => decide ((e.1 - 5).toNat < 0x8000)) ≠ [] ∧
      ((replaying 6).port 1).replayRow + 1 < 8 ∧ ((replaying 6).port 1).replaySeq = 5) ∧
    8 ≤ ((replaying 7).port 1).replayRow + 1 ∧ ((replaying 0).port 0).carries = false := by decide +kernel

/-- Table 14.1: lanes 2 and 3 alone give a width of 2; the first width sends a PING. -/
theorem test_width : landed (exec (.laneAlignBlock 1 3) (port 1 fun q =>
    { q with state := .training, aligned := #v[false, true, true, false], locked := #v[true, true, true, false] }))
    (fun t => (t.port 1).widthOf == 2 && (t.port 1).out.length == 1) = true := by decide +kernel

theorem test_ring_break : landed (exec (.portDown 0) (withCfg (furlong (port 0 fun q => { q with state := .active }) fun f => { f with addr := 2 }) 0x2200 1 1))
    (fun t => t.furlong.topo == .reversed && t.furlong.hostPort == 1 && (t.port 0).linkDowns == 1) = true := by decide +kernel

theorem witness_break : (let s := withCfg (furlong (port 0 fun q => { q with state := .active }) fun f => { f with addr := 2 }) 0x2200 1 1
    s.furlong.addr ≠ 0 ∧ s.ringMode = true ∧ (0 : Fin 2) = s.furlong.enumPort ∧ s.furlong.lostHi = false) ∧
    (withCfg State.reset 0x2200 1 0).ringMode = false := by decide +kernel

/-- A chip with address 2 whose ports carry packets. -/
def linked : State := furlong ((port 0 fun q => { q with state := .active }).modPort 1 fun q => { q with state := .active }) fun f =>
  { f with addr := 2, reachLo := 1, reachHi := 9 }

/-- A SYNC packet for chip `dest`. -/
def syncTo (dest : Nat) : Packet := packet (headerOf dest 1 4 0 0 1 0) [0x500000000]

theorem witness_enum : State.reset.furlong.addr = 0 ∧ (linked.furlong.addr ≠ 0 ∧ bitOf (linked.cfg 0x2200 1) 1 = false) ∧
    bitOf ((withCfg linked 0x2200 1 2).cfg 0x2200 1) 1 = true ∧ (State.reset.port 1).state = .down ∧
    ((linked.port 1).state ≠ .down ∧ (linked.port 1).state ≠ .training) := by decide +kernel

/-- Packets: a port that carries none; a stomped one; a damaged one; one out of order; one for this chip, of a served type and of
another; one to pass on; one that would go back. -/
theorem witness_packets :
    (State.reset.port 0).carries = false ∧ (linked.port 0).carries = true ∧ (1#64 <<< 63).getLsbD 63 = true ∧
    packetCrc (syncTo 2).h0 (syncTo 2).payload ≠ (0#64).setWidth 32 ∧ (linked.port 0).waitReplay = false ∧
    ((linked.modPort 0 fun q => { q with waitReplay := true }).port 0).waitReplay = true ∧ (1 : BitVec 16) ≠ (linked.port 0).rxSeq ∧
    (∀ d ∈ [2, 5, 1], let pk := syncTo d; let tr := (packetCrc pk.h0 pk.payload).setWidth 64
      tr.getLsbD 63 = false ∧ packetCrc pk.h0 pk.payload = tr.setWidth 32 ∧ pk.payload.length = pk.length ∧ (linked.port 0).rxSeq = 0 ∧
      (linked.port 0).rxUnacked + pk.words < 256 ∧ pk.stomp = false ∧ pk.length ≠ 0) ∧
    ((syncTo 2).dest = linked.furlong.addr.toNat ∧ linked.furlong.addr ≠ 0 ∧ linked.dictUp = true ∧ (syncTo 2).type ∈ [2, 3, 4, 5] ∧
      (syncTo 2).served = true ∧ (syncTo 2).rev = false) ∧
    (packet (headerOf 2 1 7 0 0 1 0) [0]).type ∈ [0, 1, 6, 7] ∧ linked.egressOf 5 = 1 ∧ (linked.port 1).carries = true ∧ linked.egressOf 1 = 0 := by
  decide +kernel

/-- A packet waits at port 1, or a site has words for it. -/
def sending : State := linked.modPort 1 fun q => { q with txWait := [{ through := true, packet := packet (headerOf 5 1 2 0 0 1 0) [0], held := none, stamp := 0 }] }

theorem witness_ring_slot : (linked.port 1).carries = true ∧ linked.ringPick 1 = none ∧ sending.ringPick 1 = some (.waiting 0) ∧
    ((sending.port 1).txWait[0]?).map (fun w => w.packet.type) = some 2 ∧
    (let s := linked.modStream 3 fun m => { m with fifo := [{ stream := .marks, sub := 0, epoch := 0, word := 5 }], flushed := 1 }
     (s.ringPick 0 = some (.site 3) ∨ s.ringPick 1 = some (.site 3))) := by decide +kernel

/-- A SYNC packet in the receive buffer. -/
def syncIn (source : Nat) (sseqs : List (BitVec 16)) : State :=
  withCfg (furlong linked fun f => { f with inbox := [{ port := 0, packet := syncTo 2, time := 100, credit := true }], sseqs := sseqs }) 0x2120 1 source

/-- What SYNC_PACKET_RX finds. -/
def inboxMeets (s : State) (t : Nat) (f : InPacket → State → Bool) : Bool :=
  match s.takeInbox (fun p => p.packet.type == t) with
  | some (p, x) => f p x
  | none => false

theorem witness_sync_packets :
    inboxMeets (syncIn 1 []) 4 (fun p x => !p.packet.rev && !x.furlong.sseqs.contains (BitVec.ofNat 16 (p.word 0 / 2 ^ 32)) &&
      x.cfg 0x2120 1 == 1) = true ∧
    inboxMeets (syncIn 0 [6]) 4 (fun _ x => x.cfg 0x2120 1 != 1) = true ∧
    inboxMeets (syncIn 1 [6, 5]) 4 (fun p x => x.furlong.sseqs.contains (BitVec.ofNat 16 (p.word 0 / 2 ^ 32))) = true := by
  decide +kernel

/-- A DICT request in the receive buffer: operation, count, and the words after P0. -/
def dictIn (op count : Nat) (ws : List (BitVec 64)) (f : Furlong → Furlong) : State :=
  let p0 := BitVec.ofNat 64 (at_ op 56 + at_ 0x2100 32 + at_ 1 24 + at_ count 16 + 7)
  let x : InPacket := ⟨0, packet (headerOf 2 1 2 0 0 (ws.length + 1) 0) (p0 :: ws), 0, true⟩
  furlong linked fun g => f { g with inbox := [x] }

/-- What a DICT command finds. -/
def dictMeets (s : State) (op : Nat) (f : InPacket → State → Bool) : Bool :=
  match s.takeInbox (isDict op) with
  | some (p, x) => f p x
  | none => false

theorem witness_dict_packets :
    dictMeets (dictIn 1 1 [] id) 1 (fun p x => let r := dictReq (p.word 0)
      (x.storedReply (BitVec.ofNat 16 p.packet.src) r.tag none).isNone && decide (1 ≤ r.count) && decide (r.sub + r.count ≤ 256) &&
      decide ((x.readRun r.index r.count r.sub).2.2.length ≤ 508)) = true ∧
    dictMeets (dictIn 1 255 [] id) 1 (fun p _ => let r := dictReq (p.word 0); decide (r.sub + r.count = 256)) = true ∧
    dictMeets (dictIn 1 0 [0x800000000] id) 1 (fun p x => let r := dictReq (p.word 0)
      (x.storedReply (BitVec.ofNat 16 p.packet.src) r.tag (some 0)).isNone && r.count == 0 && p.word 1 / 2 ^ 32 % 65536 == 8) = true ∧
    dictMeets (dictIn 2 1 [1] id) 2 (fun p _ => let r := dictReq (p.word 0); let ws := splitWords (p.packet.payload.drop 1)
      let need := ((List.range r.count).map fun k => wordsAt (addrOf r.index (r.sub + k))).sum
      (cutRun r.index r.count r.sub (ws.take need)).isSome && (ws.length == need || (ws.length == need + 1 && ws.getLast? == some 0))) = true ∧
    dictMeets (dictIn 1 1 [] fun f => { f with hops := [{ hop := 1, tag := 7, offset := none, reply := [9] }] }) 1 (fun p x =>
      (x.storedReply (BitVec.ofNat 16 p.packet.src) (dictReq (p.word 0)).tag none) == some [9]) = true ∧
    dictMeets (dictIn 2 0 [8] id) 2 (fun p x => (x.transferOf 1).isNone && p.word 1 % 2 ^ 32 != 0) = true ∧
    dictMeets (dictIn 2 0 [0x100000000, 5] fun f => { f with transfers := [{ hop := 1, index := 0x2100, sub := 1, bytes := [], last := 0 }] }) 2
      (fun p x => (x.transferOf 1).isSome && bitOf (p.word 1) 32) = true ∧
    dictMeets (dictIn 4 0 [0] id) 4 (fun p _ => p.packet.dest != 0xFFFF && p.word 1 == 0) = true ∧
    dictMeets (dictIn 4 0 [1] id) 4 (fun p _ => p.word 1 == 1) = true ∧ dictMeets (dictIn 4 0 [2] id) 4 (fun p _ => p.word 1 == 2) = true ∧
    ((furlong linked fun f => { f with transfers := [{ hop := 1, index := 0x2100, sub := 1, bytes := [], last := 0 }] }).transferOf 1).isSome = true ∧
    linked.transferOf 1 = none := by decide +kernel

/-- The UNIQUE_ID is a free value; one of two IDs is another chip's. -/
theorem witness_reset_id : ∃ w ∈ [1#64, 2], w.toNat ≠ uniqueId.toNat := by
  by_cases h : (1#64).toNat = uniqueId.toNat
  · exact ⟨2, by decide, by rw [← h]; decide⟩
  · exact ⟨1, by decide, h⟩
/-! ## CAN FD and the SPI ports (chapters 15, 16) -/

/-- `reset` with node-ID 5 and the CAN port changed. -/
def can (f : Can → Can) : State := { State.reset with can := f { State.reset.can with nodeId := 5 } }

theorem witness_nmt : (can id).canHears = true ∧ (5#7 = 0 ∨ 5#7 = (can id).can.nodeId) ∧ (can id).dictUp = true ∧
    sparseWf initial (can id).dict = true ∧ (can fun c => { c with bus := .busOff }).canHears = false ∧
    ¬(6#7 = 0 ∨ 6#7 = (can id).can.nodeId) ∧ (can id).can.session = none ∧ (can id).rst.phase ≠ .inReset ∧
    ((can id).canServes = true ∧ (withCfg (can id) 0x1017 0 100).cfg 0x1017 0 ≠ 0) ∧ State.reset.canServes = false := by decide +kernel

theorem test_heartbeat : landed (exec .heartbeatTimer (withCfg (can fun c => { c with nmt := .operational }) 0x1017 0 100))
    (fun t => t.can.frames == [{ cob := 0x705, data := [5] }]) = true := by decide +kernel

/-- `can` with a session of client 1. -/
def talking (down : Bool) : State :=
  can fun c => { c with session := some { client := 1, download := down, index := 0x2100, sub := 1, bytes := [], last := 0 } }

theorem witness_usdo :
    ((can id).canTalks = true ∧ (can id).usdoBarred 1 = false ∧ (can id).can.session = none) ∧
    State.reset.canTalks = false ∧ (can fun c => { c with clients := 7 }).usdoBarred 1 = true ∧
    (((can id).served 1).uploadBytes (addrOf 0x2100 1) = .ok [0] ∧ ((can id).served 1).uploadBytes (addrOf 0xFFFF 1) = .refused 1) ∧
    ((talking true).can.session.isSome = true ∧ (talking true).usdoBarred 1 = false) ∧ rowAt (addrOf 0xFFFF 1) = none ∧
    ((can id).writeValue .can (addrOf 0x2100 1) (natLE [1])).2 = 0 ∧ ((can id).writeValue .can (addrOf 0x2100 1) (natLE [7])).2 = 6 ∧
    (∃ p, rowAt (addrOf 0x2100 1) = some p ∧ p.1.ty.isDomain = false ∧ p.1.acc = .rw ∧ [1#8].length = p.1.ty.byteLen) ∧
    (∃ p, rowAt (addrOf 0x2000 1) = some p ∧ p.1.ty.isDomain = false ∧ p.1.acc = .const) := by
  refine ⟨by decide +kernel, by decide +kernel, by decide +kernel, by decide +kernel, by decide +kernel, by decide +kernel,
    by decide +kernel, by decide +kernel, ⟨_, rfl, by decide +kernel⟩, ⟨_, rfl, by decide +kernel⟩⟩

/-- A node in OPERATIONAL whose RPDO4 (0x1403) has COB-ID 0x505 and maps CKO0's enable, as TPDO4 (0x1803) does with 0x485. -/
def pdo : State :=
  let s := can fun c => { c with nmt := .operational }
  let s := withCfg (withCfg (withCfg s 0x1403 1 0x505) 0x1603 0 1) 0x1603 1 0x21100108
  withCfg (withCfg (withCfg (withCfg (withCfg s 0x1803 1 0x485) 0x1A03 0 1) 0x1A03 1 0x21100108) 0x1803 5 9) 0x1803 3 0

theorem witness_rpdo : pdo.canPdos = true ∧ cobIs (pdo.cfg 0x1403 1) 0x505 = true ∧
    (∀ j : Fin 4, j ≠ 3 → cobIs (pdo.cfg (0x1400 + j.val) 1) 0x505 = false) ∧ mappedBits (pdo.mapping 0x1603) ≤ 8 * [1#8].length ∧
    (pdo.writeWords .can (pdoValues (pdo.mapping 0x1603) [1])).2 = 0 ∧ (pdo.writeWords .can (pdoValues (pdo.mapping 0x1603) [7])).2 ≠ 0 ∧
    8 * ([] : List Byte).length < mappedBits (pdo.mapping 0x1603) ∧ pdo.can.emcyQueue.length < 8 ∧
    (∀ k : Fin 4, cobIs (pdo.cfg (0x1400 + k.val) 1) 0x7FF = false) := by decide +kernel

/-- CanServices: downloads of a DOMAIN that begins, that does not, and of a subindex that cannot be written. -/
theorem witness_usdo_domain :
    (rowAt (siteAddr 0 0xA4 1)).any (fun p => p.1.ty.isDomain) = true ∧
    (({ psqAt 0 (vec 0 0 0) with can := (can id).can } : State).domainBegin (siteAddr 0 0x65 1)).2 ≠ 0 ∧
    (({ ready0 with can := (can id).can } : State).domainBegin (siteAddr 0 0xA4 1)).2 = 0 ∧
    ({ ready0 with can := (can id).can } : State).canTalks = true :=
  ⟨by decide +kernel, by decide +kernel, by decide +kernel, by decide +kernel⟩

theorem test_rpdo : landed (exec (.rpdoRx 0x505 [1]) pdo) (fun t => t.cfg 0x2110 1 == 1) = true := by decide +kernel

theorem witness_tpdo : pdo.canPdos = true ∧ bitOf (pdo.cfg 0x1803 1) 31 = false ∧ pdo.can.tpdos[3].lastSent = none ∧
    pdo.can.tpdos[3].lastBytes ≠ some (pdo.tpdoBytes 3) ∧ pdo.cfg 0x1803 5 ≠ 0 ∧ pdo.tpdoBytes 3 = [0] ∧
    (can id).canPdos = false := by decide +kernel

theorem test_tpdo : landed (exec (.tpdoChangeCheck 3) pdo) (fun t => t.can.frames == [{ cob := 0x485, data := [0] }]) = true := by
  decide +kernel

/-- An EMCY. -/
def emcy0 : Emcy := { code := 0x1000, errReg := 1, message := 0, time := 0 }

theorem witness_emcy : (let s := withCfg (can fun c => { c with emcyQueue := [emcy0] }) 0x1014 0 0x85
    s.canTalks = true ∧ s.can.lastEmcy = none ∧ bitOf (s.cfg 0x1014 0) 31 = false ∧ s.can.busOffEmcy = none ∧ s.can.emcyQueue = [emcy0]) ∧
    (can fun c => { c with busOffEmcy := some emcy0 }).can.busOffEmcy = some emcy0 := by decide +kernel

theorem witness_can_bus : (State.reset.dictUp = true ∧ State.reset.can.bus = .errorActive) ∧ 128 ≤ (128#8).toNat ∧ (127#8).toNat < 128 ∧
    (let c := (can fun c => { c with bus := .silent }).can; c.bus = .silent ∧ c.tec < 128 ∧ c.recv < 128 ∧ c.bus ≠ .errorActive) ∧
    (can fun c => { c with bus := .errorPassive }).can.bus = .errorPassive ∧
    (can fun c => { c with bus := .busOff }).can.bus = .busOff ∧ State.reset.can.autoRecover = true ∧
    (can id).canServes = true ∧ (can id).can.dup = false := by decide +kernel

/-- A trailer that carries an ALIVE and the CRC of bytes. -/
def trailer (alive : BitVec 4) (bs : List Byte) : FrameTrailer := { alive := alive, crc := trailerCrc bs alive }

/-- `reset` with the SPS in checked mode, after ALIVE 4. -/
def checked : State :=
  (withCfg State.reset 0x2800 1 (State.reset.cfg 0x2800 1 + 4096)).modSps fun m => { m with anyAlive := false, lastAlive := 4 }

/-- Good frames: any whole frame in plain mode; in checked mode the right CRC with the next ALIVE, after any ALIVE or after 4. -/
theorem witness_frames : State.reset.spsServed = true ∧ Good State.reset .whole false (0x02 :: wireAddr 0x210001 ++ wireWord 1) ⟨0, 0⟩ ∧
    Good checked .whole false [0x05] (trailer 5 [0x05]) ∧ ¬Good checked .whole false [0x05] (trailer 6 [0x05]) ∧
    ¬Good State.reset .cut false [0x05] ⟨0, 0⟩ ∧ checked.spsChecked = true ∧ checked.frameWords 0x101 = 1 := by
  refine ⟨by decide +kernel, ⟨rfl, fun h => ?_⟩, ⟨rfl, fun _ => ⟨rfl, rfl, Or.inr (by decide)⟩⟩, ?_, fun h => ?_, by decide +kernel, by decide +kernel⟩
  · exact absurd h (by decide +kernel)
  · rintro ⟨_, h⟩
    have h := (h (by decide +kernel)).2.2
    exact absurd h (by decide +kernel)
  · cases h.1

theorem witness_spi_data :
    ((State.reset.modSps fun m => { m with latch := some { index := 0x2100, sub := 1, words := [1, 2, 3] } }).sps.latch =
      some { index := 0x2100, sub := 1, words := [1, 2, 3] }) ∧ State.reset.sps.latch = none ∧
    State.reset.sps.toCsv.length + 128 ≤ 128 ∧ (1 : Nat) ≠ 0 := by decide

theorem test_status_byte : landed (exec (.spsStatus .whole (trailer 5 [0x05])) checked)
    (fun t => t.sps.lastAlive == 5 && t.sps.out.length == 3) = true := by decide +kernel

/-- A transfer of four control-store bytes. -/
def job : XipJob := { target := .mse 3, offset := 0, bytes := 4, base := 0, t := 0 }

/-- `reset` with 32 MiB mapped on each chip select and a queue or a transfer. -/
def spm (q : List XipJob) (c : Option XipJob) : State :=
  let s := withCfg (withCfg (withCfg State.reset 0x2801 1 (State.reset.cfg 0x2801 1 ||| 1)) 0x2803 1 6) 0x2803 2 6
  { s with spm := { s.spm with queue := q, current := c } }

theorem witness_xip :
    ((spm [job] none).spm.current = none ∧ (spm [job] none).spm.queue = [job] ∧ (spm [job] none).pll.relocking = false ∧
      (spm [job] none).spmEnabled = true ∧ job.offset + job.bytes ≤ (spm [job] none).xipSize 1 + (spm [job] none).xipSize 2) ∧
    (withCfg (spm [job] none) 0x2801 1 0).spmEnabled = false ∧
    ((spm [] (some job)).spm.current = some job ∧ [1#8, 0, 0, 0].length = job.bytes ∧ ∀ v ∈ byteGroups 4 [1#8, 0, 0, 0], v < 2 ^ 24) ∧
    (let s := withCfg (spm [] (some job)) 0x2802 1 ((spm [] none).cfg 0x2802 1 ||| (2 ^ 23 + 2 ^ 24))
     job.offset < s.xipSize 1 ∧ s.usesDqs 1 = true) := by decide +kernel

theorem test_xip_store : landed (exec (.xipTransferDone [1, 2, 3, 0]) (spm [] (some job))) (fun t => (t.mse 3).store == [(0, 0x030201)]) = true := by
  decide +kernel
/-! ## Mitten, resets, RNVM, in-service tests, boundary scan (chapters 20, 21, 22) -/

/-- `reset` with RUN set, filter 0 a MEDIAN5 of SRC 24 and rule 15 HIGH on SRC 24 with SET 100, REL 90, N = 1 and an action. -/
def mitten (act : Nat) (f : Mitten → Mitten) : State :=
  let s := withCfg (withCfg (withCfg State.reset 0x2700 1 1) 0x2702 1 (24 + 2 * 64)) 0x2703 16
    (24 + 1 * 128 + act * 4096 + 100 * 2 ^ 16 + 90 * 2 ^ 32 + 1 * 2 ^ 48)
  { s with mitten := f s.mitten }

/-- The samples of a tick with SRC 24 at a value. -/
def volts (v : BitVec 16) : List (BitVec 16) := List.replicate 24 0 ++ [v] ++ List.replicate 10 0

theorem witness_mitten_tick :
    (State.reset.rst.phase ≠ .vaonLost ∧ bitOf ((mitten 4 id).cfg 0x2700 1) 0 = true ∧ sparseWf initial (mitten 4 id).dict = true) ∧
    bitOf ((withCfg State.reset 0x2700 1 0).cfg 0x2700 1) 0 = false ∧
    (field ((mitten 4 id).cfg 0x2702 1) 7 6 = 2 ∧ sampled (mitten 4 id) (volts 100) [] 24 = some 100 ∧
      sampled (mitten 4 id) (volts 0) [] 0 = none) ∧
    (field ((mitten 4 id).cfg 0x2703 16) 8 7 = 1 ∧ field ((mitten 4 id).cfg 0x2703 16) 15 12 = 4 ∧
      (∀ j : Fin 16, j ≠ 15 → field ((mitten 4 id).cfg 0x2703 (j.val + 1)) 8 7 = 0) ∧ (mitten 4 id).coreUp = true ∧
      ((mitten 4 id).mitten.rules[15]).fired = false) ∧
    field ((withCfg (mitten 4 id) 0x2702 8 0x400).cfg 0x2702 8) 7 6 = 0 ∧ field ((withCfg (mitten 4 id) 0x2702 8 0x440).cfg 0x2702 8) 7 6 = 1 := by
  decide +kernel

/-- At SET the rule is TRUE and fires MIT_LOG with the value; one below it a first evaluation is FALSE only at or below REL. -/
theorem test_mitten_rule :
    landed (exec (.mittenTick (volts 100) []) (mitten 4 id))
      (fun t => (t.mitten.rules[15]).fires == 1 && (t.gtSlot 1).any fun r => r.kind == 0xD0 && r.detail == 15 + 100 * 65536) = true ∧
    landed (exec (.mittenTick (volts 90) []) (mitten 4 id)) (fun t => (t.mitten.rules[15]).state == .isFalse) = true := by decide +kernel

theorem witness_wake :
    (let s := mitten 1 fun m => { m with wake := .lock 7 }
     s.mitten.wake ≠ .idle ∧ s.pllReady = true ∧ field (s.cfg 0x2700 1) 12 8 = 0 ∧
       field ((withCfg s 0x2700 1 0x401).cfg 0x2700 1) 12 8 = 4 ∧ s.slotValid 4 = false ∧ s.slotBusy 4 = false ∧
       ({ s with nvm := { s.nvm with jobs := [.overlay 4 []] } } : State).slotBusy 4 = true ∧
       ({ s with pll := { s.pll with state := .acquire } } : State).pllReady = false ∧ s.pll.economy = false) ∧
    State.reset.mitten.wake = .idle := by decide +kernel

/-- `reset` in a phase. -/
def inPhase (p : Phase) (f : ResetCtl → ResetCtl) : State := { State.reset with rst := f { State.reset.rst with phase := p } }

theorem witness_resets :
    (State.reset.rst.phase ≠ .vaonLost ∧ State.reset.rst.phase ≠ .inReset ∧ State.reset.nvm.readable = true ∧ State.reset.coreUp = true) ∧
    (inPhase .vaonLost id).rst.phase = .vaonLost ∧ (inPhase .inReset id).coreUp = false ∧ (inPhase .inReset id).mayRelease = true ∧
    (inPhase .inReset fun r => { r with thermalHold := true }).mayRelease = false ∧
    (let s : State := { ready0 with rst := { ready0.rst with railsAbsent := true } }
     s.rst.railsAbsent = true ∧ s.siteState 0 = .ready ∧ (withSite s 0x80 2 1).buOutput 0 1 = true) ∧
    (let s := inPhase .started fun r => { r with runNext := true }; s.rst.phase = .started ∧ s.rst.runNext = true) ∧
    (let s := inPhase .started id; s.rst.phase = .started ∧ s.pll.relocking = false ∧ s.rst.runNext = false) ∧
    (inPhase .started fun r => { r with selftest := 3 }).selfTestFailed = true ∧ (inPhase .baseLoaded id).rst.phase = .baseLoaded ∧
    State.reset.can.nodeId = 0 ∧ State.reset.assize.signing = false ∧ State.reset.assize.marks = [] ∧ State.reset.assize.dead = false ∧
    State.reset.mitten.pending = false ∧ State.reset.aszFill 1 ≤ 4096 := by decide +kernel

theorem test_resets :
    landed (exec (.resetN false) State.reset) (fun t => t.rst.phase == .inReset && t.rst.cause == 2 && t.siteState 63 == .off) = true ∧
    landed (exec (.coreRelease 5) (inPhase .inReset id)) (fun t => t.rst.phase == .started && t.clock == 0 && t.can.straps == 5) = true ∧
    landed (exec (.dictionaryAvailable true) (inPhase .baseLoaded id)) (fun t => t.dictUp && t.assize.n == 1) = true := by decide +kernel

/-- `reset` with the write queue of the log, a signing, or a record waiting. -/
def logging (f : Assize → Assize) : State := { State.reset with assize := f State.reset.assize }
def writing (j : NvmJob) : State := { State.reset with nvm := { State.reset.nvm with jobs := [j] } }

theorem witness_records :
    ((logging fun a => { a with queued := 1 }).assize.queued ≠ 0 ∧ State.reset.nvm.readable = true ∧ State.reset.assize.queued = 0) ∧
    (let s := logging fun a => { a with signing := true, n := 253 }; s.dictUp = true ∧ s.assize.signing = true ∧ s.assize.held = []) ∧
    (writing (.safeValue 127 9)).nvm.jobs = [.safeValue 127 9] ∧ (writing (.overlay 16 [])).nvm.jobs = [.overlay 16 []] ∧
    (∀ j ∈ [NvmJob.safeValue 127 9, .overlay 16 [], .event 5, .shutdown 5], (writing j).nvmPick = some j ∧ (writing j).coreUp = true ∧
      (writing j).nvm.readable = true) ∧
    ({ writing (.event 5) with assize := (logging fun a => { a with queued := 1 }).assize } : State).nvm.jobs = [.event 5] ∧
    State.reset.nvmPick = none ∧ (writing (.event 5)).nvm.jobs = [.event 5] ∧ (writing (.shutdown 5)).nvm.jobs = [.shutdown 5] ∧ State.reset.nvm.jobs = [] := by
  decide +kernel

/-- A site under test. -/
def testing (test : Nat) (left : List Nat) : State :=
  (inState State.reset .fenced).modSite 0 fun t => { t with test := { t.test with state := 1, left := test :: left } }

theorem witness_tests :
    (∀ test ∈ [0, 1, 2], ((testing test []).site 0).test.state = 1 ∧ ((testing test []).site 0).test.left = [test] ∧ test < 3) ∧
    ((testing 0 [1, 2]).site 0).test.left = [0, 1, 2] ∧ (State.reset.site 0).test.state ≠ 1 ∧
    ((State.reset.modRegion 3 fun r => { r with spareTest := true }).region 3).spareTest = true ∧ (State.reset.region 3).spareTest = false := by
  decide +kernel

theorem test_test_done : landed (exec (.testDone (.site 0) 0) (testing 0 [2]))
    (fun t => (t.site 0).test.left == [2] && (t.site 0).test.ran == 1 && (t.site 0).test.failed == 0) = true := by decide +kernel

/-- R457: EXTEST drives the balls in compliance and is a BYPASS outside it. -/
theorem test_extest :
    landed (exec (.extest [true] [false]) (inPhase .inReset fun r => { r with resetN := false })) (fun t => t.tap.drive == .driving) = true ∧
    landed (exec (.extest [true] [false]) State.reset) (fun t => t.tap.drive == .released && t.tap.selected == .bypass) = true ∧
    landed (exec .idcode State.reset) (fun t => t.tap.captured.length == 32 && t.tap.captured.getD 0 false) = true := by decide +kernel

theorem witness_compliance : (State.reset.rst.testEn = false ∧ (inPhase .inReset fun r => { r with resetN := false }).rst.resetN = false) ∧
    ¬(State.reset.rst.testEn = false ∧ State.reset.rst.resetN = false) := by decide +kernel

/-- StepKeepsInvariant: the invariant holds after reset, and a step leads on from there. -/
theorem witness_invariant : Inv State.reset ∧ landed (step State.reset) (fun _ => true) = true :=
  ⟨⟨fun h => absurd rfl h, by decide +kernel⟩, by decide +kernel⟩

/-- The first command of the queue is the one that a step takes. -/
theorem test_queue : landed (step { State.reset with pending := [.modeChange .can 1, .idcode] })
    (fun t => t.cfg 0x2100 1 == 1 && t.pending.length == 1) = true := by decide +kernel


end Sys2Proof.Tests
end

section
/-! PROOFS. The rows of the dictionary: their fields, and what acceptance leaves of a value. -/
namespace Sys2Proof.Machine

/-! ## Fields of a value -/

/-- The share of one field in the defined value of a row (R11). -/
theorem testBit_field_in_place (v hi lo k : Nat) (h : lo ≤ hi) :
    (at_ (field v hi lo) lo).testBit k = (v.testBit k && (decide (lo ≤ k) && decide (k ≤ hi))) := by
  simp only [at_, field, Nat.testBit_shiftLeft, Nat.testBit_mod_two_pow, Nat.testBit_shiftRight]
  by_cases hk : lo ≤ k
  · have hlt : k - lo < hi - lo + 1 ↔ k ≤ hi := by omega
    simp [hk, hlt, Bool.and_comm]
  · simp [hk]

theorem field_in_place_lt (v hi lo : Nat) (h : lo ≤ hi) : at_ (field v hi lo) lo < 2 ^ (hi + 1) := by
  have hf : field v hi lo < 2 ^ (hi - lo + 1) := Nat.mod_lt _ (Nat.two_pow_pos _)
  calc at_ (field v hi lo) lo = field v hi lo * 2 ^ lo := Nat.shiftLeft_eq ..
    _ < 2 ^ (hi - lo + 1) * 2 ^ lo := Nat.mul_lt_mul_of_pos_right hf (Nat.two_pow_pos lo)
    _ = 2 ^ (hi - lo + 1 + lo) := (Nat.pow_add 2 _ _).symm
    _ = 2 ^ (hi + 1) := by rw [Nat.add_right_comm, Nat.sub_add_cancel h]

theorem two_pow_dvd_at (x lo n : Nat) (h : n ≤ lo) : 2 ^ n ∣ at_ x lo := by
  rw [at_, Nat.shiftLeft_eq]
  exact Nat.dvd_trans (Nat.pow_dvd_pow 2 h) (Nat.dvd_mul_left _ x)

/-- A sum of fields that all begin at bit `n` or above is a multiple of `2 ^ n`. -/
theorem two_pow_dvd_sum_fields (v n : Nat) (fs : List FieldRow) (h : ∀ f ∈ fs, n ≤ f.lo) :
    2 ^ n ∣ (fs.map fun f => at_ (field v f.hi f.lo) f.lo).sum := by
  induction fs with
  | nil => exact Nat.dvd_zero _
  | cons f fs ih =>
    rw [List.map_cons, List.sum_cons]
    exact Nat.dvd_add (two_pow_dvd_at _ _ _ (h f List.mem_cons_self)) (ih fun g hg => h g (List.mem_cons_of_mem f hg))

/-- A number below `2 ^ n` and a multiple of it share no bit, so that their sum has the bits of both. -/
theorem testBit_add_of_lt_of_dvd {n a b : Nat} (ha : a < 2 ^ n) (hb : 2 ^ n ∣ b) (k : Nat) :
    (a + b).testBit k = (a.testBit k || b.testBit k) := by
  obtain ⟨c, rfl⟩ := hb
  rw [Nat.add_comm, Nat.testBit_two_pow_mul_add c ha, Nat.testBit_two_pow_mul]
  by_cases hk : k < n
  · simp [hk, Nat.not_le.2 hk]
  · have : a.testBit k = false :=
      Nat.testBit_lt_two_pow (Nat.lt_of_lt_of_le ha (Nat.pow_le_pow_right Nat.two_pos (Nat.le_of_not_lt hk)))
    simp [hk, Nat.le_of_not_lt hk, this]

/-- The fields of a row rise and do not overlap. -/
abbrev FieldsRise (fs : List FieldRow) : Prop := (∀ f ∈ fs, f.lo ≤ f.hi) ∧ fs.Pairwise fun f g => f.hi < g.lo

/-- The sum of rising fields has the bits that a field names, and no other. -/
theorem testBit_sum_fields (v k : Nat) (fs : List FieldRow) (h : FieldsRise fs) :
    ((fs.map fun f => at_ (field v f.hi f.lo) f.lo).sum).testBit k =
      (v.testBit k && fs.any fun f => decide (f.lo ≤ k) && decide (k ≤ f.hi)) := by
  induction fs with
  | nil => simp
  | cons f fs ih =>
    obtain ⟨hlo, hrise⟩ := h
    obtain ⟨hfirst, hrest⟩ := List.pairwise_cons.1 hrise
    have hf : f.lo ≤ f.hi := hlo f List.mem_cons_self
    have hdvd := two_pow_dvd_sum_fields v (f.hi + 1) fs fun g hg => hfirst g hg
    rw [List.map_cons, List.sum_cons, testBit_add_of_lt_of_dvd (field_in_place_lt v _ _ hf) hdvd,
      testBit_field_in_place v _ _ k hf, ih ⟨fun g hg => hlo g (List.mem_cons_of_mem f hg), hrest⟩, List.any_cons,
      Bool.and_or_distrib_left]

/-! ## Rows of the dictionary -/

theorem findObj_mem {rows : List ObjRow} {index : Nat} {p : ObjRow × Nat} (h : findObj rows index = some p) : p.1 ∈ rows := by
  induction rows with
  | nil => cases h
  | cons o rows ih =>
    rw [findObj] at h
    split at h
    · cases h; exact List.mem_cons_self
    · exact List.mem_cons_of_mem o (ih h)

/-- A row that is found stands in the object's table, or is that of subindex 0 (R37): one field of eight bits. -/
theorem findSub_mem {o : ObjRow} {sub : Nat} {r : SubRow} (h : findSub o sub = some r) :
    r ∈ o.subs ∨ r.fields = [⟨7, 0, []⟩] := by
  unfold findSub at h
  split at h
  · next hr => cases h; exact .inl (List.mem_of_find?_eq_some hr)
  · split at h
    · cases h; exact .inr rfl
    · cases h

/-- An object that is found stands in one of the three maps. -/
theorem objectAt_mem {index : Nat} {p : ObjRow × Nat} (h : objectAt index = some p) :
    p.1 ∈ chipObjects ++ regionObjects ++ siteObjects := by
  unfold objectAt at h
  simp only [List.mem_append]
  split at h
  · exact .inl (.inl (findObj_mem h))
  · exact .inl (.inr (findObj_mem h))
  · exact .inr (findObj_mem h)
  · cases h

/-- The transcribed tables name the fields of every subindex in rising order. -/
theorem tables_fieldsRise : ∀ o ∈ chipObjects ++ regionObjects ++ siteObjects, ∀ r ∈ o.subs, FieldsRise r.fields := by
  decide +kernel

theorem rowAt_fieldsRise {a n : Nat} {r : SubRow} (h : rowAt a = some (r, n)) : FieldsRise r.fields := by
  unfold rowAt at h
  split at h
  · cases h
  · next o m ho =>
    obtain ⟨r', hr, heq⟩ := Option.map_eq_some_iff.1 h
    cases heq
    rcases findSub_mem hr with hmem | h0
    · exact tables_fieldsRise o (objectAt_mem ho) r hmem
    · rw [h0]; decide

/-! ## Acceptance of one value -/

/-- What acceptance leaves of a value: its defined bits, every field at an encoding that is listed. -/
theorem State.acceptValue_ok {s : State} {r : SubRow} {a v w : Nat} (h : s.acceptValue r a v = .ok w) :
    w = r.defined v ∧ r.inRange w = true := by
  simp only [State.acceptValue] at h
  split at h
  · next hr => cases h; exact ⟨rfl, (Bool.and_eq_true_iff.1 hr).1⟩
  · cases h

/-- An accepted write has a row, and leaves what R11 and R12 leave of its value. -/
theorem State.accept_ok {s : State} {a w : Nat} {ws : List Word} (h : s.accept a ws = .ok w) :
    ∃ r n, rowAt a = some (r, n) ∧ w = r.defined (natWords ws) ∧ r.inRange w = true := by
  simp only [State.accept] at h
  split at h
  · cases h
  · next r n hr =>
    refine ⟨r, n, hr, ?_⟩
    split at h
    · cases h
    · cases h
    · split at h
      · cases h
      · split at h
        · cases h
        · exact State.acceptValue_ok h

/-- A write of a writable number in as many words as its type has, and within its width, is up to its fields. -/
theorem State.accept_of_fits (s : State) {a n : Nat} {r : SubRow} {ws : List Word} (hr : rowAt a = some (r, n))
    (hacc : r.acc = .rw ∨ r.acc = .wo) (hnum : r.ty.isDomain = false) (hlen : ws.length = r.ty.words)
    (hfit : natWords ws < 2 ^ (8 * r.ty.byteLen)) : s.accept a ws = s.acceptValue r a (natWords ws) := by
  rcases hacc with hacc | hacc <;> simp [State.accept, hr, hacc, hnum, hlen, Nat.not_le.2 hfit]

theorem State.acceptValue_reserved (s : State) {r : SubRow} (a : Nat) {v : Nat} (h : r.inRange (r.defined v) = false) :
    s.acceptValue r a v = .refused 6 := by
  simp [State.acceptValue, h]

end Sys2Proof.Machine

namespace Sys2Proof.Proofs
open Sys2Proof.Machine

/-- Settles O8: the fields of every row of the tables rise without overlap, so that the sum of them holds exactly their bits. -/
theorem reservedBitsAndCodes : Obligations.ReservedBitsAndCodes := by
  refine ⟨fun s a ws w h => State.accept_ok h, fun a r n v hr k => testBit_sum_fields v k r.fields (rowAt_fieldsRise hr), ?_⟩
  intro s a r n ws hr hacc hnum hlen hfit hres
  rw [s.accept_of_fits hr hacc hnum hlen hfit, s.acceptValue_reserved a hres]

end Sys2Proof.Proofs
end

section
/-! PROOFS. The path of a host's write: what each way of refusing it leaves. -/
namespace Sys2Proof.Machine

/-! ## From the command to the write path -/

/-- A write command of the host is the write that `writeOf` names, and nothing else. -/
theorem exec_of_writeOf {c : Instr} {f : Iface} {a v : Nat} (h : Claims.writeOf c = some (f, a, v)) (s : State) :
    exec c s = .next (s.hostWrite f a v) := by
  cases c <;> cases h <;> rfl

theorem State.writeValue_eq (s : State) (f : Iface) (a v : Nat) :
    s.writeValue f a v = s.writeWords f [(a, words32 v (wordsAt a))] := by
  unfold State.writeValue wordsAt
  rfl

theorem State.writeWords_down (s : State) (f : Iface) (ws : List (Nat × List Word)) (h : s.dictUp = false) :
    s.writeWords f ws = (s, 8) := by
  simp [State.writeWords, h]

/-- A write of one subindex that acceptance refuses ends in the cycle of its access. -/
theorem State.writeWords_refused (s : State) (f : Iface) {a : Nat} {ws : List Word} {d : Dstat} (h : s.dictUp = true)
    (hr : (s.served 1).accept a ws = .refused d) : s.writeWords f [(a, ws)] = (s.served 1, d) := by
  simp [State.writeWords, h, State.acceptAll, hr]

theorem State.writeWords_accepted (s : State) (f : Iface) {a w : Nat} {ws : List Word} (h : s.dictUp = true)
    (ha : (s.served 1).accept a ws = .ok w) : s.writeWords f [(a, ws)] = (s.served 1).writeEntries f [(a, w)] := by
  simp [State.writeWords, h, State.acceptAll, ha]

theorem State.groupChecks_one (s : State) (f : Iface) (e : Entry) (h : s.groupCheck f e = 0) : s.groupChecks f [e] = 0 := by
  simp [State.groupChecks, h]

/-- An entry that is no command, from an interface without an open group, is a single-write transaction (R39). -/
theorem State.writeEntries_single (s : State) (f : Iface) (e : Entry) (hc : isCommand e = false)
    (hg : s.groupCheck f e = 0) (ho : s.openGroup f = none) : s.writeEntries f [e] = s.single (.iface f) [e] [] := by
  simp [State.writeEntries, State.writePlain, hc, s.groupChecks_one f e hg, ho]

/-! ## What a refused request leaves -/

/-- `t` is `s` but for the request results of sites in `asked` without a transition in progress. -/
structure State.ResultsOf (s : State) (asked : Fin 64 → Prop) (t : State) : Prop where
  sites  : t = { s with sites := t.sites }
  result : ∀ i, (t.site i).ctl = { (s.site i).ctl with reqResult := (t.site i).ctl.reqResult }
  kept   : ∀ i, ¬ asked i ∨ (s.site i).ctl.trans.isSome = true → t.site i = s.site i

theorem State.ResultsOf.refl (s : State) (asked : Fin 64 → Prop) : s.ResultsOf asked s :=
  ⟨rfl, fun _ => rfl, fun _ _ => rfl⟩

theorem State.reqResult_site_same (s : State) (i : Fin 64) (r : ReqResult) :
    ((s.reqResult i r).site i).ctl = { (s.site i).ctl with reqResult := r } :=
  s.modCtl_same i _

theorem State.reqResult_site_other (s : State) {i j : Fin 64} (r : ReqResult) (h : i ≠ j) :
    (s.reqResult i r).site j = s.site j :=
  s.modCtl_other i j _ h

/-- Turning down the request of a site that asked keeps to the results of those that asked. -/
theorem State.ResultsOf.reqTurned {s t : State} {asked : Fin 64 → Prop} (h : s.ResultsOf asked t) {i : Fin 64}
    (hi : asked i) (r : ReqResult) : s.ResultsOf asked (t.reqTurned i r) := by
  unfold State.reqTurned
  split
  · exact h
  · next hidle =>
    obtain ⟨hsites, hresult, hkept⟩ := h
    refine ⟨?_, fun j => ?_, fun j hj => ?_⟩
    · calc t.reqResult i r = { t with sites := (t.reqResult i r).sites } := rfl
        _ = { s with sites := (t.reqResult i r).sites } := by rw [hsites]
    · by_cases hij : i = j
      · subst hij
        rw [t.reqResult_site_same, hresult i]
      · rw [t.reqResult_site_other r hij]
        exact hresult j
    · have hij : i ≠ j := by
        rintro rfl
        have htrans : (t.site i).ctl.trans = (s.site i).ctl.trans := by rw [hresult i]
        rcases hj with hj | hj
        · exact hj hi
        · exact hidle (htrans ▸ hj)
      rw [t.reqResult_site_other r hij]
      exact hkept j hj

/-- The writes request a transition of site `i`. -/
def asksOf (es : List Entry) (i : Fin 64) : Prop := ∃ e ∈ es, e.1 = siteAddr i 0x00 1 ∧ (stateReqOf e.2).isSome = true

/-- A loop over a list changes only what its steps for the list's members change. -/
theorem State.forEach_mem_inv {α : Type} (s : State) (p : State → Prop) (l : List α) (g : α → State → State)
    (h : ∀ a ∈ l, ∀ t, p t → p (g a t)) (h0 : p s) : p (s.forEach l g) :=
  List.foldlRecOn l _ h0 fun t ht a ha => h a ha t ht

/-- A refused set of writes leaves everything but the request results of the sites whose request it holds (R29). -/
theorem State.refusedAt_results (s : State) (at_ : CheckAt) (es : List Entry) :
    s.ResultsOf (asksOf es) (s.refusedAt at_ es) := by
  refine s.forEach_mem_inv _ _ _ (fun i hi t ht => ht.reqTurned ?_ _) (.refl s _)
  obtain ⟨e, he, hask⟩ := List.any_eq_true.1 (List.mem_filter.1 hi).2
  simp only [Bool.and_eq_true, beq_iff_eq] at hask
  exact ⟨e, he, hask.1.1, hask.1.2⟩

/-- One write asks nothing of a site where it is to another subindex, or names no request. -/
theorem not_asksOf_one {a w : Nat} {i : Fin 64} (h : a ≠ siteAddr i 0x00 1 ∨ stateReqOf w = none) : ¬ asksOf [(a, w)] i := by
  rintro ⟨e, he, haddr, hreq⟩
  obtain rfl := List.mem_singleton.1 he
  rcases h with h | h
  · exact h haddr
  · simp [h] at hreq

/-- A write command that a check refuses answers it, with the results of its requests turned down. -/
theorem State.hostWrite_failed (s : State) (f : Iface) {a v w x : Nat} {d : Dstat} (hup : s.dictUp = true)
    (hc : isCommand (a, w) = false) (ha : (s.served 1).accept a (words32 v (wordsAt a)) = .ok w)
    (hg : (s.served 1).groupCheck f (a, w) = 0) (ho : (s.served 1).openGroup f = none)
    (hr : (s.served 1).outranked a = false) (hd : (s.served 1).checkFail .single [(a, w)] [] = some (d, x)) :
    s.hostWrite f a v = ((s.served 1).refusedAt .single [(a, w)]).answered f d [] := by
  have hone : ∀ e ∈ [(a, w)], (s.served 1).outranked e.1 = false := by simpa using hr
  simp only [State.hostWrite, s.writeValue_eq, s.writeWords_accepted f hup ha,
    State.writeEntries_single _ f (a, w) hc hg ho, Laws.single_refused _ (.iface f) _ _ d x hone hd]

end Sys2Proof.Machine

namespace Sys2Proof.Proofs
open Sys2Proof.Machine

/-- Settles O4: acceptance comes before everything else of the write path, and a failed check leads to `refusedAt` alone. -/
theorem refusedWriteChangesNothing : Obligations.RefusedWriteChangesNothing := by
  intro c f a v s hcmd
  simp only [exec_of_writeOf hcmd]
  refine ⟨fun hdown => ?_, fun d hup href => ?_, fun w d x hup hc hacc hg ho hr hd => ?_⟩
  · rw [State.hostWrite, s.writeValue_eq, s.writeWords_down f _ hdown]
  · rw [State.hostWrite, s.writeValue_eq, s.writeWords_refused f hup href]
  · obtain ⟨hsites, hresult, hkept⟩ := (s.served 1).refusedAt_results .single [(a, w)]
    refine ⟨by rw [s.hostWrite_failed f hup hc hacc hg ho hr hd], hsites, fun i hi => hkept i ?_, hresult⟩
    rcases hi with hi | hi | hi
    · exact .inl (not_asksOf_one (.inl hi))
    · exact .inl (not_asksOf_one (.inr hi))
    · exact .inr hi

end Sys2Proof.Proofs
end

section
/-! PROOFS. One step: the command at the front, or one idle cycle. -/
namespace Sys2Proof.Machine

/-! ## What a code-density run that starts touches -/

/-- `t` differs from `s` in the sites and the applied values alone. -/
def State.SitesDict (s t : State) : Prop := ∃ v d, t = { s with sites := v, dict := d }

theorem State.SitesDict.refl (s : State) : s.SitesDict s := ⟨_, _, rfl⟩

theorem State.SitesDict.trans {s t u : State} (h : s.SitesDict t) (k : t.SitesDict u) : s.SitesDict u := by
  obtain ⟨v, d, rfl⟩ := h
  obtain ⟨w, e, rfl⟩ := k
  exact ⟨w, e, rfl⟩

/-- A loop whose steps keep to the sites and the applied values keeps to them. -/
theorem State.SitesDict.forEach {α : Type} (s : State) (l : List α) (g : α → State → State)
    (h : ∀ a (t : State), t.SitesDict (g a t)) : s.SitesDict (s.forEach l g) :=
  s.forEach_inv (s.SitesDict ·) l g (fun a t ht => ht.trans (h a t)) (.refl s)

theorem State.queueWords_sitesDict (s : State) (i : Fin 64) (c : Fin 8) (first : Nat) (rest : List Nat) (epoch : Nat) :
    s.SitesDict (s.queueWords i c first rest epoch) := by
  simp only [State.queueWords]
  split <;> exact ⟨_, _, rfl⟩

theorem State.intAfter_sitesDict (s : State) (i : Fin 64) (k : Fin 4) (closed : BitVec 76) :
    s.SitesDict (s.intAfter i k none closed) := by
  simp only [State.intAfter]
  split <;> exact ⟨_, _, rfl⟩

theorem State.intRecord_sitesDict (s : State) (i : Fin 64) (k : Fin 4) (start : Seen) (est loss stepped : Bool) (bits : Nat) :
    s.SitesDict (s.intRecord i k start est loss stepped bits) :=
  (s.queueWords_sitesDict i _ _ _ _).trans ⟨_, _, rfl⟩

theorem State.intTimeout_sitesDict (s : State) (i : Fin 64) (k : Fin 4) (loss : Bool) :
    s.SitesDict (s.intTimeout i k loss) := by
  simp only [State.intTimeout]
  split
  · exact (s.intRecord_sitesDict i k _ _ _ _ _).trans (State.intAfter_sitesDict _ i k _)
  · exact .refl s

theorem State.freqRecord_sitesDict (s : State) (i : Fin 64) (f : Fin 2) (est nosig stepped : Bool) (t : Nat) (n : BitVec 32) :
    s.SitesDict (s.freqRecord i f est nosig stepped t n) :=
  (s.queueWords_sitesDict i _ _ _ _).trans ⟨_, _, rfl⟩

theorem State.freqAfter_sitesDict (s : State) (i : Fin 64) (f : Fin 2) (next : Option (Seen × BitVec 32)) :
    s.SitesDict (s.freqAfter i f next) := by
  simp only [State.freqAfter]
  split <;> exact ⟨_, _, rfl⟩

theorem State.freqNosig_sitesDict (s : State) (i : Fin 64) (f : Fin 2) (loss : Bool) :
    s.SitesDict (s.freqNosig i f loss) := by
  have hloss (g : FreqChan → FreqChan) : s.SitesDict (s.modFreq i f g) := ⟨_, _, rfl⟩
  simp only [State.freqNosig]
  split
  · split <;>
      exact ((hloss _).trans (State.freqRecord_sitesDict _ i f _ _ _ _ _)).trans (State.freqAfter_sitesDict _ i f none)
  · exact .refl s

/-- What a SPECIAL run that starts closes in one site: the records, then the gates, of its sources (R260, R263). -/
def State.specialClosed (s : State) (i : Fin 64) : State :=
  (s.forEach (List.finRange 4) fun k s =>
      if selSpecial (field (s.intCfg i k) 5 0) || selSpecial (field (s.intCfg i k) 11 6) then s.intTimeout i k true else s).forEach
    allUnits fun f s =>
      if ((s.site i).tdc.freqs[f.val]).gate.isSome && selSpecial (field (s.freqCfg i f) 5 0) then s.freqNosig i f true else s

theorem State.specialClosed_sitesDict (s : State) (i : Fin 64) : s.SitesDict (s.specialClosed i) := by
  refine .trans (.forEach s _ _ fun k t => ?_) (.forEach _ _ _ fun f t => ?_)
  · split
    · exact t.intTimeout_sitesDict i k true
    · exact .refl t
  · split
    · exact t.freqNosig_sitesDict i f true
    · exact .refl t

theorem State.specialBegun_due (s : State) (h : s.special.runsAt s.clock = true ∧ ¬ s.special.closed = true) :
    s.specialBegun =
      let t := s.forEach allSites fun i s => s.specialClosed i
      { t with special := { t.special with closed := true } } := by
  simp only [State.specialBegun, State.specialClosed, if_pos h]

/-- A SPECIAL run that starts touches the sites, the applied values and the special converters alone. -/
theorem State.specialBegun_eq (s : State) : ∃ v d p, s.specialBegun = { s with sites := v, dict := d, special := p } := by
  by_cases hdue : s.special.runsAt s.clock = true ∧ ¬ s.special.closed = true
  · obtain ⟨v, d, h⟩ := State.SitesDict.forEach s allSites (fun i s => s.specialClosed i) fun i t => t.specialClosed_sitesDict i
    exact ⟨v, d, _, by rw [s.specialBegun_due hdue, h]⟩
  · exact ⟨_, _, _, if_neg hdue⟩

@[simp] theorem State.specialBegun_clock (s : State) : s.specialBegun.clock = s.clock := by
  obtain ⟨v, d, p, h⟩ := s.specialBegun_eq
  rw [h]

/-- Without a run that is due nothing begins. -/
theorem State.specialBegun_none (s : State) (h : s.special.start = none) : s.specialBegun = s := by
  simp [State.specialBegun, SpecialTdc.runsAt, h]

/-! ## One CK_SEQ cycle -/

theorem addGrains_eq (t : Time) (n : Nat) : addGrains t n = t + BitVec.ofNat 68 n := by
  rw [addGrains, BitVec.ofInt_add, BitVec.ofInt_natCast, BitVec.ofInt_natCast, BitVec.ofNat_toNat, BitVec.setWidth_eq]

/-- A time lies before the one that follows it by less than half the range of times. -/
theorem before_addGrains (t : Time) (n : Nat) (h0 : 0 < n) (h : n < 2 ^ 67) : before t (addGrains t n) = true := by
  have hspan : (addGrains t n - t).toNat = n := by
    rw [addGrains_eq, BitVec.add_comm, BitVec.add_sub_cancel, BitVec.toNat_ofNat, Nat.mod_eq_of_lt (by omega)]
  have hne : t ≠ addGrains t n := by
    intro e
    rw [← e, BitVec.sub_self, BitVec.toNat_zero] at hspan
    omega
  simpa [before, hspan, hne] using h

theorem epochOf_addGrains (t : Time) (n : Nat) (h : grains t + n < 2 ^ 52) : epochOf (addGrains t n) = epochOf t := by
  have ht := t.isLt
  simp only [grains] at h
  rw [addGrains_eq, epochOf, epochOf, BitVec.toNat_add, BitVec.toNat_ofNat]
  omega

theorem State.seqLen_eq (s : State) : s.seqLen = if s.pll.state = .acquire then 5120 else 2560 := rfl

theorem State.before_cycle (s : State) : before s.clock (addGrains s.clock s.seqLen) = true := by
  apply before_addGrains <;> rw [s.seqLen_eq] <;> split <;> decide

theorem State.tick_clock (s : State) : s.tick.clock = s.clock + BitVec.ofNat 68 s.seqLen := by
  rw [State.tick, State.specialBegun_clock, State.advance_clock, laterOf, if_pos s.before_cycle, addGrains_eq]

/-- An idle cycle within one epoch, with no SPECIAL run to start, moves the clock alone. -/
theorem State.tick_quiet (s : State) (hepoch : grains s.clock + s.seqLen < 2 ^ 52) (hrun : s.special.start = none) :
    s.tick = { s with clock := s.clock + BitVec.ofNat 68 s.seqLen } := by
  rw [State.tick, s.advance_same _ (epochOf_addGrains _ _ hepoch) s.before_cycle, addGrains_eq]
  exact State.specialBegun_none _ hrun

theorem step_cons (c : Instr) (s : State) : step { s with pending := c :: s.pending } = exec c s := rfl

theorem step_idle {s : State} (h : s.pending = []) : step s = .next s.tick := by
  simp [step, h]

end Sys2Proof.Machine

namespace Sys2Proof.Proofs
open Sys2Proof.Machine

/-- Settles O1: an idle cycle is `State.tick`, whose advance to the next CK_SEQ edge sets the clock. -/
theorem stepRunsFrontCommand : Obligations.StepRunsFrontCommand := by
  refine ⟨step_cons, fun s hidle => ?_⟩
  rw [← s.seqLen_eq]
  exact ⟨step_idle hidle, s.tick_clock, s.tick_quiet⟩

end Sys2Proof.Proofs
end

section
/-! PROOFS. The state after reset. -/
namespace Sys2Proof.Machine

@[simp] theorem State.reset_site (i : Fin 64) : State.reset.site i = Site.reset := by
  simp [State.site, State.reset]

@[simp] theorem State.reset_region (q : Fin 4) : State.reset.region q = Region.reset := by
  simp [State.region, State.reset]

/-- The DSP of a site is stopped after reset, whether the spare serves the site or not. -/
@[simp] theorem State.reset_dsp (i : Fin 64) : State.reset.dsp i = Dsp.reset := by
  unfold State.dsp
  split
  · rw [State.reset_region]; rfl
  · rw [State.reset_site]; rfl

@[simp] theorem State.reset_siteThermal (i : Fin 64) : State.reset.siteThermal i = SiteThermal.reset := by
  simp [State.siteThermal, State.reset, Thermal.reset]

theorem State.reset_inv : Claims.Inv State.reset := ⟨fun h => absurd rfl h, rfl⟩

/-- Where a site and its engines stand after reset (Tables 1.12, 6.10). -/
theorem State.reset_site_parts (i : Fin 64) : State.reset.siteState i = .parked ∧ (State.reset.site i).ctl.cause = .reset ∧
    (State.reset.site i).ctl.reqResult = .none ∧ (State.reset.psq i).state = .idle ∧ (State.reset.mse i).state = .idle ∧
    (State.reset.dsp i).state = .stopped ∧ State.reset.throttleStep i = 0 := by
  simp only [State.siteState, State.psq, State.mse, State.throttleStep, State.reset_site, State.reset_dsp,
    State.reset_siteThermal]
  decide

/-- DEVICE_ID and SITE_ENABLE as the dictionary's table gives them (Tables 2.8, 2.10). -/
theorem State.reset_identity : State.reset.cfg 0x2000 1 = 0x5164 ∧ State.reset.cfg 0x2000 2 = 2 ∧
    State.reset.cfg 0x2000 3 = 0x100 ∧ State.reset.cfg 0x2002 1 = 2 ^ 64 - 1 := by
  decide +kernel

theorem State.reset_groups_free : ∀ g ∈ groupNums, (State.reset.group g).state = .free := by
  decide +kernel

end Sys2Proof.Machine

namespace Sys2Proof.Proofs
open Sys2Proof.Machine

/-- Settles O2: the applied values come from the dictionary's table, the rest is how `State.reset` is put together. -/
theorem resetState : Obligations.ResetState := by
  obtain ⟨hpart, hstep, hversion, henable⟩ := State.reset_identity
  exact ⟨rfl, hpart, hstep, hversion, henable, State.reset_site_parts, rfl, rfl, State.reset_groups_free, rfl, rfl,
    State.reset_inv⟩

end Sys2Proof.Proofs
end

section
/-! PROOFS. The PLL's events in a state whose list of applied values is not in canonical form. -/
namespace Sys2Proof.Machine

/-- The PLL in ACQUIRE with the committed mode FULL, PLL_LOCK_LOST acknowledged, and site 0 in SAFE with nothing that holds it and
with its interval channel 0 STARTED. The keys of the applied values fall: the entry of MODE (1, ECONOMY) is hidden behind that
of TDC_INTERVAL of channel 0 (ENABLE set over the value after reset). -/
def hiddenMode : State :=
  let start : Seen := { sel := 0, t := 0, est := false, steps := 0, stepN := 0 }
  let lockLost : GtRecord :=
    { origin := .ofChip, kind := 0x10, detail := 0, tFirst := 0, tLast := 0, since := 0, heard := 0, called := 0, count := 1,
      applied := 1, gone := false, acked := true, escalated := false, scopes := [], reached := [], rseq := 0 }
  let s := (State.reset.modCtl 0 fun c => { c with state := .safe }).modInt 0 0 fun ch => { ch with state := .started start }
  { s.gtSet 1 (some lockLost) with
    pll := { s.pll with state := .acquire }
    dict := [(siteAddr 0 0xE1 1, initial (siteAddr 0 0xE1 1) + 2 ^ 14), (addrOf 0x2100 1, 1)] }

/-- The lock criterion takes the PLL to LOCKED, and PLL_LOCK_LOST clears as it goes, which releases site 0 to PARKED. Its interval
record closes and ENABLE returns to 0, the value after reset: the entry leaves the list, MODE reads ECONOMY, and the PLL goes on
into ACQUIRE. -/
theorem hiddenMode_lockMet : hiddenMode.cfg 0x2100 1 = 0 ∧ (hiddenMode.gone .ofChip 0x10).cfg 0x2100 1 = 1 ∧
    hiddenMode.lockMet.pll.state = .acquire := by decide +kernel

end Sys2Proof.Machine

namespace Sys2Proof.Proofs
open Sys2Proof.Machine

/-- Refutes O24: the statement does not ask that the applied values are in canonical form (`sparseWf`, as O25 asks where it needs
it). In `hiddenMode`, where they are not, the command that ends ACQUIRE changes what MODE reads on its way, and does not leave the
PLL LOCKED. -/
theorem not_pllEvents : ¬ Obligations.PllEvents := by
  intro h
  obtain ⟨hacquire, -⟩ := h hiddenMode
  obtain ⟨t, ht, hlocked, -⟩ := hacquire rfl
  have hnext : hiddenMode.lockMet = t := Host.Outcome.next.inj ht
  obtain ⟨-, -, hreacquires⟩ := hiddenMode_lockMet
  rw [← hnext, hreacquires] at hlocked
  cases hlocked

end Sys2Proof.Proofs
end

section
/-! PROOFS. Clock outputs: a change of the divider at a terminal count. -/
namespace Sys2Proof.Machine

theorem before_self (t : Time) : before t t = false := by simp [before]

/-- New settings whose terminal count has come wait no longer. -/
theorem Cko.settled_due {c : Cko} {t : Time} (h : ∀ n, c.next = some n → before t n.1 = false) : (c.settled t).next = none := by
  unfold Cko.settled
  split
  · next n hn => rw [if_neg (by simp [h n hn])]
  · assumption

theorem Cko.switched_next (c : Cko) (t : Time) (on : Bool) : (c.switched t on).next = (c.settled t).next := by
  simp only [Cko.switched]
  split
  · rfl
  · split <;> rfl

/-- At a terminal count new settings are in force at once (R75): nothing is left to wait for. -/
theorem Cko.retuned_next_at_terminal_count {c : Cko} {t : Time} (div delay : Nat) (on : Bool)
    (h : (c.settled t).cur.nextRise t = t) : ((c.retuned t div delay).switched t on).next = none := by
  rw [Cko.switched_next]
  apply Cko.settled_due
  simp only [Cko.retuned]
  split
  · intro n hn; cases hn
  · intro n hn
    cases hn
    rw [h]
    exact before_self t

/-- The update of an output at a terminal count leaves it no settings to come. -/
theorem State.ckoUpdate_next_at_terminal_count (s : State) (n : Fin 4)
    (h : ((s.ckos[n.val]).settled s.clock).cur.nextRise s.clock = s.clock) : ((s.ckoUpdate n).ckos[n.val]).next = none := by
  simp only [State.ckoUpdate, vmod_same]
  exact Cko.retuned_next_at_terminal_count _ _ _ h

end Sys2Proof.Machine

namespace Sys2Proof.Proofs
open Sys2Proof.Machine

/-- Refutes O26: after reset the time base stands at a terminal count of CKO0, so that a new divider (3 + 1 in place of 64)
is in force at once, where the statement has it wait in `next`. -/
theorem not_clockOutputs : ¬ Obligations.ClockOutputs := by
  intro h
  let s := State.reset.setVal (addrOf 0x2110 2) 3
  have hnew : ((s.ckos[0]).settled s.clock).cur.div ≠ s.cfg 0x2110 2 + 1 := by decide +kernel
  have hcount : ((s.ckos[0]).settled s.clock).cur.nextRise s.clock = s.clock := by decide +kernel
  obtain ⟨houtput, -⟩ := h
  obtain ⟨-, -, hwaits, -⟩ := houtput 0 s
  obtain ⟨x, hx, -⟩ := hwaits (.inl hnew)
  have hnone : ((s.clockEffect 0x2110 1).ckos[0]).next = none := s.ckoUpdate_next_at_terminal_count 0 hcount
  exact absurd (hx.symm.trans hnone) (Option.some_ne_none _)

end Sys2Proof.Proofs
end

section
/-! PROOFS. What the operations on sites, ports and records leave of the clocking: the time base, the applied values, the PLL and
the SYNC status. -/
namespace Sys2Proof.Machine

/-- What the events of chapter 03 read and write. -/
def State.clocking (s : State) : Time × List (Nat × Nat) × Pll × SyncCtl := (s.clock, s.dict, s.pll, s.sync)

theorem State.clocking_parts {s : State} {c : Time} {d : List (Nat × Nat)} {p : Pll} {y : SyncCtl}
    (h : s.clocking = (c, d, p, y)) : s.clock = c ∧ s.dict = d ∧ s.pll = p ∧ s.sync = y := by
  cases h
  exact ⟨rfl, rfl, rfl, rfl⟩

variable (s : State)

/-! ## Loops and branches -/

@[simp] theorem State.clocking_ite (c : Prop) [Decidable c] (t u : State) :
    (if c then t else u).clocking = if c then t.clocking else u.clocking := apply_ite _ c t u

@[simp] theorem State.clocking_forEach {α : Type} (l : List α) (g : α → State → State)
    (h : ∀ a (t : State), (g a t).clocking = t.clocking) : (s.forEach l g).clocking = s.clocking :=
  s.forEach_inv (·.clocking = s.clocking) l g (fun a t ht => (h a t).trans ht) rfl

/-! ## Parts of the state -/

@[simp] theorem State.clocking_modSite (i : Fin 64) (f : Site → Site) : (s.modSite i f).clocking = s.clocking := rfl
@[simp] theorem State.clocking_modCell (i : Fin 64) (c : Fin 8) (f : PinCell → PinCell) :
    (s.modCell i c f).clocking = s.clocking := rfl
@[simp] theorem State.clocking_modBridge (i : Fin 64) (u : Fin 2) (f : Bridge → Bridge) :
    (s.modBridge i u f).clocking = s.clocking := rfl
@[simp] theorem State.clocking_modCtl (i : Fin 64) (f : SiteCtl → SiteCtl) : (s.modCtl i f).clocking = s.clocking := rfl
@[simp] theorem State.clocking_modPsq (i : Fin 64) (f : Psq → Psq) : (s.modPsq i f).clocking = s.clocking := rfl
@[simp] theorem State.clocking_modMse (i : Fin 64) (f : Mse → Mse) : (s.modMse i f).clocking = s.clocking := rfl
@[simp] theorem State.clocking_modStream (i : Fin 64) (f : SiteStream → SiteStream) :
    (s.modStream i f).clocking = s.clocking := rfl
@[simp] theorem State.clocking_modBushel (i : Fin 64) (f : Bushel → Bushel) : (s.modBushel i f).clocking = s.clocking := rfl
@[simp] theorem State.clocking_modTdc (i : Fin 64) (f : Tdc → Tdc) : (s.modTdc i f).clocking = s.clocking := rfl
@[simp] theorem State.clocking_modTdcCell (i : Fin 64) (c : Fin 8) (f : CellTdc → CellTdc) :
    (s.modTdcCell i c f).clocking = s.clocking := rfl
@[simp] theorem State.clocking_modInt (i : Fin 64) (k : Fin 4) (f : Interval → Interval) :
    (s.modInt i k f).clocking = s.clocking := rfl
@[simp] theorem State.clocking_modFreq (i : Fin 64) (k : Fin 2) (f : FreqChan → FreqChan) :
    (s.modFreq i k f).clocking = s.clocking := rfl
@[simp] theorem State.clocking_modRegion (q : Fin 4) (f : Region → Region) : (s.modRegion q f).clocking = s.clocking := rfl
@[simp] theorem State.clocking_modCal (i : Fin 64) (f : SiteCal → SiteCal) : (s.modCal i f).clocking = s.clocking := rfl
@[simp] theorem State.clocking_modPort (p : Fin 2) (f : Port → Port) : (s.modPort p f).clocking = s.clocking := rfl
@[simp] theorem State.clocking_drawn : s.drawn.clocking = s.clocking := rfl

@[simp] theorem State.clocking_modDsp (i : Fin 64) (f : Dsp → Dsp) : (s.modDsp i f).clocking = s.clocking := by
  simp [State.modDsp]

/-! ## Marks, packets, messages -/

@[simp] theorem State.clocking_queueMark (i : Fin 64) (k : Nat) (t : Time) (a : Nat) :
    (s.queueMark i k t a).clocking = s.clocking := by
  obtain ⟨v, h⟩ := s.queueMark_eq i k t a
  rw [h]; rfl

@[simp] theorem State.clocking_markAll (k : Nat) (t : Time) (a : Nat) : (s.markAll k t a).clocking = s.clocking := by
  simp [State.markAll]

@[simp] theorem State.clocking_toPort (p : Fin 2) (w : TxWait) : (s.toPort p w).clocking = s.clocking := by
  obtain ⟨f, h⟩ := s.toPort_eq p w
  rw [h]; rfl

@[simp] theorem State.clocking_sendStamped (type site epoch dest : Nat) (payload : List (BitVec 64)) (stamp : Time) :
    (s.sendStamped type site epoch dest payload stamp).clocking = s.clocking := by
  have htook : (s.tookSeq type site).clocking = s.clocking := rfl
  simp [State.sendStamped, htook]

@[simp] theorem State.clocking_sendChip (type dest : Nat) (payload : List (BitVec 64)) :
    (s.sendChip type dest payload).clocking = s.clocking := s.clocking_sendStamped ..

@[simp] theorem State.clocking_epochPacket : s.epochPacket.clocking = s.clocking := s.clocking_sendChip ..

@[simp] theorem State.clocking_pushEmcy (code errReg : Nat) (message time : BitVec 64) :
    (s.pushEmcy code errReg message time).clocking = s.clocking := by
  unfold State.pushEmcy; split <;> rfl

@[simp] theorem State.clocking_oweEmcy (code errReg : Nat) (message time : BitVec 64) :
    (s.oweEmcy code errReg message time).clocking = s.clocking := rfl

@[simp] theorem State.clocking_queueEvent (e : BitVec 256) : (s.queueEvent e).clocking = s.clocking := by
  unfold State.queueEvent; split <;> rfl

/-! ## Pin cells -/

@[simp] theorem State.clocking_ppmuLimit (i : Fin 64) (c : Fin 8) : (s.ppmuLimit i c).clocking = s.clocking := by
  simp [State.ppmuLimit]

@[simp] theorem State.clocking_ppmuConnect (i : Fin 64) (c : Fin 8) : (s.ppmuConnect i c).clocking = s.clocking := by
  simp [State.ppmuConnect]

@[simp] theorem State.clocking_cellIdle (i : Fin 64) (t : Time) (c : Fin 8) : (s.cellIdle i t c).clocking = s.clocking := by
  simp [State.cellIdle]

@[simp] theorem State.clocking_cellSafe (i : Fin 64) (t : Time) (c : Fin 8) : (s.cellSafe i t c).clocking = s.clocking := rfl

@[simp] theorem State.clocking_cellZ (i : Fin 64) (t : Time) (c : Fin 8) : (s.cellZ i t c).clocking = s.clocking := rfl

@[simp] theorem State.clocking_siteLevels (i : Fin 64) : (s.siteLevels i).clocking = s.clocking :=
  s.clocking_forEach _ _ fun _ _ => rfl

/-! ## Bridge units -/

@[simp] theorem State.clocking_waveSet (i : Fin 64) (u : Fin 2) (t : Time) : (s.waveSet i u t).clocking = s.clocking := rfl

@[simp] theorem State.clocking_waveEnd (i : Fin 64) (u : Fin 2) : (s.waveEnd i u).clocking = s.clocking := by
  simp [State.waveEnd]

@[simp] theorem State.clocking_buFollow (i : Fin 64) (u : Fin 2) : (s.buFollow i u).clocking = s.clocking := by
  simp [State.buFollow]

@[simp] theorem State.clocking_buConnect (i : Fin 64) (u : Fin 2) : (s.buConnect i u).clocking = s.clocking := by
  simp [State.buConnect]

@[simp] theorem State.clocking_buOpen (i : Fin 64) (u : Fin 2) (code : Int) : (s.buOpen i u code).clocking = s.clocking := by
  simp [State.buOpen]

@[simp] theorem State.clocking_buSettled (i : Fin 64) (u : Fin 2) : (s.buSettled i u).clocking = s.clocking := by
  simp [State.buSettled]

@[simp] theorem State.clocking_buOpenAt (i : Fin 64) (u : Fin 2) (code : Int) : (s.buOpenAt i u code).clocking = s.clocking := by
  simp [State.buOpenAt]

@[simp] theorem State.clocking_buSafeEntry (i : Fin 64) (u : Fin 2) : (s.buSafeEntry i u).clocking = s.clocking := by
  simp [State.buSafeEntry]

@[simp] theorem State.clocking_buGain (i : Fin 64) (u : Fin 2) : (s.buGain i u).clocking = s.clocking := by
  simp [State.buGain]

@[simp] theorem State.clocking_buRelease (i : Fin 64) (u : Fin 2) : (s.buRelease i u).clocking = s.clocking := by
  simp [State.buRelease]

@[simp] theorem State.clocking_acqStart (i : Fin 64) (u : Fin 2) : (s.acqStart i u).clocking = s.clocking := rfl

@[simp] theorem State.clocking_acqLeave (i : Fin 64) (u : Fin 2) : (s.acqLeave i u).clocking = s.clocking := rfl

@[simp] theorem State.clocking_acqReady (i : Fin 64) (u : Fin 2) : (s.acqReady i u).clocking = s.clocking := by
  simp [State.acqReady]

@[simp] theorem State.clocking_acqSuspend (i : Fin 64) (on : Bool) : (s.acqSuspend i on).clocking = s.clocking :=
  s.clocking_forEach _ _ fun _ _ => rfl

/-! ## The pattern sequencer and the MSE -/

@[simp] theorem State.clocking_pushResults (i : Fin 64) (w : Nat) : (s.pushResults i w).clocking = s.clocking := by
  have hcount : (s.countDiscard i .results 1).clocking = s.clocking := rfl
  simp [State.pushResults, hcount]

@[simp] theorem State.clocking_resultsStop (i : Fin 64) : (s.resultsStop i).clocking = s.clocking := by
  simp [State.resultsStop]

@[simp] theorem State.clocking_segNoted (i : Fin 64) (t : Time) (old : BitVec 8) : (s.segNoted i t old).clocking = s.clocking := by
  simp [State.segNoted]

@[simp] theorem State.clocking_psqTrack (i : Fin 64) (t : Time) (f : Psq → Psq) : (s.psqTrack i t f).clocking = s.clocking := by
  simp [State.psqTrack]

@[simp] theorem State.clocking_setLines (i : Fin 64) (lines : BitVec 4) (starts : Bool) (t : Time) :
    (s.setLines i lines starts t).clocking = s.clocking := rfl

@[simp] theorem State.clocking_psqHalt (i : Fin 64) (cause : StopCause) : (s.psqHalt i cause).clocking = s.clocking := by
  simp [State.psqHalt]

@[simp] theorem State.clocking_driveEdge (i : Fin 64) (c : Fin 8) (t : Time) (st : DrvState) :
    (s.driveEdge i c t st).clocking = s.clocking := by
  simp [State.driveEdge]

@[simp] theorem State.clocking_vecDrive (i : Fin 64) (v : BitVec 64) (zero : Time) (cut : Option Time) (c : Fin 8) :
    (s.vecDrive i v zero cut c).clocking = s.clocking := by
  simp [State.vecDrive]

@[simp] theorem State.clocking_vecStamp (i : Fin 64) (v : BitVec 64) (zero : Time) (c : Fin 8) :
    (s.vecStamp i v zero c).clocking = s.clocking := by
  simp [State.vecStamp]

@[simp] theorem State.clocking_vecMarkers (i : Fin 64) (v : BitVec 64) (zero : Time) :
    (s.vecMarkers i v zero).clocking = s.clocking := by
  simp [State.vecMarkers]

@[simp] theorem State.clocking_vecBegin (i : Fin 64) (v : BitVec 64) (zero : Time) (cut : Option Time) :
    (s.vecBegin i v zero cut).clocking = s.clocking := by
  simp [State.vecBegin]

@[simp] theorem State.clocking_bushelTrigger (i : Fin 64) (src : Nat) (t : Time) :
    (s.bushelTrigger i src t).clocking = s.clocking := by
  simp [State.bushelTrigger]

@[simp] theorem State.clocking_vecBcap (i : Fin 64) (v : BitVec 64) (zero : Time) (cut : Option Time) :
    (s.vecBcap i v zero cut).clocking = s.clocking := by
  simp only [State.vecBcap]
  split
  · rfl
  · simp

@[simp] theorem State.clocking_vecCut (i : Fin 64) : (s.vecCut i).clocking = s.clocking := by
  simp only [State.vecCut]
  split
  · simp
  · rfl

@[simp] theorem State.clocking_mseStopAcq (i : Fin 64) : (s.mseStopAcq i).clocking = s.clocking := by
  have hstop (t : State) (u : Fin 2) : (t.acqStopAfter i u).clocking = t.clocking := rfl
  simp [State.mseStopAcq, hstop]

@[simp] theorem State.clocking_mseCause (i : Fin 64) (cause : Nat) : (s.mseCause i cause).clocking = s.clocking := by
  simp [State.mseCause, State.mseAbandon]

/-! ## Into SAFE -/

@[simp] theorem State.clocking_calAbandon (i : Fin 64) : (s.calAbandon i).clocking = s.clocking := rfl

@[simp] theorem State.clocking_bushelSite (i : Fin 64) : (s.bushelSite i).clocking = s.clocking := by
  have harmed : (s.bushelArmed i).clocking = s.clocking := rfl
  simp [State.bushelSite, harmed]

@[simp] theorem State.clocking_siteToSafe (i : Fin 64) (cause : SiteCause) : (s.siteToSafe i cause).clocking = s.clocking := by
  have hcells (t : State) : (t.forEach allCells fun c s => s.cellSafe i s.clock c).clocking = t.clocking :=
    t.clocking_forEach _ _ fun c u => u.clocking_cellSafe i u.clock c
  simp [State.siteToSafe, hcells]

@[simp] theorem State.clocking_forceSite (sc : Scope) (cause : SiteCause) (i : Fin 64) :
    (s.forceSite sc cause i).clocking = s.clocking := by
  simp only [State.forceSite]
  split <;> simp

@[simp] theorem State.clocking_gtForce (kind : Nat) (scopes : List Scope) : (s.gtForce kind scopes).clocking = s.clocking := by
  simp [State.gtForce]

end Sys2Proof.Machine
end

section
/-! PROOFS. What presenting and clearing a fault leave of the SYNC status and of the form of the applied values. -/
namespace Sys2Proof.Machine

/-- `t` has SYNC_LAST and SYNC_COUNT of `s`, and its applied values are in canonical form where those of `s` are. -/
structure State.KeepsSync (s t : State) : Prop where
  last  : t.sync.last = s.sync.last
  count : t.sync.count = s.sync.count
  wf    : sparseWf initial s.dict = true → sparseWf initial t.dict = true

theorem State.KeepsSync.trans {s t u : State} (h : s.KeepsSync t) (k : t.KeepsSync u) : s.KeepsSync u :=
  ⟨k.last.trans h.last, k.count.trans h.count, fun hwf => k.wf (h.wf hwf)⟩

theorem State.KeepsSync.of_parts {s t : State} {c : Time} {d : List (Nat × Nat)} {p : Pll} {y : SyncCtl}
    (h : t.clocking = (c, d, p, y)) (hlast : y.last = s.sync.last) (hcount : y.count = s.sync.count)
    (hwf : sparseWf initial s.dict = true → sparseWf initial d = true) : s.KeepsSync t := by
  obtain ⟨-, rfl, -, rfl⟩ := State.clocking_parts h
  exact ⟨hlast, hcount, hwf⟩

theorem State.KeepsSync.of_clocking {s t : State} (h : t.clocking = s.clocking) : s.KeepsSync t := .of_parts h rfl rfl id

theorem State.KeepsSync.refl (s : State) : s.KeepsSync s := .of_clocking rfl

theorem State.KeepsSync.forEach {α : Type} (s : State) (l : List α) (g : α → State → State)
    (h : ∀ a (t : State), t.KeepsSync (g a t)) : s.KeepsSync (s.forEach l g) :=
  s.forEach_inv (s.KeepsSync ·) l g (fun a t ht => ht.trans (h a t)) (.refl s)

variable (s : State)

theorem State.setVal_keepsSync (a v : Nat) : s.KeepsSync (s.setVal a v) := ⟨rfl, rfl, s.setVal_wf a v⟩

/-! ## Records and gates that close (R256–R259) -/

@[simp] theorem State.clocking_stampLoss (i : Fin 64) (c : Fin 8) (n : Nat) : (s.stampLoss i c n).clocking = s.clocking := rfl

@[simp] theorem State.clocking_queueWords (i : Fin 64) (c : Fin 8) (first : Nat) (rest : List Nat) (epoch : Nat) :
    (s.queueWords i c first rest epoch).clocking = s.clocking := by
  simp [State.queueWords]

@[simp] theorem State.clocking_intRecord (i : Fin 64) (k : Fin 4) (start : Seen) (est loss stepped : Bool) (bits : Nat) :
    (s.intRecord i k start est loss stepped bits).clocking = s.clocking := by
  simp [State.intRecord]

@[simp] theorem State.clocking_freqRecord (i : Fin 64) (f : Fin 2) (est nosig stepped : Bool) (t : Nat) (n : BitVec 32) :
    (s.freqRecord i f est nosig stepped t n).clocking = s.clocking := by
  simp [State.freqRecord]

theorem State.intAfter_keepsSync (i : Fin 64) (k : Fin 4) (closed : BitVec 76) : s.KeepsSync (s.intAfter i k none closed) := by
  simp only [State.intAfter]
  split
  · exact .of_clocking (by simp)
  · exact (s.setVal_keepsSync _ _).trans (.of_clocking (State.clocking_modInt _ i k _))

theorem State.intTimeout_keepsSync (i : Fin 64) (k : Fin 4) (loss : Bool) : s.KeepsSync (s.intTimeout i k loss) := by
  simp only [State.intTimeout]
  split
  · exact .trans (.of_clocking (by simp)) (State.intAfter_keepsSync _ i k _)
  · exact .refl s

theorem State.freqAfter_keepsSync (i : Fin 64) (f : Fin 2) (next : Option (Seen × BitVec 32)) :
    s.KeepsSync (s.freqAfter i f next) := by
  simp only [State.freqAfter]
  split
  · exact .of_clocking (by simp)
  · exact (s.setVal_keepsSync _ _).trans (.of_clocking (State.clocking_modFreq _ i f _))

theorem State.freqNosig_keepsSync (i : Fin 64) (f : Fin 2) (loss : Bool) : s.KeepsSync (s.freqNosig i f loss) := by
  simp only [State.freqNosig]
  split
  · split <;> exact .trans (.of_clocking (by simp)) (State.freqAfter_keepsSync _ i f none)
  · exact .refl s

theorem State.tdcClose_keepsSync (i : Fin 64) (loss : Bool) : s.KeepsSync (s.tdcClose i loss) := by
  refine .trans (.forEach s _ _ fun k t => t.intTimeout_keepsSync i k loss) (.forEach _ _ _ fun f t => ?_)
  split
  · exact t.freqNosig_keepsSync i f loss
  · exact .refl t

/-! ## Out of SAFE -/

theorem State.siteIsolate_keepsSync (i : Fin 64) : s.KeepsSync (s.siteIsolate i) := by
  have hcells (t : State) : (t.forEach allCells fun c s => s.cellZ i s.clock c).clocking = t.clocking :=
    t.clocking_forEach _ _ fun c u => u.clocking_cellZ i u.clock c
  simp only [State.siteIsolate, State.bushelLeave]
  refine .trans (.trans (.of_clocking ?_) (State.tdcClose_keepsSync _ i false)) (.of_clocking (State.clocking_modBushel _ i _))
  simp [hcells]

theorem State.siteRelease_keepsSync (i : Fin 64) (cause : SiteCause) : s.KeepsSync (s.siteRelease i cause) := by
  simp only [State.siteRelease]
  split
  · refine .trans ?_ (.of_clocking (State.clocking_queueMark _ ..))
    split
    · exact .trans (.of_clocking (by simp)) (State.siteIsolate_keepsSync _ i)
    · exact .of_clocking (by simp)
  · exact .refl s

theorem State.settleSite_keepsSync (cause : SiteCause) (i : Fin 64) : s.KeepsSync (s.settleSite cause i) := by
  simp only [State.settleSite]
  split
  · exact .of_clocking (by simp)
  · exact .trans (.of_clocking (by simp)) (State.siteRelease_keepsSync _ i cause)

theorem State.settleSites_keepsSync (cause : SiteCause) : s.KeepsSync (s.settleSites cause) :=
  .forEach s _ _ fun i t => t.settleSite_keepsSync cause i

/-! ## Records of faults -/

@[simp] theorem State.clocking_gtSet (n : Nat) (r : Option GtRecord) : (s.gtSet n r).clocking = s.clocking := by
  unfold State.gtSet
  split
  · rfl
  · split <;> rfl

@[simp] theorem State.clocking_gtDrop (n : Nat) : (s.gtDrop n).clocking = s.clocking := s.clocking_gtSet n none

@[simp] theorem State.clocking_gtNotify (o : Origin) (kind : Nat) (detail : BitVec 32) (time : BitVec 64) :
    (s.gtNotify o kind detail time).clocking = s.clocking := by
  simp only [State.gtNotify]
  split <;> simp

@[simp] theorem State.clocking_gtAnnounce (n : Nat) : (s.gtAnnounce n).clocking = s.clocking := by
  simp only [State.gtAnnounce]
  split <;> simp

@[simp] theorem State.clocking_gtOverflowCheck : s.gtOverflowCheck.clocking = s.clocking := by
  simp only [State.gtOverflowCheck]
  split <;> simp

@[simp] theorem State.clocking_gtLoud (o : Origin) (level : Nat) : (s.gtLoud o level).clocking = s.clocking := by
  unfold State.gtLoud; split <;> rfl

@[simp] theorem State.clocking_withGauntlet (g : Gauntlet) : ({ s with gauntlet := g } : State).clocking = s.clocking := rfl

@[simp] theorem State.clocking_gtLost (kind level : Nat) (scopes : List Scope) :
    (s.gtLost kind level scopes).clocking = s.clocking := by
  simp only [State.gtLost]
  split <;> simp

theorem State.gtClear_keepsSync (n : Nat) : s.KeepsSync (s.gtClear n) := by
  simp only [State.gtClear]
  split
  · exact .refl s
  · split
    · exact .trans (.of_clocking (by simp)) (State.settleSites_keepsSync _ .ack)
    · exact .refl s

theorem State.gone_keepsSync (o : Origin) (kind : Nat) : s.KeepsSync (s.gone o kind) := by
  simp only [State.gone]
  split
  · exact .refl s
  · split
    · exact .refl s
    · exact .trans (.of_clocking (by simp)) (State.gtClear_keepsSync _ _)

@[simp] theorem State.clocking_raise (o : Origin) (kind detail flevel : Nat) :
    (s.raise o kind detail flevel).clocking = s.clocking := by
  simp only [State.raise]
  split
  · rfl
  · rw [State.clocking_gtForce]
    split <;> split <;> simp

theorem State.present_keepsSync (o : Origin) (kind detail flevel : Nat) : s.KeepsSync (s.present o kind detail flevel) :=
  .trans (.of_clocking (by simp)) (.forEach _ _ _ fun r t => t.gone_keepsSync r.origin r.kind)

end Sys2Proof.Machine
end

section
/-! PROOFS. The PLL, the steps of the time base and SYNC_IN edges: what each makes of the clocking. -/
namespace Sys2Proof.Machine

variable (s : State)

/-! ## The PLL changes -/

theorem State.clocking_memGrant {s u : State} {q : Fin 4} (h : s.memGrant q = some u) : u.clocking = s.clocking := by
  simp only [State.memGrant] at h
  split at h
  · cases h
  · split at h
    · cases h
    · cases h
      exact State.clocking_forEach _ _ _ fun j t => t.clocking_forEach _ _ fun _ _ => rfl

@[simp] theorem State.clocking_memRun (q : Fin 4) (more : State → Bool) (n : Nat) :
    (s.memRun q more n).clocking = s.clocking := by
  induction n generalizing s with
  | zero => rfl
  | succ n ih =>
    simp only [State.memRun]
    split
    · split
      · next h => rw [ih, State.clocking_memGrant h]
      · rfl
    · rfl

@[simp] theorem State.clocking_memSync : s.memSync.clocking = s.clocking := by
  simp [State.memSync, State.memServe]

@[simp] theorem State.clocking_siteReclocked (i : Fin 64) : (s.siteReclocked i).clocking = s.clocking :=
  .trans (State.clocking_forEach _ _ _ fun _ _ => rfl) (s.clocking_forEach _ _ fun _ _ => rfl)

/-- A change of the PLL leaves the rest of the clocking, whatever it does to the length of the CK_SEQ cycle. -/
@[simp] theorem State.clocking_modPll (f : Pll → Pll) : (s.modPll f).clocking = (s.clock, s.dict, f s.pll, s.sync) := by
  simp only [State.modPll]
  split
  · rfl
  · obtain ⟨hclock, hdict, hpll, hsync⟩ := State.clocking_parts s.clocking_memSync
    rw [State.clocking_forEach _ _ _ fun i t => t.clocking_siteReclocked i]
    simp [State.clocking, hclock, hdict, hpll, hsync]

theorem State.clocking_modPll_of {s : State} {c : Time} {d : List (Nat × Nat)} {p : Pll} {y : SyncCtl} (f : Pll → Pll)
    (h : s.clocking = (c, d, p, y)) : (s.modPll f).clocking = (c, d, f p, y) := by
  cases h
  exact s.clocking_modPll f

theorem State.clocking_withAnchor {s : State} {c : Time} {d : List (Nat × Nat)} {p : Pll} {y : SyncCtl} (a : Option Time)
    (h : s.clocking = (c, d, p, y)) :
    ({ s with sync := { s.sync with anchor := a } } : State).clocking = (c, d, p, { y with anchor := a }) := by
  cases h
  rfl

theorem State.modPll_keepsSync (f : Pll → Pll) : s.KeepsSync (s.modPll f) :=
  .of_parts (s.clocking_modPll f) rfl rfl id

@[simp] theorem State.clocking_ckoAll : s.ckoAll.clocking = s.clocking := s.clocking_forEach _ _ fun _ _ => rfl

@[simp] theorem State.clocking_xipRestart : s.xipRestart.clocking = s.clocking := by
  unfold State.xipRestart; split <;> rfl

theorem State.modeEffect_keepsSync : s.KeepsSync s.modeEffect := by
  unfold State.modeEffect
  split
  · exact .trans (s.modPll_keepsSync _)
      (.of_clocking ((State.clocking_xipRestart _).trans (State.clocking_ckoAll _)))
  · exact .refl s

theorem State.pllLocked_keepsSync (endMark : Bool) : s.KeepsSync (s.pllLocked endMark) := by
  refine .trans ?_ (State.modeEffect_keepsSync _)
  split
  · exact .trans (.trans (s.modPll_keepsSync _) (State.gone_keepsSync _ _ _)) (.of_clocking (State.clocking_markAll _ ..))
  · exact .trans (s.modPll_keepsSync _) (State.gone_keepsSync _ _ _)

/-! ## Steps of the time base -/

/-- The PLL's record of a step by `d` grains, reported as `reported`. -/
def Pll.steppedBy (p : Pll) (d reported : Int) : Pll :=
  { p with lastStep := BitVec.ofInt 64 reported, slewFrom := addGrains p.slewFrom d,
           absorbFrom := p.absorbFrom.map (addGrains · d) }

/-- A step moves the time base and is reported by the PLL (R84). -/
theorem State.clocking_timeStep (d reported : Int) :
    (s.timeStep d reported).clocking = (addGrains s.clock d, s.dict, s.pll.steppedBy d reported, s.sync) := by
  simp only [State.timeStep, State.clocking_ite, State.clocking_epochPacket, ite_self, State.clocking_markAll]
  rfl

theorem State.timeStep_keepsSync (d reported : Int) : s.KeepsSync (s.timeStep d reported) :=
  .of_parts (s.clocking_timeStep d reported) rfl rfl id

theorem State.decideJ_keepsSync (j : Option Int) (atEdge : Bool) : s.KeepsSync (s.decideJ j atEdge) := by
  simp only [State.decideJ]
  split
  · exact .trans (s.modPll_keepsSync _) (State.modPll_keepsSync _ _)
  · split
    · exact .trans (.trans (s.modPll_keepsSync _) (State.modPll_keepsSync _ _)) (State.pllLocked_keepsSync _ true)
    · split
      · exact .trans (.trans (s.modPll_keepsSync _) (State.modPll_keepsSync _ _)) (.of_clocking (State.clocking_markAll _ ..))
      · split
        · exact .trans (.trans (s.modPll_keepsSync _) (State.timeStep_keepsSync _ _ _)) (State.modPll_keepsSync _ _)
        · exact .trans (s.modPll_keepsSync _) (State.modPll_keepsSync _ _)

/-! ## A SYNC_IN edge -/

/-- An edge that is not armed as EPOCH uses up the armed actions and leaves the rest of the clocking. -/
theorem State.clocking_syncActions_plain {s : State} (t : Time) (h : bitOf (s.cfg 0x2120 2) 0 = false) :
    (s.syncActions t).clocking = (s.setVal (addrOf 0x2120 2) 0).clocking := by
  simp only [State.syncActions, h, Bool.false_eq_true, if_false]
  split <;> rfl

/-- An edge armed as EPOCH uses up the armed actions, takes the time base to 0 at its corrected time and sets the anchor (R79,
R80). -/
theorem State.clocking_syncActions_epoch {s : State} (t : Time) (h : bitOf (s.cfg 0x2120 2) 0 = true) :
    ∃ p a, (s.syncActions t).clocking =
      (addGrains s.clock (-(t.toNat : Int)), (s.setVal (addrOf 0x2120 2) 0).dict, p, { s.sync with anchor := a }) ∧
      p.lastStep = BitVec.ofInt 64 (-(grains t : Int)) := by
  simp only [State.syncActions, h, if_true]
  generalize hu : ite (bitOf (s.cfg 0x2120 2) 1 = true) _ _ = u
  have hclocking : u.clocking = (s.setVal (addrOf 0x2120 2) 0).clocking := by
    rw [← hu]
    split <;> rfl
  obtain ⟨hclock, hdict, -, hsync⟩ := State.clocking_parts hclocking
  have hstep := u.clocking_timeStep (-(t.toNat : Int)) (-(grains t : Int))
  rw [hclock, hdict, hsync] at hstep
  generalize u.timeStep (-(t.toNat : Int)) (-(grains t : Int)) = v at hstep
  generalize ite (v.gridPeriod = 0) _ _ = a
  have hanchor := State.clocking_withAnchor a hstep
  split
  · exact ⟨_, a, State.clocking_modPll_of _ hanchor, rfl⟩
  · exact ⟨_, a, hanchor, rfl⟩

/-- An edge's actions keep what SYNC status stamps and counts, and write back the armed actions alone. -/
theorem State.syncActions_keeps (t : Time) : s.KeepsSync (s.syncActions t) ∧
    (s.syncActions t).dict = (s.setVal (addrOf 0x2120 2) 0).dict := by
  cases h : bitOf (s.cfg 0x2120 2) 0 with
  | false =>
    have hc := State.clocking_syncActions_plain t h
    exact ⟨(s.setVal_keepsSync _ _).trans (.of_clocking hc), congrArg (·.2.1) hc⟩
  | true =>
    obtain ⟨p, a, hc, -⟩ := State.clocking_syncActions_epoch t h
    exact ⟨.of_parts hc rfl rfl (s.setVal_wf _ _), congrArg (·.2.1) hc⟩

/-- `s` with an edge at corrected time `t` stamped and counted (R78). -/
def State.syncStamped (t : Time) : State := { s with sync := { s.sync with last := time64 t, count := s.sync.count + 1 } }

/-- Every accepted edge is stamped and comes to its actions; without a grid at its own time, with the time base and the applied
values as it found them. -/
theorem State.syncEdge_eq_syncActions (t : Time) : ∃ (u : State) (t' : Time), s.syncEdge t = u.syncActions t' ∧
    (s.syncStamped t).KeepsSync u ∧ (s.gridPeriod = 0 → t' = t ∧ u.clock = s.clock ∧ u.dict = s.dict) := by
  simp only [State.syncEdge]
  split
  · -- the first edge after a qualification without an anchor (R66)
    have hc := (s.syncStamped t).clocking_modPll fun q => { q with skipEdge := false }
    exact ⟨_, t, rfl, State.modPll_keepsSync _ _, fun _ => ⟨rfl, congrArg (·.1) hc, congrArg (·.2.1) hc⟩⟩
  · split
    · -- no grid
      exact ⟨_, t, rfl, .refl _, fun _ => ⟨rfl, rfl, rfl⟩⟩
    · next hgrid =>
      split
      · -- on the grid: J is decided in RETURN, and in LOCKED the anchor follows the edge (R66, R80)
        split
        · exact ⟨_, _, rfl, State.decideJ_keepsSync _ _ true, fun h => absurd h hgrid⟩
        · split
          · refine ⟨_, t, rfl, ?_, fun h => absurd h hgrid⟩
            split
            · exact .trans (State.present_keepsSync _ _ _ _ _) ⟨rfl, rfl, id⟩
            · exact ⟨rfl, rfl, id⟩
          · exact ⟨_, t, rfl, .refl _, fun h => absurd h hgrid⟩
      · -- the grid has no anchor yet
        split
        · exact ⟨_, t, rfl, ⟨rfl, rfl, id⟩, fun h => absurd h hgrid⟩
        · exact ⟨_, t, rfl, .refl _, fun h => absurd h hgrid⟩

theorem State.cfg_of_dict {s t : State} (h : t.dict = s.dict) (index sub : Nat) : t.cfg index sub = s.cfg index sub := by
  rw [State.cfg, State.cfg, State.val, State.val, h]

/-- The armed actions of an accepted edge are used up (R79). -/
theorem State.syncEdge_disarms (t : Time) (h : sparseWf initial s.dict = true) : (s.syncEdge t).cfg 0x2120 2 = 0 := by
  obtain ⟨u, t', hu, hkeeps, -⟩ := s.syncEdge_eq_syncActions t
  rw [hu, State.cfg_of_dict (u.syncActions_keeps t').2]
  exact u.val_setVal_same _ _ (hkeeps.wf h)

/-- An accepted edge is stamped with its corrected time and counted (R78). -/
theorem State.syncEdge_sync (t : Time) : (s.syncEdge t).sync.last = time64 t ∧ (s.syncEdge t).sync.count = s.sync.count + 1 := by
  obtain ⟨u, t', hu, hkeeps, -⟩ := s.syncEdge_eq_syncActions t
  rw [hu]
  have h := hkeeps.trans (u.syncActions_keeps t').1
  exact ⟨h.last, h.count⟩

/-- Without a grid an edge armed as EPOCH takes the time base to 0 at its corrected time. -/
theorem State.syncEdge_epoch {s : State} (t : Time) (hgrid : s.gridPeriod = 0) (harmed : bitOf (s.cfg 0x2120 2) 0 = true) :
    (s.syncEdge t).clock = addGrains s.clock (-(t.toNat : Int)) ∧
      (s.syncEdge t).pll.lastStep = BitVec.ofInt 64 (-(grains t : Int)) := by
  obtain ⟨u, t', hu, -, hfound⟩ := s.syncEdge_eq_syncActions t
  obtain ⟨rfl, hclock, hdict⟩ := hfound hgrid
  rw [← State.cfg_of_dict hdict] at harmed
  obtain ⟨p, a, hc, hlast⟩ := State.clocking_syncActions_epoch t' harmed
  rw [hu, ← hclock]
  exact ⟨congrArg (·.1) hc, (congrArg (·.2.2.1.lastStep) hc).trans hlast⟩

/-- Without a grid and without EPOCH an edge leaves the time base. -/
theorem State.syncEdge_plain {s : State} (t : Time) (hgrid : s.gridPeriod = 0) (harmed : bitOf (s.cfg 0x2120 2) 0 = false) :
    (s.syncEdge t).clock = s.clock := by
  obtain ⟨u, t', hu, -, hfound⟩ := s.syncEdge_eq_syncActions t
  obtain ⟨rfl, hclock, hdict⟩ := hfound hgrid
  rw [← State.cfg_of_dict hdict] at harmed
  rw [hu, ← hclock]
  exact congrArg (·.1) (State.clocking_syncActions_plain t' harmed)

end Sys2Proof.Machine
end

section
/-! PROOFS. The time base: wraps, SYNC_IN edges, later commands. -/
namespace Sys2Proof.Machine

variable (s : State)

/-! ## Wraps and later commands -/

theorem State.clocking_epochWrap :
    s.epochWrap.clocking = (BitVec.ofNat 68 ((epochOf s.clock + 1) * 2 ^ 52), s.dict, s.pll, s.sync) := by
  simp only [State.epochWrap, State.clocking_epochPacket, State.clocking_markAll]
  rfl

/-- The first grain of an epoch, in the 68 bits of a time. -/
theorem grains_epochStart (n : Nat) : grains (BitVec.ofNat 68 (n * 2 ^ 52)) = 0 := by
  rw [grains, BitVec.toNat_ofNat]; omega

theorem epochOf_epochStart (n : Nat) : epochOf (BitVec.ofNat 68 (n * 2 ^ 52)) = n % 2 ^ 16 := by
  rw [epochOf, BitVec.toNat_ofNat]; omega

theorem State.advance_not_before (t : Time) (h : before s.clock t = false) : s.advance t = s := by
  simp [State.advance, h]

/-! ## What an edge does before it is accepted -/

@[simp] theorem State.clocking_freqMiss (i : Fin 64) (f : Fin 2) (t : BitVec 76) (kept : Option (BitVec 76)) :
    (s.freqMiss i f t kept).clocking = s.clocking := by
  simp only [State.freqMiss]
  split <;> simp

@[simp] theorem State.clocking_lossFlags (i : Fin 64) (sel : Nat) (t : BitVec 76) (kept : Option (BitVec 76)) :
    (s.lossFlags i sel t kept).clocking = s.clocking := by
  simp only [State.lossFlags]
  refine .trans (State.clocking_forEach _ _ _ fun f u => by simp) (.trans (State.clocking_forEach _ _ _ fun k u => ?_) rfl)
  split <;> simp

@[simp] theorem State.clocking_countEdge (i : Fin 64) (sel : Nat) : (s.countEdge i sel).clocking = s.clocking := by
  simp [State.countEdge]

@[simp] theorem State.clocking_withSpecial (p : SpecialTdc) : ({ s with special := p } : State).clocking = s.clocking := rfl

@[simp] theorem State.clocking_specialEdge (k : Fin 5) (e : Capture) : (s.specialEdge k e).clocking = s.clocking := by
  have hcount : (s.forEach allSites fun i s => if s.capturing i then s.countEdge i (32 + k.val) else s).clocking = s.clocking :=
    s.clocking_forEach _ _ fun i u => by simp
  simp only [State.specialEdge]
  split
  · split
    · rw [State.clocking_withSpecial, hcount]
    · rw [State.clocking_forEach _ _ _ fun i u => by simp, State.clocking_withSpecial, hcount]
  · exact hcount

@[simp] theorem State.clocking_sendSync (t : Time) : (s.sendSync t).clocking = s.clocking := by
  simp only [State.sendSync]
  exact State.clocking_sendStamped _ ..

@[simp] theorem State.clocking_psqSync (i : Fin 64) (t : Time) : (s.psqSync i t).clocking = s.clocking := by
  have hresume (t : Time) : (s.psqResume i t none).clocking = s.clocking := rfl
  simp [State.psqSync, hresume]

/-- Where no run holds the converters after a run that is due has begun, none began. -/
theorem State.specialBegun_of_not_runs (h : s.specialBegun.special.runsAt s.specialBegun.clock = false) : s.specialBegun = s := by
  by_cases hdue : s.special.runsAt s.clock = true ∧ ¬ s.special.closed = true
  · obtain ⟨v, d, hclosed⟩ :=
      State.SitesDict.forEach s allSites (fun i s => s.specialClosed i) fun i t => t.specialClosed_sitesDict i
    have hruns : s.specialBegun.special.runsAt s.specialBegun.clock = s.special.runsAt s.clock := by
      rw [s.specialBegun_due hdue, hclosed]; rfl
    rw [hruns, hdue.1] at h
    cases h
  · exact if_neg hdue

/-! ## The SYNC_EDGE command -/

/-- The instant to which the capture of a SYNC_IN edge is resolved. -/
def State.syncInstant (coarse : BitVec 42) (fine : Fin 1280) : Time :=
  roundFine ((s.captured coarse fine false).raw s.special.convs[4])

/-- The state that an edge finds at its instant. -/
def State.syncFound (coarse : BitVec 42) (fine : Fin 1280) : State := (s.advance (s.syncInstant coarse fine)).specialBegun

/-- What an accepted edge leads to, of the state `w` in which it has been captured. -/
def State.syncTaken (w : State) (at0 : Time) : State :=
  let t := addGrains at0 (-w.skewOffset)
  (if bitOf (w.cfg 0x2200 1) 2 then w.sendSync t else w).syncAccepted t

variable {s : State} {coarse : BitVec 42} {fine : Fin 1280}

theorem exec_syncEdge_eq : exec (.syncEdge coarse fine) s =
    let v := s.syncFound coarse fine
    let w := v.specialEdge 4 (s.captured coarse fine false)
    if v.special.runsAt v.clock then .next v
    else if w.cfg 0x2120 1 = 0 then .next (w.syncTaken (s.syncInstant coarse fine)) else .next w := rfl

theorem exec_syncEdge_running (h : (s.syncFound coarse fine).special.runsAt (s.syncFound coarse fine).clock = true) :
    exec (.syncEdge coarse fine) s = .next (s.syncFound coarse fine) := by
  rw [exec_syncEdge_eq, if_pos h]

/-- Where no run holds the converters an edge finds the time base at its instant, and the rest of the clocking as it was. -/
theorem State.clocking_syncFound (h : (s.syncFound coarse fine).special.runsAt (s.syncFound coarse fine).clock = false) :
    (s.syncFound coarse fine).clocking = (laterOf s.clock (s.syncInstant coarse fine), s.dict, s.pll, s.sync) := by
  rw [State.syncFound, State.specialBegun_of_not_runs _ h]
  simp [State.clocking]

/-- The capture of an edge leaves the clocking. -/
theorem State.clocking_syncCaptured (h : (s.syncFound coarse fine).special.runsAt (s.syncFound coarse fine).clock = false) :
    ((s.syncFound coarse fine).specialEdge 4 (s.captured coarse fine false)).clocking =
      (laterOf s.clock (s.syncInstant coarse fine), s.dict, s.pll, s.sync) :=
  (State.clocking_specialEdge _ _ _).trans (State.clocking_syncFound h)

/-- With SOURCE not 0 an edge is captured alone. -/
theorem exec_syncEdge_captured (h : (s.syncFound coarse fine).special.runsAt (s.syncFound coarse fine).clock = false)
    (hsource : s.cfg 0x2120 1 ≠ 0) :
    exec (.syncEdge coarse fine) s = .next ((s.syncFound coarse fine).specialEdge 4 (s.captured coarse fine false)) := by
  obtain ⟨-, hdict, -, -⟩ := State.clocking_parts (State.clocking_syncCaptured h)
  rw [← State.cfg_of_dict hdict] at hsource
  rw [exec_syncEdge_eq, if_neg (by rw [h]; decide), if_neg hsource]

/-- An accepted edge is an edge of `State.syncEdge` at its corrected time; PSQs that it resumes and packets that it sends leave the
clocking. -/
theorem State.syncTaken_eq (w : State) (at0 : Time) :
    ∃ u : State, w.syncTaken at0 = u.syncEdge (addGrains at0 (-w.skewOffset)) ∧ u.clocking = w.clocking := by
  simp only [State.syncTaken, State.syncAccepted]
  exact ⟨_, rfl, by simp⟩

/-- With SOURCE 0 an edge is accepted at its corrected time, with the clocking as it is at its instant. -/
theorem exec_syncEdge_accepted (h : (s.syncFound coarse fine).special.runsAt (s.syncFound coarse fine).clock = false)
    (hsource : s.cfg 0x2120 1 = 0) : ∃ u : State,
    exec (.syncEdge coarse fine) s = .next (u.syncEdge (addGrains (s.syncInstant coarse fine) (-s.skewOffset))) ∧
    u.clocking = (laterOf s.clock (s.syncInstant coarse fine), s.dict, s.pll, s.sync) := by
  have hw := State.clocking_syncCaptured h
  rw [exec_syncEdge_eq, if_neg (by rw [h]; decide)]
  generalize (s.syncFound coarse fine).specialEdge 4 (s.captured coarse fine false) = w at hw ⊢
  obtain ⟨-, hdict, -, -⟩ := State.clocking_parts hw
  have hskew : w.skewOffset = s.skewOffset := by rw [State.skewOffset, State.cfg_of_dict hdict, State.skewOffset]
  obtain ⟨u, hu, hc⟩ := w.syncTaken_eq (s.syncInstant coarse fine)
  rw [if_pos (by rw [State.cfg_of_dict hdict, hsource]), hu, hskew]
  exact ⟨u, rfl, hc.trans hw⟩

end Sys2Proof.Machine

namespace Sys2Proof.Proofs
open Sys2Proof.Machine

/-- Settles O25: an accepted edge finds the clocking of its instant and comes to its actions, which alone step the time base. -/
theorem timeBaseEvents : Obligations.TimeBaseEvents := by
  intro s
  refine ⟨⟨s.epochWrap, rfl, ?_⟩, fun coarse fine => ?_, fun coarse fine => ?_, fun T => ?_⟩
  · obtain ⟨hclock, hdict, hpll, -⟩ := State.clocking_parts s.clocking_epochWrap
    rw [hclock]
    exact ⟨grains_epochStart _, epochOf_epochStart _, hdict, hpll⟩
  · intro at0 v hruns hsource corrected
    obtain ⟨u, hexec, hu⟩ := exec_syncEdge_accepted hruns hsource
    obtain ⟨hclock, hdict, -, hsync⟩ := State.clocking_parts hu
    have hgrid : u.gridPeriod = s.gridPeriod := by rw [State.gridPeriod, State.cfg_of_dict hdict, State.gridPeriod]
    obtain ⟨hlast, hcount⟩ := u.syncEdge_sync corrected
    refine ⟨_, hexec, hlast, hsync ▸ hcount, fun hwf => u.syncEdge_disarms _ (hdict ▸ hwf), fun h0 harmed => ?_,
      fun h0 hplain => ?_⟩
    · rw [← State.cfg_of_dict hdict] at harmed
      exact hclock ▸ State.syncEdge_epoch corrected (hgrid.trans h0) harmed
    · rw [← State.cfg_of_dict hdict] at hplain
      exact hclock ▸ State.syncEdge_plain corrected (hgrid.trans h0) hplain
  · intro at0 v
    refine ⟨fun hruns hsource => ⟨_, exec_syncEdge_captured hruns hsource, ?_⟩, exec_syncEdge_running⟩
    obtain ⟨-, hdict, hpll, hsync⟩ := State.clocking_parts (State.clocking_syncCaptured hruns)
    exact ⟨hsync, hdict, hpll⟩
  · exact ⟨s.advance_clock T, s.advance_dict T, fun hlater hepoch => s.advance_same T hepoch hlater, s.advance_not_before T⟩

end Sys2Proof.Proofs
end

section
/-! PROOFS. Comparator edges: what an edge of one cell leaves of the others, and a SPECIAL run that the edge finds due. -/
namespace Sys2Proof.Machine

variable (s : State)

/-! ## The other cells of the site -/

@[simp] theorem State.cell_modTdc (i : Fin 64) (f : Tdc → Tdc) (j : Fin 64) (d : Fin 8) : (s.modTdc i f).cell j d = s.cell j d :=
  congrArg (·[d.val]) (s.modTdc_site_cells i f j)

@[simp] theorem State.cell_modTdcCell (i : Fin 64) (c : Fin 8) (f : CellTdc → CellTdc) (j : Fin 64) (d : Fin 8) :
    (s.modTdcCell i c f).cell j d = s.cell j d := s.cell_modTdc ..

@[simp] theorem State.cell_modInt (i : Fin 64) (k : Fin 4) (f : Interval → Interval) (j : Fin 64) (d : Fin 8) :
    (s.modInt i k f).cell j d = s.cell j d := s.cell_modTdc ..

@[simp] theorem State.cell_modFreq (i : Fin 64) (k : Fin 2) (f : FreqChan → FreqChan) (j : Fin 64) (d : Fin 8) :
    (s.modFreq i k f).cell j d = s.cell j d := s.cell_modTdc ..

@[simp] theorem State.cell_modBushel (i : Fin 64) (f : Bushel → Bushel) (j : Fin 64) (d : Fin 8) :
    (s.modBushel i f).cell j d = s.cell j d :=
  congrArg (·[d.val]) (s.modBushel_site_cells i f j)

theorem State.cell_modCell_other (i : Fin 64) {c d : Fin 8} (f : PinCell → PinCell) (h : d ≠ c) :
    (s.modCell i c f).cell i d = s.cell i d := by
  rw [State.cell, State.modCell, State.site_modSite_same]
  exact vmod_other _ c d f h.symm

theorem State.cell_ite (p : Prop) [Decidable p] (t u : State) (j : Fin 64) (d : Fin 8) :
    (if p then t else u).cell j d = if p then t.cell j d else u.cell j d := apply_ite (·.cell j d) p t u

@[simp] theorem State.cell_forEach {α : Type} (l : List α) (g : α → State → State) (j : Fin 64) (d : Fin 8)
    (h : ∀ a (t : State), (g a t).cell j d = t.cell j d) : (s.forEach l g).cell j d = s.cell j d :=
  s.forEach_inv (·.cell j d = s.cell j d) l g (fun a t ht => (h a t).trans ht) rfl

@[simp] theorem State.cell_countEdge (i : Fin 64) (sel : Nat) (j : Fin 64) (d : Fin 8) :
    (s.countEdge i sel).cell j d = s.cell j d := by
  refine s.cell_forEach _ _ j d fun f t => ?_
  split <;> simp

@[simp] theorem State.cell_freqMiss (i : Fin 64) (f : Fin 2) (t : BitVec 76) (kept : Option (BitVec 76)) (j : Fin 64) (d : Fin 8) :
    (s.freqMiss i f t kept).cell j d = s.cell j d := by
  simp only [State.freqMiss]
  split <;> split <;> simp

@[simp] theorem State.cell_lossFlags (i : Fin 64) (sel : Nat) (t : BitVec 76) (kept : Option (BitVec 76)) (j : Fin 64) (d : Fin 8) :
    (s.lossFlags i sel t kept).cell j d = s.cell j d := by
  refine (State.cell_forEach _ _ _ j d fun f u => ?_).trans ((State.cell_forEach _ _ _ j d fun k u => ?_).trans (s.cell_modTdc ..))
  · split <;> simp
  · split
    · split <;> simp
    · rfl

variable (i : Fin 64) {c d : Fin 8}

theorem State.cell_stampLoss_other (n : Nat) (h : d ≠ c) : (s.stampLoss i c n).cell i d = s.cell i d :=
  (State.cell_modCell_other _ i _ h).trans (s.cell_modTdcCell ..)

/-- An edge at a capture register of one cell leaves the other cells: STAMP_OVF rises in its own cell. -/
theorem State.cell_captureEdge_other (hi : Bool) (e : Capture) (h : d ≠ c) : (s.captureEdge i c hi e).cell i d = s.cell i d := by
  simp only [State.captureEdge]
  split
  · rw [State.cell_ite]
    split
    · split <;> simp [State.cell_ite, State.cell_stampLoss_other, h]
    · simp
  · rfl

theorem State.cell_cmpTurn_other (hi : Bool) (e : Capture) (h : d ≠ c) : (s.cmpTurn i c hi e).cell i d = s.cell i d :=
  (State.cell_captureEdge_other _ i hi e h).trans (s.cell_modCell_other i _ h)

/-! ## What an edge finds -/

/-- The capture of an edge of an output of a cell. -/
def State.cmpCapture (c : Fin 8) (hi : Bool) (coarse : BitVec 42) (fine : Fin 1280) : Capture :=
  s.captured coarse fine (if hi then (s.cell i c).cmpHi else (s.cell i c).cmpLo)

/-- The state that an edge finds: the time base stands at the edge, and a SPECIAL run that has come due by then has begun. -/
def State.cmpFound (c : Fin 8) (e : Capture) : State := (s.advance (roundFine (s.padTime i c e))).specialBegun

theorem exec_cmpEdge_live {s : State} {i : Fin 64} {c : Fin 8} (hi : Bool) (coarse : BitVec 42) (fine : Fin 1280)
    (hlive : ¬ (s.siteState i = .off ∨ field (s.pcMode i c) 7 6 ≠ 0 ∨ s.cmpInternal i = true)) :
    exec (.cmpEdge i c hi coarse fine) s =
      let e := s.cmpCapture i c hi coarse fine
      let u := (s.cmpFound i c e).cmpTurn i c hi e
      .next ((if cmpFollows hi e.fall (u.cmpEqual i c) (if hi then (s.cell i c).cmpLo else (s.cell i c).cmpHi) then
        u.cmpTurn i c (!hi) e else u).bushelEdge i (roundFine (s.padTime i c e))) :=
  if_neg hlive

/-- An edge leaves the other cells of its site as it finds them. -/
theorem exec_cmpEdge_other {s t : State} {i : Fin 64} {hi : Bool} {coarse : BitVec 42} {fine : Fin 1280}
    (hlive : ¬ (s.siteState i = .off ∨ field (s.pcMode i c) 7 6 ≠ 0 ∨ s.cmpInternal i = true))
    (ht : exec (.cmpEdge i c hi coarse fine) s = .next t) (h : d ≠ c) :
    t.cell i d = (s.cmpFound i c (s.cmpCapture i c hi coarse fine)).cell i d := by
  rw [exec_cmpEdge_live _ _ _ hlive] at ht
  rw [← Host.Outcome.next.inj ht, State.bushelEdge, State.cell_modBushel, State.cell_ite]
  simp [State.cell_cmpTurn_other, h]

/-! ## A SPECIAL run that starts -/

/-- In a site whose channels are as after reset a SPECIAL run that starts has nothing to close. -/
theorem State.specialClosed_tdcReset {s : State} {i : Fin 64} (h : (s.site i).tdc = Tdc.reset) : s.specialClosed i = s := by
  refine State.forEach_inv _ (· = s) _ _ (fun f t ht => ?_) (s.forEach_inv (· = s) _ _ (fun k t ht => ?_) rfl)
  · subst ht
    have hgate : ((t.site i).tdc.freqs[f.val]).gate = none := by simp [h, Tdc.reset, FreqChan.reset]
    simp [hgate]
  · subst ht
    have hidle : ((t.site i).tdc.ints[k.val]).state = .idle := by simp [h, Tdc.reset, Interval.reset]
    simp [State.intTimeout, hidle]

theorem State.cell_withSpecial (s : State) (p : SpecialTdc) (i : Fin 64) (c : Fin 8) :
    ({ s with special := p } : State).cell i c = s.cell i c := rfl

theorem State.forEach_cons {α : Type} (s : State) (a : α) (l : List α) (g : α → State → State) :
    s.forEach (a :: l) g = (g a s).forEach l g := rfl

/-- The cells as a SPECIAL run that starts leaves them: site 0 is the first of the loop. -/
theorem State.cell_specialBegun_due {s : State} (h : s.special.runsAt s.clock = true ∧ ¬ s.special.closed = true) (i : Fin 64)
    (c : Fin 8) :
    s.specialBegun.cell i c = ((s.specialClosed 0).forEach allSites.tail fun i s => s.specialClosed i).cell i c := by
  have hsites : allSites = 0 :: allSites.tail := by decide +kernel
  rw [s.specialBegun_due h, ← s.forEach_cons 0 allSites.tail fun i s => s.specialClosed i, ← hsites]
  exact State.cell_withSpecial _ _ i c

/-! ## An edge that a cell captures with its delay -/

theorem roundFine_delayed {n d : Nat} (hd : d ≤ n) (hn : n < 2 ^ 68) :
    roundFine (BitVec.ofNat 76 (n * 256) - BitVec.ofNat 76 (d * 256)) = BitVec.ofNat 68 (n - d) := by
  apply BitVec.eq_of_toNat_eq
  simp only [roundFine, BitVec.toNat_sub, BitVec.toNat_ofNat]
  omega

theorem before_earlier {n d : Nat} (hd : d ≤ n) (hn : n < 2 ^ 67) :
    before (BitVec.ofNat 68 n) (BitVec.ofNat 68 (n - d)) = false := by
  rcases Nat.eq_zero_or_pos d with rfl | hpos
  · simp [before]
  · have hspan : ¬ (BitVec.ofNat 68 (n - d) - BitVec.ofNat 68 n).toNat < 2 ^ 67 := by
      simp only [BitVec.toNat_sub, BitVec.toNat_ofNat]
      omega
    rw [before, decide_eq_false hspan, Bool.false_and]

/-! ## A record that is lost as a SPECIAL run starts -/

/-- Site 0 READY with a full stamp queue at cell 0, which REC_CELL names, and its interval channel 0 STARTED by TRIG_IN0 (selector
32); a SPECIAL run has come due at the present time and has not begun. -/
def lostRecord : State :=
  let start : Seen := { sel := 32, t := 0, est := false, steps := 0, stepN := 0 }
  let s := (State.reset.modCtl 0 fun c => { c with state := .ready }).modInt 0 0 fun ch => { ch with state := .started start }
  let s := s.modTdcCell 0 0 fun q => { q with queue := List.replicate 64 { word := 0, epoch := 0 } }
  { s.setVal (siteAddr 0 0xE1 1) (32 + 2 ^ 14) with
    clock := 10240
    special := { s.special with start := some 10240 } }

/-- The comparators of cell 1 are on their ball in CONTINUOUS. -/
theorem lostRecord_live : lostRecord.siteState 0 ≠ .off ∧ field (lostRecord.pcMode 0 1) 7 6 = 0 ∧
    lostRecord.cmpInternal 0 = false := by decide +kernel

/-- CK_PAT edge 8 lies at the present time, and the pad time before it by the cell's delay, whatever that is: nothing moves on. -/
theorem lostRecord_found (hi : Bool) :
    lostRecord.cmpFound 0 1 (lostRecord.cmpCapture 0 1 hi 8 0) = lostRecord.specialBegun := by
  have hraw : (lostRecord.cmpCapture 0 1 hi 8 0).raw (lostRecord.cellConv 0 1) = BitVec.ofNat 76 (10240 * 256) := by
    decide +revert +kernel
  have htrace : lostRecord.siteCfg 0 0x50 2 = 0 := by decide +kernel
  have hdelay := (Config.cellDelay 1).isLt
  have htime : lostRecord.padTime 0 1 (lostRecord.cmpCapture 0 1 hi 8 0) =
      BitVec.ofNat 76 (10240 * 256) - BitVec.ofNat 76 ((4 * 0 + (Config.cellDelay 1).toNat) * 256) := by
    rw [← hraw, ← htrace]; rfl
  have hearlier := before_earlier (n := 10240) (d := 4 * 0 + (Config.cellDelay 1).toNat) (by omega) (by decide)
  rw [State.cmpFound, htime, roundFine_delayed (by omega) (by decide)]
  exact congrArg State.specialBegun (lostRecord.advance_not_before _ hearlier)

/-- The run closes the record of channel 0, for which the queue of REC_CELL has no room: STAMP_OVF rises in cell 0. -/
theorem lostRecord_specialClosed : ((lostRecord.specialClosed 0).cell 0 0).flags = 1#10 <<< 4 ∧ (lostRecord.cell 0 0).flags = 0 ∧
    ∀ i ∈ allSites.tail, ((lostRecord.specialClosed 0).site i).tdc = Tdc.reset := by
  decide +kernel

theorem lostRecord_specialBegun : lostRecord.specialBegun.cell 0 0 = (lostRecord.specialClosed 0).cell 0 0 := by
  obtain ⟨-, -, hreset⟩ := lostRecord_specialClosed
  have hloop : (lostRecord.specialClosed 0).forEach allSites.tail (fun i s => s.specialClosed i) = lostRecord.specialClosed 0 :=
    State.forEach_mem_inv _ (· = lostRecord.specialClosed 0) _ _
      (fun i hi t ht => (State.specialClosed_tdcReset (ht ▸ hreset i hi)).trans ht) rfl
  rw [State.cell_specialBegun_due (by decide +kernel), hloop]

end Sys2Proof.Machine

namespace Sys2Proof.Proofs
open Sys2Proof.Machine

/-- Refutes O33: an edge of cell 1 does not leave cell 0 as it was where a SPECIAL run has come due. The run begins first (R263),
closes the record of an interval channel on a special source, and that record finds the queue of REC_CELL full: it is lost, and
STAMP_OVF of cell 0 rises (R249, R251). -/
theorem not_pinEvents : ¬ Obligations.PinEvents := by
  intro h
  obtain ⟨hstate, hmode, hinternal⟩ := lostRecord_live
  obtain ⟨-, hedge, -⟩ := h lostRecord 0 1
  obtain ⟨t, ht, -, -, -, hothers⟩ := hedge true 8 0 hstate hmode hinternal
  have hfound := exec_cmpEdge_other (d := 0) (by simp [hstate, hmode, hinternal]) ht (by decide)
  rw [lostRecord_found, lostRecord_specialBegun, hothers 0 (by decide)] at hfound
  obtain ⟨hset, hclear, -⟩ := lostRecord_specialClosed
  rw [← hfound, hclear] at hset
  exact absurd hset (by decide)

end Sys2Proof.Proofs
end

section
/-! PROOFS. The RESULTS word of a full block of vectors, where the region's spare DSP serves the site. -/
namespace Sys2Proof.Machine

/-- A state that differs in the time base, the sites and the MARK balls alone has the regions. -/
theorem State.region_of_outside {s t : State} {c : Time} {v : Vector Site 64} {b : Vector MarkBall 16}
    (h : t = { s with clock := c, sites := v, balls := b }) (q : Fin 4) : t.region q = s.region q := by
  subst h; rfl

/-- A vector of KEEP codes with opcode ADV, timing set 0 and no marker. -/
def keepVector : BitVec 64 := 0xCCCCCCCC

/-- Site 0, which the spare of its region serves, RUNNING with PSQ_RES = 1 and k = 0: 15 vectors of a block of 16 have executed,
and `keepVector` is due. -/
def blockNearlyFull : State :=
  let s := (State.reset.setVal (regionAddr 0 0x40 1) 1).setVal (siteAddr 0 0xE4 1) (2 ^ 22)
  let s := (s.modCtl 0 fun c => { c with state := .running }).modPsq 0 fun p =>
    { p with state := .run, vectors := 15, segs := vmod p.segs 0 fun g => { g with filled := true, mem := [(0, keepVector)] } }
  s.modStream 0 fun m => { m with resBlock := 15 }

/-- `blockNearlyFull` at the end of its vector. -/
def blockFilled : State := blockNearlyFull.vecThen 0 keepVector ⟨0, 0, 0⟩ true false id

/-- The vector is one that the statement speaks of: due, without a collision, and its period ends in the epoch. -/
theorem blockNearlyFull_executes : (blockNearlyFull.psq 0).state = .run ∧
    (∀ c, (blockFilled.cell 0 c).collision = false) ∧ epochOf blockFilled.clock = epochOf blockNearlyFull.clock := by
  decide +kernel

/-- The 16th vector fills the block (R284), and its word stands in the output queue of the spare that serves the site (R455). -/
theorem blockFilled_spare : blockNearlyFull.spareServes 0 = true ∧ blockNearlyFull.psqRes 0 = true ∧
    (blockNearlyFull.region 0).spare.outq = [] ∧
    (blockFilled.region 0).spare.outq = [{ stream := .results, sub := 1, word := 0xA500000000000000 }] := by
  decide +kernel

end Sys2Proof.Machine

namespace Sys2Proof.Proofs
open Sys2Proof.Machine

/-- Refutes O27: a vector does not leave everything outside the site as it was. With PSQ_RES = 1 the vector that fills a block
emits a RESULTS word (R284), and where the spare DSP serves the site that word enters the output queue of the spare (R455),
which is part of the region. -/
theorem not_vectorExecutes : ¬ Obligations.VectorExecutes := by
  intro h
  obtain ⟨hrun, hcalm, hepoch⟩ := blockNearlyFull_executes
  have hnew (c : Fin 8) (hc : (blockFilled.cell 0 c).collision = true) : (blockNearlyFull.cell 0 c).collision = true :=
    absurd hc (Bool.eq_false_iff.1 (hcalm c))
  obtain ⟨-, -, -, -, -, -, -, -, -, -, -, -, -, -, hframe⟩ :=
    h blockNearlyFull 0 keepVector ⟨0, 0, 0⟩ true false hrun hnew
  obtain ⟨houtside, -⟩ := hframe hepoch
  have hkept : blockFilled.region 0 = blockNearlyFull.region 0 := State.region_of_outside houtside 0
  obtain ⟨-, -, hempty, hword⟩ := blockFilled_spare
  rw [hkept, hempty] at hword
  cases hword

end Sys2Proof.Proofs
end
